-- ==== Sys2Proof/Word.lean ====
section
/-!
DEFINITION. The words of the TF884x: the widths that the spec names, the exact rounding and saturation of R63 and R64 as
plain integer functions, and the sparse words-by-address maps in which every memory of State is held.
-/

namespace Sys2Proof

/-- A 32-bit word: program words, delay words, MRAM words and host registers. -/
abbrev Word := BitVec 32
/-- One byte on a host port. -/
abbrev Byte := BitVec 8
/-- R60: a Q1.23 sample or data word. -/
abbrev Sample := BitVec 24
/-- R60: an accumulator, 8 guard bits over Q1.47. -/
abbrev Acc := BitVec 56

/-- A memory as plain data: (address, value) pairs with strictly rising addresses, none of them equal to the memory's
default value.  An unlisted address holds the default. -/
abbrev Map (α : Type) := List (Nat × α)

/-- R52: the serial comparison of two n-bit counts held as naturals: `a` is newer than `b`. -/
def serialGt (n a b : Nat) : Bool :=
  let d := (a + 2 ^ n - b % 2 ^ n) % 2 ^ n
  0 < d && d < 2 ^ (n - 1)

end Sys2Proof
end

