-- ==== Sys2Proof/Syntax.lean ====
section
/-!
DEFINITION. The commands of the device: one constructor per row of the command table, with the operands that the event,
instruction or access carries, and the small types those operands use.
-/

namespace Sys2Proof

/-- R18: the two core dies, their feeds and their clocks: `a` is CA, VFEED_A, XOA; `b` is CB, VFEED_B, XOB. -/
inductive Side | a | b
  deriving DecidableEq, Repr

/-- R357: the three hosts. -/
inductive HostId | a | b | c
  deriving DecidableEq, Repr

/-- R331: the ports, in the order of VIEW_ID.PORT. -/
inductive PortId | h0 | h1 | p | f
  deriving DecidableEq, Repr

/-- R335: a view as one port opens it. -/
structure PortView where
  port : PortId
  host : HostId
  deriving DecidableEq, Repr

/-- R331: the two-wire ports. -/
inductive TwId | h0 | h1 | p
  deriving DecidableEq, Repr

/-- R3: the variants. -/
inductive Variant | tf8840 | tf8842 | tf8844
  deriving DecidableEq, Repr

/-- R25: the frame length F in 48 kHz samples. -/
inductive FrameLen | f16 | f32 | f48 | f96
  deriving DecidableEq, Repr

/-- R122: an engine number: 0-23 for E0-E23, 24 for SV, 25 for WE. -/
abbrev Eng := Fin 26

/-- R91: the two parallel moves of a parallel-arithmetic instruction. -/
structure Moves where
  xk : BitVec 2
  xr : BitVec 2
  xp : BitVec 2
  xm : BitVec 3
  yk : BitVec 2
  yr : BitVec 2
  yp : BitVec 2
  ym : BitVec 3
  deriving DecidableEq, Repr

/-- R194, R208: what a power die measured in a frame: VRAIL in 10 mV at the centre of each switching period, whether its input
limit acted, and TJ (log 14). -/
structure DieMeas where
  vrail : List (BitVec 16)
  ilimIn : Bool
  tj : BitVec 8
  deriving DecidableEq, Repr

/-- What the world delivered to the device during the frame that ends (log 14): the samples that inputs 0-15 (numbered as in
INDOM) captured at 384 kHz, the slot words of the TDM receivers by receive slot address at their partner's rate, and the
measurements of the power dies in their order. -/
structure BoundaryIn where
  inputs : List (Nat × List Sample)
  tdm : List (Nat × List Word)
  dies : List DieMeas
  deriving DecidableEq, Repr

/-- R201, R210: the bank S0 samples of a bridge end over a measurement: its voltage and its inductor current (log 14). -/
structure EndMeas where
  v : List (BitVec 16)
  i : List (BitVec 16)
  deriving DecidableEq, Repr

/-- R216, R217: the samples of a 50 ms pilot window: those of the line's bridge or end A, and those of end B of a loop. -/
structure PilotMeas where
  a : EndMeas
  b : EndMeas
  deriving DecidableEq, Repr

/-- R222: the samples of a sweep direction at the measuring end, period by period. -/
structure SweepMeas where
  periods : List EndMeas
  deriving DecidableEq, Repr

/-- R227: the samples of the earth channel over the last 40 ms of each half of a test. -/
structure EarthMeas where
  plus : List (BitVec 16)
  minus : List (BitVec 16)
  deriving DecidableEq, Repr

/-- R254-R256, R268: the conversions that a scan forms its values from, by channel 0-15; on channel 14 those of the sensor that
the scan converts (log 14). -/
structure ScanMeas where
  convs : List (List (BitVec 16))
  deriving DecidableEq, Repr

/-- R349-R351: how a port-P transfer or bus clear ended on the wire; `addrNack` names the first or the second address byte. -/
inductive PcEnd
  | done (rx : List Byte)
  | addrNack (second : Bool)
  | dataNack (acked : Nat)
  | txEmpty (sent : Nat)
  | sdaStuck
  | sclStuck
  deriving DecidableEq, Repr

/-- The commands: one constructor per row of the command table. -/
inductive Instr where
  /-- FRAME_BOUNDARY (R26). -/
  | frameBoundary (inp : BoundaryIn)
  /-- KEEPER_BOUNDARY (R290). -/
  | keeperBoundary
  /-- COPY_ACK (R293). -/
  | copyAck
  /-- MIRROR_LINK_FAULT (R293). -/
  | mirrorLinkFault (crc : Bool)
  /-- FILL_COMPLETE (R297). -/
  | fillComplete
  /-- WATCHDOG_EXPIRY (R84). -/
  | watchdogExpiry
  /-- TAKE_COMMAND (R305). -/
  | takeCommand (pv : PortView) (v : Word)
  /-- TAKE_LAPSE (R305). -/
  | takeLapse
  /-- SIDE_DAWN_REQUEST (R303). -/
  | sideDawnRequest (pv : PortView) (v : Word)
  /-- SIDE_DAWN_RETRY (R303). -/
  | sideDawnRetry (x : Side)
  /-- FEED_PRESENT (R287). -/
  | feedPresent (x : Side)
  /-- FEED_LOW (R287). -/
  | feedLow (x : Side)
  /-- FEED_LOW_CLEAR (R287). -/
  | feedLowClear (x : Side)
  /-- FEED_LOSS (R288). -/
  | feedLoss (x : Side)
  /-- FEED_OVERVOLTAGE (R287). -/
  | feedOvervoltage (x : Side)
  /-- FEED_OV_CLEAR (R287). -/
  | feedOvClear (x : Side) (present : Bool)
  /-- CK32_FAILURE (R42). -/
  | ck32Failure
  /-- CK32_RETURN (R42). -/
  | ck32Return
  /-- CK32_START_TIMEOUT (R42). -/
  | ck32StartTimeout
  /-- KF_LOCK_LOSS (R40). -/
  | kfLockLoss
  /-- CRYSTAL_PLL_FAILURE (R46). -/
  | crystalPllFailure (x : Side) (pll : Bool)
  /-- ENGINE_CLOCK_LOSS (R40). -/
  | engineClockLoss (x : Side)
  /-- SADC_LOCK_LOSS (R40). -/
  | sadcLockLoss
  /-- CONVERTER_LINK_LOSS (R20). -/
  | converterLinkLoss
  /-- CLOCK_ERROR_MUTE (R202). -/
  | clockErrorMute (d : Fin 4)
  /-- CLOCK_VALID (R198). -/
  | clockValid (d : Fin 4)
  /-- ALARM_FIRE (R54). -/
  | alarmFire (n : Fin 2)
  /-- PERIODIC_TIMER_FIRE (R54). -/
  | periodicTimerFire
  /-- TRIM_INTERVAL_END (R51). -/
  | trimIntervalEnd
  /-- UTIME_LOAD (R49). -/
  | utimeLoad (pv : PortView) (v : Word)
  /-- PERMIT_MINUTE (R247). -/
  | permitMinute
  /-- MESSAGE_RECHECK (R386). -/
  | messageRecheck
  /-- NOP (R88). -/
  | nop (e : Eng)
  /-- ILLEGAL_INSTRUCTION (R128). -/
  | illegalInstruction (e : Eng) (w : Word)
  /-- PMOV (R95). -/
  | pmov (e : Eng) (d : BitVec 2) (sel : BitVec 4) (mv : Moves)
  /-- MPY (R95). -/
  | mpy (e : Eng) (d : BitVec 2) (sel : BitVec 4) (mv : Moves)
  /-- MPYN (R95). -/
  | mpyn (e : Eng) (d : BitVec 2) (sel : BitVec 4) (mv : Moves)
  /-- MAC (R95). -/
  | mac (e : Eng) (d : BitVec 2) (sel : BitVec 4) (mv : Moves)
  /-- MACN (R95). -/
  | macn (e : Eng) (d : BitVec 2) (sel : BitVec 4) (mv : Moves)
  /-- MACR (R95). -/
  | macr (e : Eng) (d : BitVec 2) (sel : BitVec 4) (mv : Moves)
  /-- MACNR (R95). -/
  | macnr (e : Eng) (d : BitVec 2) (sel : BitVec 4) (mv : Moves)
  /-- ADD (R95). -/
  | add (e : Eng) (d : BitVec 2) (sel : BitVec 4) (mv : Moves)
  /-- SUB (R95). -/
  | sub (e : Eng) (d : BitVec 2) (sel : BitVec 4) (mv : Moves)
  /-- MOVA (R95). -/
  | mova (e : Eng) (d : BitVec 2) (sel : BitVec 4) (mv : Moves)
  /-- NEG (R95). -/
  | neg (e : Eng) (d : BitVec 2) (sel : BitVec 4) (mv : Moves)
  /-- ABS (R95). -/
  | abs (e : Eng) (d : BitVec 2) (sel : BitVec 4) (mv : Moves)
  /-- CMP (R95). -/
  | cmp (e : Eng) (d : BitVec 2) (sel : BitVec 4) (mv : Moves)
  /-- CLR (R95). -/
  | clr (e : Eng) (d : BitVec 2) (sel : BitVec 4) (mv : Moves)
  /-- RND (R95). -/
  | rnd (e : Eng) (d : BitVec 2) (sel : BitVec 4) (mv : Moves)
  /-- LIM (R95). -/
  | lim (e : Eng) (d : BitVec 2) (sel : BitVec 4) (mv : Moves)
  /-- AND (R95). -/
  | and (e : Eng) (d : BitVec 2) (sel : BitVec 4) (mv : Moves)
  /-- OR (R95). -/
  | or (e : Eng) (d : BitVec 2) (sel : BitVec 4) (mv : Moves)
  /-- XOR (R95). -/
  | xor (e : Eng) (d : BitVec 2) (sel : BitVec 4) (mv : Moves)
  /-- NOT (R95). -/
  | not (e : Eng) (d : BitVec 2) (sel : BitVec 4) (mv : Moves)
  /-- ASL (R95). -/
  | asl (e : Eng) (d : BitVec 2) (sel : BitVec 4) (mv : Moves)
  /-- ASR (R95). -/
  | asr (e : Eng) (d : BitVec 2) (sel : BitVec 4) (mv : Moves)
  /-- LSR (R95). -/
  | lsr (e : Eng) (d : BitVec 2) (sel : BitVec 4) (mv : Moves)
  /-- MAX (R95). -/
  | max (e : Eng) (d : BitVec 2) (sel : BitVec 4) (mv : Moves)
  /-- MIN (R95). -/
  | min (e : Eng) (d : BitVec 2) (sel : BitVec 4) (mv : Moves)
  /-- MAXI (R97). -/
  | maxi (e : Eng) (d : BitVec 2) (sel : BitVec 4) (mv : Moves)
  /-- MINI (R97). -/
  | mini (e : Eng) (d : BitVec 2) (sel : BitVec 4) (mv : Moves)
  /-- MAXAI (R97). -/
  | maxai (e : Eng) (d : BitVec 2) (sel : BitVec 4) (mv : Moves)
  /-- MOV (R100). -/
  | mov (e : Eng) (dst src : BitVec 6)
  /-- LDX (R102). -/
  | ldx (e : Eng) (reg : BitVec 2) (imm : BitVec 24)
  /-- LDA (R102). -/
  | lda (e : Eng) (reg : BitVec 2) (imm : BitVec 24)
  /-- LDI (R102). -/
  | ldi (e : Eng) (dst : BitVec 6) (imm : BitVec 22)
  /-- MVX (R103). -/
  | mvx (e : Eng) (st : Bool) (reg : BitVec 3) (addr : BitVec 12)
  /-- MVY (R103). -/
  | mvy (e : Eng) (st : Bool) (reg : BitVec 3) (addr : BitVec 12)
  /-- ASH (R104). -/
  | ash (e : Eng) (rnd : Bool) (d src : BitVec 2) (k : BitVec 6)
  /-- LSH (R104). -/
  | lsh (e : Eng) (rnd : Bool) (d src : BitVec 2) (k : BitVec 6)
  /-- CLS (R104). -/
  | cls (e : Eng) (rnd : Bool) (d src : BitVec 2) (k : BitVec 6)
  /-- ADDI (R105). -/
  | addi (e : Eng) (dst : BitVec 6) (imm : BitVec 21)
  /-- BRA (R112). -/
  | bra (e : Eng) (cond : BitVec 4) (addr : BitVec 13)
  /-- CALL (R112). -/
  | call (e : Eng) (cond : BitVec 4) (addr : BitVec 13)
  /-- RET (R112). -/
  | ret (e : Eng) (cond : BitVec 4)
  /-- LOOP (R112). -/
  | loop (e : Eng) (count : BitVec 11) (stop : BitVec 13)
  /-- LOOPR (R112). -/
  | loopr (e : Eng) (creg : BitVec 6) (stop : BitVec 13)
  /-- EXIT (R112). -/
  | exit (e : Eng) (cond : BitVec 4)
  /-- BRX (R112). -/
  | brx (e : Eng) (cond : BitVec 4) (addr : BitVec 13)
  /-- SIG (R108). -/
  | sig (e : Eng) (sem : BitVec 5)
  /-- SIG_APPLY (R108). -/
  | sigApply (e : Eng)
  /-- WAITS (R81). -/
  | waits (e : Eng) (sem : BitVec 5)
  /-- WAITF (R109). -/
  | waitf (e : Eng)
  /-- FRD (R117). -/
  | frd (e : Eng) (loc : BitVec 3) (pq : BitVec 2) (ixa : Bool) (slot : BitVec 10) (idx : BitVec 8)
  /-- FWR (R117). -/
  | fwr (e : Eng) (loc : BitVec 3) (pq : BitVec 2) (ixa : Bool) (slot : BitVec 10) (idx : BitVec 8)
  /-- FRD_RESULT (R120). -/
  | frdResult (e : Eng)
  /-- DLR (R119). -/
  | dlr (e : Eng) (loc : BitVec 3) (pq k dm : BitVec 2) (ofs : BitVec 16)
  /-- DLW (R119). -/
  | dlw (e : Eng) (loc : BitVec 3) (pq k dm : BitVec 2) (ofs : BitVec 16)
  /-- DLR_RESULT (R72). -/
  | dlrResult (e : Eng)
  /-- SYS_RESULT (R123). -/
  | sysResult
  /-- WDOG (R122). -/
  | wdog (e : Eng) (ra : BitVec 3) (imm : BitVec 16)
  /-- RDFRAME (R122). -/
  | rdframe (e : Eng) (ra : BitVec 3) (imm : BitVec 16)
  /-- RDTIME (R122). -/
  | rdtime (e : Eng) (ra : BitVec 3) (imm : BitVec 16)
  /-- CMDHEAD (R369). -/
  | cmdhead (e : Eng) (ra : BitVec 3) (imm : BitVec 16)
  /-- CMDWORD (R122). -/
  | cmdword (e : Eng) (ra : BitVec 3) (imm : BitVec 16)
  /-- CMDDONE (R370). -/
  | cmddone (e : Eng) (ra : BitVec 3) (imm : BitVec 16)
  /-- EVRAISE (R401). -/
  | evraise (e : Eng) (ra : BitVec 3) (imm : BitVec 16)
  /-- RESOPEN (R122). -/
  | resopen (e : Eng) (ra : BitVec 3) (imm : BitVec 16)
  /-- RESWR (R122). -/
  | reswr (e : Eng) (ra : BitVec 3) (imm : BitVec 16)
  /-- RESPUB (R419). -/
  | respub (e : Eng) (ra : BitVec 3) (imm : BitVec 16)
  /-- RSADDR (R122). -/
  | rsaddr (e : Eng) (ra : BitVec 3) (imm : BitVec 16)
  /-- RSRD (R125). -/
  | rsrd (e : Eng) (ra : BitVec 3) (imm : BitVec 16)
  /-- RSWR (R125). -/
  | rswr (e : Eng) (ra : BitVec 3) (imm : BitVec 16)
  /-- CFGSAVE (R382). -/
  | cfgsave (e : Eng) (ra : BitVec 3) (imm : BitVec 16)
  /-- PWRREQ (R309). -/
  | pwrreq (e : Eng) (ra : BitVec 3) (imm : BitVec 16)
  /-- PMSTAT (R122). -/
  | pmstat (e : Eng) (ra : BitVec 3) (imm : BitVec 16)
  /-- STAGE (R126). -/
  | stage (e : Eng) (ra : BitVec 3) (imm : BitVec 16)
  /-- STGSTAT (R122). -/
  | stgstat (e : Eng) (ra : BitVec 3) (imm : BitVec 16)
  /-- PDMRATE (R44). -/
  | pdmrate (e : Eng) (ra : BitVec 3) (imm : BitVec 16)
  /-- WAKECLR (R54). -/
  | wakeclr (e : Eng) (ra : BitVec 3) (imm : BitVec 16)
  /-- PLBEGIN (R129). -/
  | plbegin (e : Eng) (ra : BitVec 3) (imm : BitVec 16)
  /-- HEADER_CHECK_DONE (R129). -/
  | headerCheckDone
  /-- PLOAD (R131). -/
  | pload (e : Eng) (ra : BitVec 3) (imm : BitVec 16)
  /-- ENGINE_LOAD_DONE (R131). -/
  | engineLoadDone
  /-- PLEND (R129). -/
  | plend (e : Eng) (ra : BitVec 3) (imm : BitVec 16)
  /-- PSTART (R129). -/
  | pstart (e : Eng) (ra : BitVec 3) (imm : BitVec 16)
  /-- PSTOP (R131). -/
  | pstop (e : Eng) (ra : BitVec 3) (imm : BitVec 16)
  /-- PEXIT (R132). -/
  | pexit (e : Eng) (ra : BitVec 3) (imm : BitVec 16)
  /-- PLSTAT (R133). -/
  | plstat (e : Eng) (ra : BitVec 3) (imm : BitVec 16)
  /-- END (R146). -/
  | fabEnd (w : BitVec 24)
  /-- BUSSRC (R149). -/
  | bussrc (w1 w2 : BitVec 24)
  /-- SINK (R152). -/
  | sink (w1 w2 : BitVec 24)
  /-- RAMP (R147). -/
  | ramp (w : BitVec 24)
  /-- BUSCLR (R147). -/
  | busclr (w : BitVec 24)
  /-- INDOM (R140). -/
  | indom (w : BitVec 24)
  /-- TDMCFG (R157). -/
  | tdmcfg (w : BitVec 24)
  /-- DIRECT (R162). -/
  | direct (w1 w2 : BitVec 24)
  /-- D16SEM (R136). -/
  | d16sem (w : BitVec 24)
  /-- LOOKA (R148). -/
  | looka (w : BitVec 24)
  /-- SUPERVISION_STOP (R214). -/
  | supervisionStop (b : Fin 8) (w : BitVec 24)
  /-- PILOT_CONTINUOUS (R218). -/
  | pilotContinuous (b : Fin 8) (w : BitVec 24)
  /-- PILOT_COUNTED (R218). -/
  | pilotCounted (b : Fin 8) (w : BitVec 24)
  /-- SWEEP (R223). -/
  | sweep (b : Fin 8) (w : BitVec 24)
  /-- FINGERPRINT_CAPTURE (R225). -/
  | fingerprintCapture (b : Fin 8) (w : BitVec 24)
  /-- FILTER_CALIBRATION (R225). -/
  | filterCalibration (b : Fin 8) (w : BitVec 24)
  /-- EARTH_STOP (R214). -/
  | earthStop (w : BitVec 24)
  /-- EARTH_CONTINUOUS (R227). -/
  | earthContinuous (w : BitVec 24)
  /-- EARTH_COUNTED (R227). -/
  | earthCounted (w : BitVec 24)
  /-- SWEEP_START (R215). -/
  | sweepStart (b : Fin 8)
  /-- PILOT_WINDOW_END (R218). -/
  | pilotWindowEnd (b : Fin 8) (m : PilotMeas)
  /-- SWEEP_INTEGRATION_END (R223). -/
  | sweepIntegrationEnd (b : Fin 8) (m : SweepMeas)
  /-- EARTH_TEST_END (R227). -/
  | earthTestEnd (m : EarthMeas)
  /-- SUPERVISION_GAP (R219). -/
  | supervisionGap (b : Fin 8)
  /-- GAIN_COMMAND (R234). -/
  | gainCommand (m : Fin 8) (w : BitVec 24)
  /-- GAIN_APPLY (R235). -/
  | gainApply (m : Fin 8)
  /-- RAIL_NEED_BLOCK (R191). -/
  | railNeedBlock (b : Fin 8) (ws : List (BitVec 24))
  /-- SOFTSTART_DONE (R182). -/
  | softstartDone (b : Fin 8)
  /-- STOP_COMPLETE (R182). -/
  | stopComplete (b : Fin 8)
  /-- OVERCURRENT_TRIP (R199). -/
  | overcurrentTrip (b : Fin 8) (t : Nat)
  /-- TRIP_BLANKING_END (R199). -/
  | tripBlankingEnd (b : Fin 8)
  /-- COOLDOWN_END (R201). -/
  | cooldownEnd (b : Fin 8)
  /-- PROBE_TONE_END (R201), with the tone's samples of V and of I at the driving end, in the order taken. -/
  | probeToneEnd (b : Fin 8) (v cur : List (BitVec 16))
  /-- THERMAL_THRESHOLD (R204). -/
  | thermalThreshold (d : Fin 4) (tj : BitVec 8)
  /-- THERMAL_STEP_FALL (R176). -/
  | thermalStepFall (d : Fin 4) (tj : BitVec 8)
  /-- THERMAL_SHUTDOWN_CLEAR (R204). -/
  | thermalShutdownClear (d : Fin 4) (tj : BitVec 8)
  /-- BOOST_FAULT (R205). -/
  | boostFault (d : Fin 4) (t : Nat)
  /-- BOOST_RESTART (R205). -/
  | boostRestart (d : Fin 4)
  /-- RAIL_GUARD_END (R195). -/
  | railGuardEnd (d : Fin 4)
  /-- SCAN_PUBLISH (R257). -/
  | scanPublish (bank1 : Bool) (m : ScanMeas)
  /-- MESSAGE_0_END (R37). -/
  | message0End
  /-- NIGHT_SCAN (R268). -/
  | nightScan (m : ScanMeas)
  /-- SENTINEL_TRIP (R266). -/
  | sentinelTrip (n : Fin 2)
  /-- INPUT_OVERLOAD (R237). -/
  | inputOverload (m : Fin 8)
  /-- JACK_INSERTION (R239). -/
  | jackInsertion
  /-- JACK_REMOVAL (R239). -/
  | jackRemoval
  /-- JACK_CLASSIFIED (R240). -/
  | jackClassified (r1 r2 : Nat)
  /-- PRIVACY_ASSERT (R250). -/
  | privacyAssert
  /-- PRIVACY_RELEASE (R251). -/
  | privacyRelease
  /-- PDM_CLOCK_RESTART (R251). -/
  | pdmClockRestart
  /-- MICPWR_OVERCURRENT (R243). -/
  | micpwrOvercurrent
  /-- MICPWR_RETRY (R243). -/
  | micpwrRetry
  /-- QUIET_CHARGE_DONE (R180). -/
  | quietChargeDone (up : Bool)
  /-- WAKE_BLOCK_STROBE (R276): what pair 0 gave in the block on its channels a and b, 16 samples at 16 kHz (log 14). -/
  | wakeBlockStrobe (samples : List (BitVec 16 × BitVec 16))
  /-- CANDIDATE_TIMEOUT (R277). -/
  | candidateTimeout
  /-- CAPTURE (R282). -/
  | capture (pv : PortView) (v : Word)
  /-- CAPTURE_DONE (R282). -/
  | captureDone
  /-- DET_ACK (R280). -/
  | detAck (pv : PortView) (v : Word)
  /-- HANDSHAKE_REPLY (R311). -/
  | handshakeReply (t : Nat)
  /-- HANDSHAKE_DELAY_END (R312). -/
  | handshakeDelayEnd
  /-- HANDSHAKE_NO_REPLY (R312). -/
  | handshakeNoReply
  /-- ENTRY_WINDOW_END (R315). -/
  | entryWindowEnd
  /-- DAWN_START (R317). -/
  | dawnStart
  /-- DAWN_STEP_READY (R317). -/
  | dawnStepReady
  /-- DAWN_STEP_TIMEOUT (R319). -/
  | dawnStepTimeout (why : BitVec 3) (dom : BitVec 4)
  /-- DAWN_RETRY_OFF_END (R319). -/
  | dawnRetryOffEnd
  /-- DAWN_REPEAT (R320). -/
  | dawnRepeat
  /-- UNIT_READY (R325). -/
  | unitReady (u : Fin 12)
  /-- LIMITER_EXPIRY (R403). -/
  | limiterExpiry (src qual : Nat)
  /-- FAULT_MIN_PULSE_END (R407). -/
  | faultMinPulseEnd (n : Fin 4)
  /-- POWER_ON_RESET (R453). -/
  | powerOnReset
  /-- RESET_N (R453). -/
  | resetN
  /-- RESET_RELEASE (R394). -/
  | resetRelease (fbSel : Bool) (haddr : BitVec 3)
  /-- BOOT_LOAD (R388). -/
  | bootLoad
  /-- LOADSET (R364). -/
  | loadset (pv : PortView) (ws : List Word) (rc : Byte) (reply : Word)
  /-- STARTSET (R364). -/
  | startset (pv : PortView) (ws : List Word) (rc : Byte) (reply : Word)
  /-- LDSTAT (R364). -/
  | ldstat (pv : PortView) (ws : List Word) (rc : Byte) (reply : Word)
  /-- CLAIM (R371). -/
  | claim (pv : PortView) (ws : List Word) (rc : Byte) (reply : Word)
  /-- RELEASE (R371). -/
  | release (pv : PortView) (ws : List Word) (rc : Byte) (reply : Word)
  /-- WAKEACK (R364). -/
  | wakeack (pv : PortView) (ws : List Word) (rc : Byte) (reply : Word)
  /-- SEENCLR (R364). -/
  | seenclr (pv : PortView) (ws : List Word) (rc : Byte) (reply : Word)
  /-- PROGRAM_COMMAND (R364). -/
  | programCommand (pv : PortView) (ws : List Word) (rc : Byte) (reply : Word)
  /-- COMMAND_FIFO_PUSH (R365). -/
  | commandFifoPush (pv : PortView) (b : Byte)
  /-- TAG_CHECK_DONE (R367). -/
  | tagCheckDone (pv : PortView)
  /-- ASSEMBLY_TIMEOUT (R365). -/
  | assemblyTimeout (pv : PortView)
  /-- EVENT_FIFO_POP (R374). -/
  | eventFifoPop (pv : PortView)
  /-- PAGE_WRITE (R337). -/
  | pageWrite (pv : PortView) (b : Byte)
  /-- REGISTER_WRITE (R12). -/
  | registerWrite (pv : PortView) (bs : List Byte)
  /-- PERIOD_WRITE (R54). -/
  | periodWrite (pv : PortView) (v : Word)
  /-- PERMIT_WRITE (R247). -/
  | permitWrite (pv : PortView) (v : Word)
  /-- RB_SEL_WRITE (R420). -/
  | rbSelWrite (pv : PortView) (v : Word)
  /-- REC_SEL_WRITE (R421). -/
  | recSelWrite (pv : PortView) (v : Word)
  /-- RECORD_FIFO_POP (R421). -/
  | recordFifoPop (pv : PortView)
  /-- CAPTURE_PORT_READ (R422). -/
  | capturePortRead (pv : PortView)
  /-- LC_TRANSITION (R391). -/
  | lcTransition (pv : PortView) (v : Word)
  /-- KEY_WRITE (R392). -/
  | keyWrite (pv : PortView) (v : Word)
  /-- WIPE_DONE (R393). -/
  | wipeDone
  /-- WRITE_SET (R389). -/
  | writeSet (pv : PortView) (v : Word)
  /-- WRITE_MESSAGE (R389). -/
  | writeMessage (pv : PortView) (v : Word)
  /-- DELETE_MESSAGE (R389). -/
  | deleteMessage (pv : PortView) (v : Word)
  /-- EXPORT (R395). -/
  | exportPkg (pv : PortView) (v : Word)
  /-- IMPORT (R396). -/
  | importPkg (pv : PortView) (v : Word)
  /-- SAVE (R382). -/
  | save (pv : PortView) (v : Word)
  /-- ABORT (R399). -/
  | abort (pv : PortView) (v : Word)
  /-- IMAGE_FIFO_PUSH (R389). -/
  | imageFifoPush (pv : PortView) (b : Byte)
  /-- IMAGE_FIFO_POP (R395). -/
  | imageFifoPop (pv : PortView)
  /-- IMAGE_WRITE_CHECK_DONE (R389). -/
  | imageWriteCheckDone
  /-- SAVE_DONE (R382). -/
  | saveDone
  /-- TW_START (R339). -/
  | twStart (tw : TwId)
  /-- TW_STOP (R339). -/
  | twStop (tw : TwId)
  /-- TW_ADDRESS_BYTE (R333). -/
  | twAddressByte (tw : TwId) (b : Byte) (nread : Nat)
  /-- TW_POINTER_BYTE (R335). -/
  | twPointerByte (tw : TwId) (b : Byte)
  /-- TW_ACK_SLOT_ABORT (R339). -/
  | twAckSlotAbort (tw : TwId) (restart : Bool)
  /-- STRETCH_TIMEOUT (R342). -/
  | stretchTimeout (tw : TwId)
  /-- INBAND_REQUEST (R343). -/
  | inbandRequest (tw : TwId)
  /-- INBAND_REQUEST_END (R343). -/
  | inbandRequestEnd (tw : TwId)
  /-- NIGHT_ADDRESS_MATCH (R345). -/
  | nightAddressMatch (tw : TwId) (b : Byte)
  /-- PORT_LOGIC_READY (R346). -/
  | portLogicReady (nread : Nat)
  /-- WRQ (R352). -/
  | wrq (m3 : Bool) (page ptr : Byte) (bs : List Byte)
  /-- RDQ (R353). -/
  | rdq (m3 : Bool) (page ptr : Byte) (n : Nat)
  /-- RDSR (R354). -/
  | rdsr (m3 : Bool)
  /-- FAST_BAD_OPCODE (R352). -/
  | fastBadOpcode (m3 : Bool) (op : Byte)
  /-- FAST_CS_RISE (R352). -/
  | fastCsRise
  /-- PC_TRANSFER (R349). -/
  | pcTransfer (pv : PortView) (v : Word)
  /-- PC_BUS_CLEAR (R351). -/
  | pcBusClear (pv : PortView) (v : Word)
  /-- PC_TRANSFER_END (R349). -/
  | pcTransferEnd (cleared : Bool) (r : PcEnd)
  /-- ARBITRATION_LOST (R350). -/
  | arbitrationLost
  /-- ARBITRATION_RETRY (R350). -/
  | arbitrationRetry
  /-- PORTP_TX_PUSH (R416). -/
  | portpTxPush (pv : PortView) (b : Byte)
  /-- PORTP_RX_POP (R416). -/
  | portpRxPop (pv : PortView)
  /-- TDM_CLOCK_MISSING (R158). -/
  | tdmClockMissing (p : Fin 4)
  /-- TDM_WRONG_RATE (R158). -/
  | tdmWrongRate (p : Fin 4)
  /-- TDM_SLOT_SYNC_ERROR (R158). -/
  | tdmSlotSyncError (p : Fin 4) (t : Nat)
  /-- TDM_RETURN (R159). -/
  | tdmReturn (p : Fin 4) (meas : BitVec 16)
  /-- EXTEST (R438). -/
  | extest
  /-- SAMPLE_PRELOAD (R438). -/
  | samplePreload
  /-- BYPASS (R438). -/
  | bypass
  /-- KF_LOCK (R40). -/
  | kfLock
  /-- SADC_LOCK (R40). -/
  | sadcLock
  /-- SENTINEL_RETURN (R266). -/
  | sentinelReturn (n : Fin 2)
  /-- TWARN_CLEAR (R204). -/
  | twarnClear (d : Fin 4) (tj : BitVec 8)
  /-- INBAND_REQUEST_REDUE (R343). -/
  | inbandRequestRedue (tw : TwId)
  /-- MESSAGE_CHECK_DONE (R386). -/
  | messageCheckDone
  /-- DELAY_SRAM_WIPE_DONE (R317). -/
  | delaySramWipeDone
  /-- PDM_RATE_CHANGE_END (R242). -/
  | pdmRateChangeEnd (q : Fin 4)
  deriving DecidableEq, Repr

end Sys2Proof
end

