-- ==== Sys2Proof/Decode.lean ====
section
/-!
DEFINITION. The command that a table word spells.  No row of the command table gives bits, so no word spells a command.
-/

namespace Sys2Proof

/-- The command that the low `nbits` bits of `w` spell by the table's bits: the table gives none. -/
def decodeTableWord (_nbits _w : Nat) : Option Instr := none

end Sys2Proof
end

