-- ==== Sys2Proof/Config.lean ====
section
/-!
DEFINITION. What the spec leaves open as a value.  A free value is an opaque constant: nothing in Lean can evaluate it, so
whatever is proved about it holds of every value.
-/

namespace Sys2Proof

/-- Free values (log 8): the n-th value that the spec leaves open, 64 bits, of which a use takes as many as it needs. -/
opaque Config.freeWord : Nat → BitVec 64

/-- The digital filters, rate converters and meters whose response the spec bounds and whose arithmetic it does not give
(log 42), each with the settings that choose its response. -/
inductive Stage
  /-- R167: DC removal of an input. -/
  | dcRemoval
  /-- R168: the high-pass filter of a code. -/
  | highPass (code : Nat)
  /-- R169: decimation to 48 kHz (0), 96 kHz (1) or 16 kHz (2), with its phase response. -/
  | decimate (rate : Nat) (minPhase : Bool)
  /-- R170: interpolation of a line or headphone output. -/
  | interpolate (minPhase : Bool)
  /-- R154: a channel of the bridge from D48 to D16. -/
  | bridgeDown
  /-- R154: a channel of the bridge from D16 to D48. -/
  | bridgeUp
  /-- R155: the converter of a TDM receive channel from a nominal rate code. -/
  | tdmReceive (rate : Nat)
  /-- R155: the converter of a TDM transmit channel to a nominal rate code. -/
  | tdmTransmit (rate : Nat)
  /-- R245: the ten level meters of a microphone channel. -/
  | levels
  /-- R273: the wake decimator from channel a (0), channel b (1) or the mean of both, given as their sum (2). -/
  | wakeFeed (src : Nat)
  /-- R385: message 0 from 24 kHz to the rate of D48. -/
  | message
  /-- R185: a bridge's modulator, from so many samples in a 48 kHz period to the 16 of the switching rate. -/
  | modulate (per : Nat)

/-- Free values (log 42): what a stage makes of its state and of what enters, as its new state and what leaves. -/
opaque Config.filter : Stage → List Int → List Int → List Int × List Int

/-- Free values (log 42): a sample `k` steps of 24 from silence within a fade whose shape the spec does not give (R159, R242,
R251). -/
opaque Config.fade : Sample → Nat → Sample

/-- Free values (log 42): the 64-byte blocks of the fabric block store that hold an item (R292). -/
opaque Config.storeBlocks : Nat → List Nat

/-! What measuring leaves open (log 45): sines, the multitone, DFT bins, and logarithms and angles of what they give. -/

/-- R221: the rms level of a band of the multitone, squared and relative to the rated line voltage: num / den * 10^(e / 100). -/
structure BandLevel where
  num : Nat
  den : Nat
  e : Int
  deriving DecidableEq, Repr

/-- R221: one excited bin: its number, the level of its band, how many bins share that, and its phase word. -/
structure SweepLine where
  bin : Nat
  level : BandLevel
  share : Nat
  phase : BitVec 31
  deriving DecidableEq, Repr

/-- R201, R216, R221: what an excitation plays: a sine of so many Hz and mV rms, or a multitone at a rated voltage in mV. -/
inductive Signal
  | sine (hz mv : Nat)
  | multitone (rated : Nat) (xs : List SweepLine)

/-- Free values: the excitation's voltage in mV, so many switching periods after its start, and after its stop. -/
opaque Config.wave : Signal → Nat → Option Nat → Int
/-- Free values: the peak of a multitone with what R211 adds for it, in 10 mV. -/
opaque Config.multitonePeak : Signal → Nat
/-- Free values: word `i` of the pseudo-random sequence of a seed (R221). -/
opaque Config.prs : Nat → Nat → BitVec 31
/-- Free values: the threshold of hearing of ISO 389-7 at a band's centre, in 0.1 dB, which the spec does not tabulate. -/
opaque Config.hearing : Nat → Int

/-- R201, R216, R222: a frequency at which the LMU measures: the probe tone, a pilot in Hz, a bin of the sweep. -/
inductive Tone
  | probe
  | pilot (hz : Nat)
  | bin (k : Nat)
  deriving DecidableEq, Repr

/-- Free values: the DFT bin at a frequency of a run of S0 samples; a sine of amplitude 1 code gives a magnitude of 256. -/
opaque Config.dft : Tone → List (BitVec 16) → Int × Int
/-- Free values: 2 * pi * f * C * v for a capacitance in 0.1 nF, as a current in the units of a bin (R210). -/
opaque Config.reactive : Tone → Nat → Int → Int
/-- Free values: num / (2 * pi * f * den) as a capacitance in 0.1 nF (R225). -/
opaque Config.capacitance : Tone → Int → Nat → Int
/-- Free values: the noise power of the mean of a bin over its periods, estimated from their spread (R222). -/
opaque Config.noise : List (Int × Int) → Nat
/-- Free values: 10 * log10 (num / den) in 1/256 dB (R228). -/
opaque Config.decibel : Nat → Nat → Int
/-- Free values: the angle of a complex number in 180/32768 degrees (R228). -/
opaque Config.angle : Int → Int → BitVec 16

end Sys2Proof
end

