-- ==== Sys2Proof/Machine/State.lean ====
section
/-!
DEFINITION. What State holds: every piece of state the spec gives the device, as plain data, and the state right after
reset.  Each field's docstring names the rule that gives it.  The memories are sparse maps (Word.lean).
-/

namespace Sys2Proof.Machine


/-- R171: the Reset values of the processing table (96 words): input words 0x3; sink words 0x00083002, sinks 6 and 7 zero. -/
def resProc : List Word :=
  List.replicate 16 0x3 ++ List.replicate 6 0x00083002 ++ List.replicate 2 0 ++ List.replicate 72 0x00083002

/-- R189: one factory bridge word of the power table. -/
def facBridgeWord (b : Nat) : Word :=
  BitVec.ofNat 32 (504 + b + 4 * 2 ^ 9 + 16 * 2 ^ 15 + 10 * 2 ^ 21 + 3 * 2 ^ 27 + 2 ^ 29)

/-- R189: the factory values of the retained power table (12 words). -/
def facPower : List Word :=
  (List.range 8).map facBridgeWord ++ List.replicate 4 (BitVec.ofNat 32 (150 + 50 * 2 ^ 8 + 2 ^ 15))

/-- R233: the Reset values of the converter table (10 words). -/
def resConv : List Word := List.replicate 9 0 ++ [0x1F]

/-- R260: the factory comparator table (32 words): words 16 to 23 cover the normal band of the contact inputs. -/
def facCmp : List Word :=
  List.replicate 16 0 ++
  List.replicate 8 (BitVec.ofNat 32 (0x666 + 0x999 * 2 ^ 12 + 2 * 2 ^ 24 + 2 * 2 ^ 28 + 2 ^ 31)) ++ List.replicate 8 0

/-- R411: the factory event masks: EVM_A0-3, EVM_B0-3, EVM_C0-3. -/
def facEvm : Vector Word 12 :=
  #v[0xFFFFFFFF, 0xFFFFFFFF, 0xFFFFFFFF, 0xFFFFFFFF, 0, 0, 0, 0,
     0xFFFFFFFF, 0xFFFFFFFF, 0xFFFFFFFF, 0xFFFFFFFF]

/-- R411: the factory fault masks FLT_MASK0-3. -/
def facMask : Vector Word 4 := #v[0xF7FFFFFF, 0x0007F800, 0x00000007, 0]


/-- R58, R80, R83, R131, R132: what an engine is doing.  `off`: not started; `starting`: started, released at step 4 of the
next boundary; `waitS`: in WAITS on a zero count; `halted`: stopped by an engine fault; `stopped`: by PSTOP or PEXIT. -/
inductive EngRun | off | starting | running | waitF | waitS (n : Fin 32) | halted | stopped
  deriving DecidableEq, Repr
/-- R116: the register or data memory word that an FRD or DLR result is written to. -/
inductive Loc | opr (i : Fin 4) | xm (a : BitVec 12) | ym (a : BitVec 12) | acc (i : Fin 4)
  deriving DecidableEq, Repr
/-- R72: one entry of an engine's delay request queue; `zero` is a read outside the window, which returns 0 (R71). -/
inductive DlyReq | read (a : BitVec 21) (dst : Loc) | zero (dst : Loc) | write (a : BitVec 21) (w : Word)
  deriving DecidableEq, Repr
/-- R120: one entry of an engine's fabric request queue; `zero` is a failed read, which returns 0 (R118). -/
inductive FabReq | read (slot j : Nat) (dst : Loc) | zero (dst : Loc) | write (slot j : Nat) (v : Sample)
  deriving DecidableEq, Repr

/-- R123: the outstanding result of a SYS with a result. -/
structure SysRes where
  /-- R121: the RA field. -/
  ra : BitVec 3 := 0
  /-- R122: the value RA takes; none leaves RA as it is. -/
  val : Option Acc := none
  /-- R123: the C flag that arrives with the result: 1 = refused. -/
  c : Bool := false
  deriving DecidableEq, Repr

/-- R108: a SIG that has been issued and not yet applied. -/
structure SigReq where
  /-- R107: the semaphore. -/
  sem : Fin 32 := 0
  /-- R108: delay requests of the engine that must be accepted first. -/
  dAhead : Nat := 0
  /-- R108: fabric requests of the engine that must be accepted first. -/
  fAhead : Nat := 0
  deriving DecidableEq, Repr

/-- R58, R77: one level of the hardware loop stack. -/
structure LoopLevel where
  /-- R77: start address. -/
  start : BitVec 13 := 0
  /-- R77: end address. -/
  stop : BitVec 13 := 0
  /-- R77: count saved while an inner level is active (the innermost level's count is LC). -/
  count : BitVec 16 := 0
  deriving DecidableEq, Repr

/-- R55, R58: one Enlia engine, with its memories. -/
structure Engine where
  /-- R58: accumulators A0-A3, 56 bits. -/
  acc : Vector Acc 4 := .replicate 4 0
  /-- R58: operand registers XD0, XD1, YD0, YD1, 24 bits. -/
  opr : Vector Sample 4 := .replicate 4 0
  /-- R58: data pointers P0-P7. -/
  p : Vector (BitVec 12) 8 := .replicate 8 0
  /-- R58: modifiers M0-M7, signed. -/
  m : Vector (BitVec 12) 8 := .replicate 8 0
  /-- R58: modulo lengths L0-L7. -/
  l : Vector (BitVec 12) 8 := .replicate 8 0
  /-- R58: delay pointers DP0-DP3. -/
  dp : Vector (BitVec 21) 4 := .replicate 4 0
  /-- R58: delay buffer bases. -/
  dbas : Vector (BitVec 21) 4 := .replicate 4 0
  /-- R58: delay buffer lengths. -/
  dlen : Vector (BitVec 21) 4 := .replicate 4 0
  /-- R58: index register IX. -/
  ix : BitVec 16 := 0
  /-- R98: the value of IX that the address stage of the next instruction uses. -/
  ixAg : BitVec 16 := 0
  /-- R58: loop count LC of the innermost active loop. -/
  lc : BitVec 16 := 0
  /-- R58: loop stack, innermost first, at most 4. -/
  loops : List LoopLevel := []
  /-- R58: return stack, newest first, at most 8. -/
  rets : List (BitVec 13) := []
  /-- R58: program counter. -/
  pc : BitVec 13 := 0
  /-- R59: SR.N. -/
  fn : Bool := false
  /-- R59: SR.Z. -/
  fz : Bool := false
  /-- R59: SR.V. -/
  fv : Bool := false
  /-- R59: SR.C. -/
  fc : Bool := false
  /-- R59: SR.S, sticky saturation. -/
  fs : Bool := false
  /-- R59: SR.DV, sticky delay access violation. -/
  fdv : Bool := false
  /-- R101: the violation of the delay access just issued is reported in the cycle in which the next instruction commits. -/
  dvLate : Bool := false
  /-- R55: X data memory, 4096 x 24 bits, unlisted words 0. -/
  x : Map Sample := []
  /-- R55: Y data memory, 4096 x 24 bits, unlisted words 0. -/
  y : Map Sample := []
  /-- R130: value of every program memory word not listed in pm. -/
  pmFill : Word := 0
  /-- R55: program memory, 8192 x 32 bits (4096 on WE). -/
  pm : Map Word := []
  /-- R71: delay window base. -/
  winBase : Nat := 0
  /-- R71: delay window length in words. -/
  winLen : Nat := 0
  /-- R80: what the engine is doing. -/
  run : EngRun := .off
  /-- R109: has executed WAITF since its release. -/
  waitfDone : Bool := false
  /-- R30: overrun counter. -/
  overruns : Nat := 0
  /-- R72: delay request queue, oldest first, at most 4. -/
  dq : List DlyReq := []
  /-- R120: fabric request queue, oldest first, at most 4. -/
  fq : List FabReq := []
  /-- R123: outstanding SYS results, oldest first, at most 4. -/
  sysq : List SysRes := []
  /-- R108: SIGs issued and not yet applied. -/
  sigq : List SigReq := []
  deriving DecidableEq, Repr

/-- R143, R149, R151: one entry of a mix bus or sink, with its gain ramp. -/
structure Entry where
  /-- R143: source slot address (R115). -/
  slot : Nat := 0
  /-- R151: gain at which the ramp in force began, Q3.21. -/
  g0 : BitVec 24 := 0
  /-- R151: target gain, Q3.21. -/
  g1 : BitVec 24 := 0
  /-- R151: samples of the ramp processed. -/
  k : Nat := 0
  /-- R151: length N of the ramp in samples. -/
  n : Nat := 0
  deriving DecidableEq, Repr

/-- R149: one mix bus. -/
structure Bus where
  /-- R149: its entries, at most 40. -/
  entries : List Entry := []
  /-- R147: ramp length R - 1 in frames. -/
  r : BitVec 6 := 3
  deriving DecidableEq, Repr

/-- R173: one sample in a Ceiling limiter's look-ahead window. -/
structure LimSample where
  /-- R173: the sample. -/
  x : Sample := 0
  /-- R173: its quantised ceiling Cq. -/
  cq : Nat := 0
  deriving DecidableEq, Repr

/-- R142, R143, R173, R178: one sink, its Ceiling limiter and its output mute. -/
structure Sink where
  /-- R143: its entries, at most 4. -/
  entries : List Entry := []
  /-- R147: ramp length R - 1 in frames. -/
  r : BitVec 6 := 3
  /-- R173: look-ahead window, newest first; samples not listed are zero. -/
  win : List LimSample := []
  /-- R172: limiter gain in units of 2^-24. -/
  gain : Nat := 16777216
  /-- R178: output mute gain in units of 1/48. -/
  u : Nat := 0
  deriving DecidableEq, Repr

/-- R178: one sample of an output after its mute ramp: the exact value is x * u / 48. -/
structure OutSample where
  /-- R178: sample before the mute ramp. -/
  x : Sample := 0
  /-- R178: mute gain in units of 1/48. -/
  u : Nat := 0
  /-- R182: a bridge's signal gain in units of 1/480. -/
  g : Nat := 480
  deriving DecidableEq, Repr

/-- R162: the direct path. -/
structure Direct where
  /-- R162: enabled. -/
  on : Bool := false
  /-- R161: enabled or fading (FAB_STATUS.DIRECT_ON). -/
  live : Bool := false
  /-- R147: input, numbered as in INDOM. -/
  inp : BitVec 4 := 0
  /-- R147: sink whose output it joins. -/
  sink : BitVec 8 := 0
  /-- R162: its gain ramp. -/
  e : Entry := {}
  deriving DecidableEq, Repr

/-- R157, R161: one TDM port. -/
structure TdmPort where
  /-- R161: STATE: 0 off, 1 acquiring, 2 running, 3 absent. -/
  st : BitVec 2 := 0
  /-- R161: role in force: 1 = clock source. -/
  role : Bool := false
  /-- R157: format. -/
  fmt : BitVec 2 := 0
  /-- R157: slots code. -/
  slots : BitVec 2 := 0
  /-- R157: clock edge. -/
  edge : Bool := false
  /-- R157: nominal rate code. -/
  rate : BitVec 3 := 0
  /-- R157: port enabled. -/
  en : Bool := false
  /-- R161: MISS. -/
  miss : Bool := false
  /-- R161: WRATE. -/
  wrate : Bool := false
  /-- R161: SYNC. -/
  sync : Bool := false
  /-- R161: SYNC_COUNT. -/
  syncCount : BitVec 8 := 0
  /-- R158: times in us of the slot-sync errors of the last 10 ms. -/
  sync10 : List Nat := []
  /-- R161: RATE_MEAS. -/
  rateMeas : BitVec 16 := 0
  /-- R159: gain of the receive slots in steps of 1/24; 0 = faded to zero. -/
  rxGain : Nat := 0
  /-- R157: configuration that the port takes once its receive slots have faded to zero. -/
  next : Option (BitVec 24) := none
  deriving DecidableEq, Repr

/-- R134-R162: the audio fabric of the active core die. -/
structure Fabric where
  /-- R29: frame length in force. -/
  f : FrameLen := .f48
  /-- R161: D48 runs at 96 kHz (reduced-channel mode). -/
  r96 : Bool := false
  /-- R136: D16 phase counter, 0-2. -/
  d16Phase : Nat := 0
  /-- R136: semaphore signalled at D16 block boundaries. -/
  d16Sem : Option (BitVec 5) := none
  /-- R148: look-ahead A. -/
  lookA : Nat := 48
  /-- R140: input i delivers to D16. -/
  indom : Vector Bool 16 := .replicate 16 false
  /-- R135: block that stands in each slot address (0-639); unlisted slots read zero. -/
  inB : Map (List Sample) := []
  /-- R117: samples written by FWR and not yet taken on, at slot * 256 + j. -/
  outW : Map Sample := []
  /-- R149: mix buses MB0-MB63. -/
  buses : Map Bus := []
  /-- R142: sinks 0-143. -/
  sinks : Map Sink := []
  /-- R162: the direct path. -/
  direct : Direct := {}
  /-- R156: TDM ports 0-3. -/
  tdm : Vector TdmPort 4 := .replicate 4 {}
  /-- R161: FAB_STATUS.CMD_IGN. -/
  cmdIgn : BitVec 8 := 0
  /-- R161: FAB_STATUS.BUS_CLIP. -/
  busClip : BitVec 8 := 0
  /-- R184: OUT_STATUS.CLAMPS. -/
  clamps : BitVec 8 := 0
  /-- R145: commands of the pending table that came as rows of their own, in order of arrival. -/
  rows : List (Sample × Sample) := []
  /-- R154: state of the filter of each D48→D16 bridge channel (log 42). -/
  down : Map (List Int) := []
  /-- R154: sums of each D48→D16 bridge channel since the last D16 block boundary. -/
  downIn : Map (List Int) := []
  /-- R144, R154: state of the D16→D48 filter by D16 slot address (log 42). -/
  up : Map (List Int) := []
  /-- R155: state of the rate converter by receive slot address (log 42). -/
  rx : Map (List Int) := []
  /-- R155: state of the rate converter of each transmit channel, by 16 * port + channel (log 42). -/
  tx : Map (List Int) := []
  /-- R156: words that each transmit channel has driven in the frame that ended, by 16 * port + channel. -/
  txW : Map (List Word) := []
  /-- R144: block that each sink delivers during the frame, by sink, before the addition of the direct path. -/
  outB : Map (List OutSample) := []
  /-- R162: samples that the direct path added at its output in the frame that ended, 384 kHz. -/
  directB : List Sample := []
  /-- R162, R166: what each output of sinks 0-79 played in the frame that ended, after the addition. -/
  playB : Map (List OutSample) := []
  /-- R214: supervision command words in force: bridges 0-7, earth. -/
  sup : Vector (BitVec 24) 9 := .replicate 9 0
  /-- R175: thermal step of each die that applies to samples entering the limiters. -/
  ceilStep : Vector Nat 4 := .replicate 4 0
  deriving DecidableEq, Repr

/-- R171, R189, R213, R233, R260, R272, R361, R383: the tables in force. -/
structure Tables where
  /-- R171: processing table, 96 words. -/
  proc : List Word := resProc
  /-- R189: power table, 12 words. -/
  power : List Word := facPower
  /-- R213: supervision table, 18 words. -/
  sup : List Word := []
  /-- R233: converter table, 10 words. -/
  conv : List Word := resConv
  /-- R361: resource table, 256 words. -/
  res : List Word := []
  /-- R84: watchdog period in frames. -/
  wdog : Nat := 255
  deriving DecidableEq, Repr

/-- R36: which program SV runs. -/
inductive Prog | resident | control
  deriving DecidableEq, Repr

/-- R129, R131, R133: the program load and the load status word. -/
structure LoadSt where
  /-- R133: STEP. -/
  step : BitVec 3 := 0
  /-- R133: ENGINE. -/
  engine : BitVec 5 := 0
  /-- R133: ERR. -/
  err : BitVec 4 := 0
  /-- R129: image set being loaded. -/
  set : BitVec 8 := 0
  /-- R129: engines loaded in this load. -/
  loaded : List Nat := []
  deriving DecidableEq, Repr

/-- R37, R385, R387: playback of message 0 by the resident program. -/
structure Play where
  /-- R387: word offset of the copy in the message store. -/
  ofs : Nat := 0
  /-- R385: next sample at 24 kHz. -/
  pos : Nat := 0
  /-- R385: decoder predictor. -/
  pred : Int := 0
  /-- R385: decoder step index. -/
  idx : Nat := 0
  /-- R385: samples decoded in the last frame, 24 kHz, Q1.23. -/
  last : List Sample := []
  /-- R387: the copy in play runs to its end and playback then stops. -/
  stopAfter : Bool := false
  /-- R387: words of the copy in play. -/
  msg : List Word := []
  /-- R385: state of the interpolation to the rate of D48 (log 42). -/
  up : List Int := []
  /-- R385: its samples for the frame that begins. -/
  out : List Int := []
  deriving DecidableEq, Repr

/-- R18, R85, R292: everything a core die holds that a program can reach; State holds the active core's. -/
structure CoreSt where
  /-- R55: signal engines E0-E23 and SV (number 24). -/
  eng : Vector Engine 25 := .replicate 25 {}
  /-- R81: semaphores SEM0-SEM31. -/
  sems : Vector (BitVec 8) 32 := .replicate 32 0
  /-- R84: watchdog count of frame boundaries. -/
  wdog : Nat := 0
  /-- R45: engine clock step in force. -/
  estep : Nat := 8
  /-- R69: delay SRAM, 2,097,152 x 32 bits, unlisted words 0. -/
  sram : Map Word := []
  /-- R122: retained-store address RSA. -/
  rsa : BitVec 24 := 0
  /-- R134: the audio fabric. -/
  fab : Fabric := {}
  /-- R171: tables in force. -/
  tab : Tables := {}
  /-- R36: program that SV runs. -/
  prog : Prog := .resident
  /-- R129: PSTART 24 accepted: the control program starts at the next boundary. -/
  svStart : Bool := false
  /-- R132: the control program ends at the next boundary. -/
  svStop : Bool := false
  /-- R133: program load. -/
  load : LoadSt := {}
  /-- R131: image set of the control program running. -/
  runSet : BitVec 8 := 0
  /-- R37: message 0 in play. -/
  play : Option Play := none
  /-- R388, R301: image set that the resident program loads and starts by itself: BOOT's, or the set that ran before a cold resume. -/
  auto : Option Nat := none
  /-- R388: the load of that set is under way or its start waits. -/
  autoOn : Bool := false
  /-- R122: CMDHEAD has presented a head since the last CMDDONE. -/
  cmdSeen : Bool := false
  deriving DecidableEq, Repr

/-- R292: a copy of the active core's state. -/
structure CopyRec where
  /-- R292: boundary FRAME value. -/
  frame : Word := 0
  /-- R292: the state copied. -/
  core : CoreSt := {}
  deriving DecidableEq, Repr

/-- R39-R47: clock monitors. -/
structure Clk where
  /-- R42: CLK_STATUS.CK32_OK. -/
  ck32Ok : Bool := false
  /-- R42: KF holds its last frequency setting. -/
  holdover : Bool := false
  /-- R42: KF runs from the internal reference. -/
  internal : Bool := false
  /-- R40: KF lock detector settled. -/
  kfLock : Bool := false
  /-- R39: XOA_OK, XOB_OK. -/
  xo : Vector Bool 2 := .replicate 2 false
  /-- R39: FA_LOCK, FB_LOCK. -/
  fl : Vector Bool 2 := .replicate 2 false
  /-- R39: EA_LOCK, EB_LOCK. -/
  el : Vector Bool 2 := .replicate 2 false
  /-- R47: CLK_STATUS.DEGRADED. -/
  degraded : Bool := false
  /-- R40: SADC multiplier locked. -/
  sadcLock : Bool := false
  /-- R44: the SADC reference is the selected core's link (else KF). -/
  sadcCore : Bool := false
  deriving DecidableEq, Repr

/-- R48-R54: counters, UTIME and alarms. -/
structure Time where
  /-- R48: FRAME. -/
  frame : Word := 0
  /-- R290: consecutive missing boundary strobes. -/
  missing : Nat := 0
  /-- R49: UTIME seconds. -/
  sec : BitVec 64 := 0
  /-- R49: UTIME sub-second field. -/
  sub : BitVec 15 := 0
  /-- R49: UTIME_SET_SUB. -/
  setSub : Word := 0
  /-- R49: UTIME_SET_LO. -/
  setLo : Word := 0
  /-- R49: UTIME_SET_HI. -/
  setHi : Word := 0
  /-- R49: UTIME_CTRL.LOAD has been written and the next CK32 edge has not come. -/
  load : Bool := false
  /-- R51: UTIME_CTRL.TRIM. -/
  trim : BitVec 8 := 0
  /-- R49: UTIME_CTRL.VALID. -/
  valid : Bool := false
  /-- R51: ticks that the sub-second field still skips. -/
  trimSkip : Nat := 0
  /-- R51: position in the interval of 2^20 CK32 cycles. -/
  trimCnt : BitVec 20 := 0
  /-- R54: RTC_CTRL.PERIOD. -/
  period : BitVec 16 := 60
  /-- R54: RTC_CTRL.PER_EN. -/
  perEn : Bool := true
  /-- R54: periodic down-counter. -/
  downCnt : BitVec 16 := 60
  /-- R54: PER_FLAG. -/
  perFlag : Bool := false
  /-- R54: A0_EN, A1_EN. -/
  alEn : Vector Bool 2 := .replicate 2 false
  /-- R54: A0_FLAG, A1_FLAG. -/
  alFlag : Vector Bool 2 := .replicate 2 false
  /-- R418: RTC_ALARMn_LO as committed. -/
  alLo : Vector Word 2 := .replicate 2 0
  /-- R418: RTC_ALARMn_HI. -/
  alHi : Vector Word 2 := .replicate 2 0
  /-- R418: the 64-bit value that alarm n compares against. -/
  alVal : Vector (BitVec 64) 2 := .replicate 2 0
  /-- R54: alarm n has not fired since it was set. -/
  alArm : Vector Bool 2 := .replicate 2 true
  /-- R247: seconds carries since the recording permit last counted down. -/
  permSec : Nat := 0
  deriving DecidableEq, Repr

/-- R287, R306: one feed. -/
structure Feed where
  /-- R306: x_OK. -/
  ok : Bool := false
  /-- R306: x_LOW. -/
  low : Bool := false
  /-- R306: x_OV. -/
  ov : Bool := false
  /-- R306: x_LOST. -/
  lost : Bool := false
  deriving DecidableEq, Repr

/-- R31-R35, R305: the active-core arbiter. -/
structure Arb where
  /-- R35: ARB_STATUS.ACTIVE. -/
  active : Side := .a
  /-- R306: ARB_CTRL.PREF. -/
  pref : Side := .a
  /-- R305: the preference in force, sampled at the last start from reset. -/
  selPref : Side := .a
  /-- R35: STBY_UP. -/
  stbyUp : Bool := false
  /-- R35: a copy was found incomplete and no complete copy has followed. -/
  stale : Bool := false
  /-- R35: LAST_CAUSE. -/
  lastCause : BitVec 4 := 0
  /-- R35: TAKEOVERS. -/
  takeovers : BitVec 8 := 0
  /-- R305: an accepted takeover command: boundaries left before it lapses. -/
  take : Option Nat := none
  /-- R305: port of the accepted takeover command, shown if it lapses. -/
  takePort : BitVec 2 := 0
  /-- R25: the active core die runs frames. -/
  coreRun : Bool := false
  /-- R299: the takeover mute cause is active. -/
  toMute : Bool := false
  deriving DecidableEq, Repr

/-- R295-R297, R317: which memories a standby fill carries. -/
inductive FillKind | all | xy | sram | marked
  deriving DecidableEq, Repr

/-- R292-R306: the mirror link and the standby. -/
structure Mirror where
  /-- R306: STALE_AGE. -/
  staleAge : BitVec 8 := 0
  /-- R297: the standby fill running (MIRROR_STATUS.FILL). -/
  fill : Option FillKind := none
  /-- R306: JOVF. -/
  jovf : Bool := false
  /-- R306: CRCERR. -/
  crcerr : Bool := false
  /-- R306: RESUME. -/
  resume : BitVec 2 := 0
  /-- R306: PEAK. -/
  peak : BitVec 16 := 0
  /-- R306: MIRROR_ACK. -/
  ack : Word := 0
  /-- R293: the last complete copy, held by the standby core. -/
  last : Option CopyRec := none
  /-- R293: the copy in flight on the mirror link. -/
  fly : Option CopyRec := none
  /-- R293: the copy in flight has failed by CRC or link fault. -/
  flyBad : Bool := false
  /-- R294: load D + ceil(J/8) of the copy in flight. -/
  load : Nat := 0
  /-- R295: consecutive copies incomplete because their load exceeded K. -/
  overload : Nat := 0
  /-- R292: marked 64-byte blocks of X and Y memory, ascending: engine * 512 + memory * 256 + block. -/
  dirty : List Nat := []
  /-- R295: marks carried by the copy in flight. -/
  flyDirty : List Nat := []
  /-- R296: delay journal since the last capture, oldest first. -/
  jnl : List (Nat × Word) := []
  /-- R295: journal entries carried by the copy in flight. -/
  flyJnl : List (Nat × Word) := []
  deriving DecidableEq, Repr

/-- R124: an effect that SV has issued and the keeper has not yet applied. -/
inductive DefEff
  | cmdDone (id : Nat) (rc : Byte) (reply : Word)
  | evRaise (src : Nat) (pay : BitVec 24)
  | resOpen (b : Byte) | resWr (b : Byte) (k : Nat) (w : Word) | resPub (b : Byte)
  | rsWr (a : Nat) (w : Word) | cfgSave | wakeClr (mask : BitVec 4)
  | record (fp : Bool) (words : List Word) (br : Nat) (verd stat : Nat) (seq : BitVec 16) | calib (br : Nat) (cf : BitVec 16)
  deriving DecidableEq, Repr

/-- R124: a deferred effect with its frame of issue. -/
structure Deferred where
  /-- R124: frame of issue. -/
  frame : Word := 0
  /-- R124: the effect. -/
  eff : DefEff := .cfgSave
  deriving DecidableEq, Repr

/-- R317, R303, R302, R313: the kinds of DAWN; `back` is a step of the wake table by which an aborted entry is rolled back. -/
inductive DawnKind | full | side | restart | back
  deriving DecidableEq, Repr

/-- R313: an aborted entry that is being rolled back. -/
structure Rollback where
  /-- R330: PM_ABORT.BLOCK to be written. -/
  block : Nat := 15
  /-- R330: REASON. -/
  reason : Nat := 0
  /-- R330: FROM. -/
  from_ : BitVec 2 := 0
  /-- R330: TARGET. -/
  target : BitVec 2 := 0
  /-- R313: blocks still to be restarted, the one stopped last first. -/
  todo : List Nat := []
  deriving DecidableEq, Repr

/-- R311-R315: an entry handshake in progress. -/
structure Entry2 where
  /-- R330: state the entry came from. -/
  from_ : BitVec 2 := 0
  /-- R330: state the entry aims at. -/
  target : BitVec 2 := 0
  /-- R311: block being asked. -/
  block : Nat := 0
  /-- R312: DELAY replies of this block in this entry. -/
  delays : Nat := 0
  /-- R312: a DELAY time is running. -/
  waiting : Bool := false
  /-- R313: blocks stopped, latest first. -/
  stopped : List Nat := []
  /-- R315: the entry window of 3 CK32 cycles runs. -/
  window : Bool := false
  deriving DecidableEq, Repr

/-- R317-R321: a DAWN in progress. -/
structure Dawn where
  /-- R317: kind. -/
  kind : DawnKind := .full
  /-- R317: side X. -/
  side : Side := .a
  /-- R317: wake-table step. -/
  step : Nat := 0
  /-- R316: target state. -/
  target : BitVec 2 := 0
  /-- R319: the step has been retried. -/
  retried : Bool := false
  /-- R319: the 100 us power-off of a retry runs. -/
  off : Bool := false
  /-- R317: the delay SRAM wipe of step 4 runs. -/
  wipe : Bool := false
  /-- R320: the step at which the other side failed in this DAWN. -/
  other : Option Nat := none
  /-- R320: the PLLs are referenced to KF (degraded mode). -/
  kfRef : Bool := false
  /-- R317: a start from reset. -/
  boot : Bool := false
  /-- R313: blocks that this step of a rollback restarts. -/
  blocks : List Nat := []
  deriving DecidableEq, Repr

/-- R126, R325, R326: a staged set. -/
structure StagedSet where
  /-- R126: kinds and values, in order of acceptance. -/
  changes : List (Nat × Nat) := []
  /-- R126: shortest deadline d, 1-16. -/
  deadline : Nat := 0
  /-- R326: opened at a boundary. -/
  opened : Bool := false
  /-- R326: boundaries left before withdrawal. -/
  left : Nat := 0
  /-- R325: units concerned. -/
  concerned : BitVec 12 := 0
  /-- R325: units that have reported ready. -/
  ready : BitVec 12 := 0
  deriving DecidableEq, Repr

/-- R307-R330: the power manager. -/
structure Pm where
  /-- R330: PM_STATUS.STATE: 0 DAY, 1 DUSK, 2 NIGHT, 3 start from reset. -/
  st : BitVec 2 := 3
  /-- R321: the return from DUSK to DAY is under way: DAY begins at the next boundary. -/
  rise : Bool := false
  /-- R330: the entry handshake (ENTRY, STEP). -/
  entry : Option Entry2 := none
  /-- R330: the DAWN (DAWN, STEP). -/
  dawn : Option Dawn := none
  /-- R313: the rollback of an aborted entry. -/
  back : Option Rollback := none
  /-- R330: HELD: class H holds in force. -/
  held : Bool := true
  /-- R323: the holds of FAULT0-FAULT3, ATTN_A and PRIV_LED are in force. -/
  kaHeld : Bool := true
  /-- R330: FRET. -/
  fret : Bool := false
  /-- R330: DSTEP. -/
  dstep : Nat := 0
  /-- R330: PM_DOMAINS.ON. -/
  on : BitVec 16 := 1
  /-- R330: PM_DOMAINS.RET. -/
  ret : BitVec 16 := 0
  /-- R330: PM_ABORT.BLOCK. -/
  abBlock : BitVec 4 := 0
  /-- R330: REASON. -/
  abReason : BitVec 4 := 0
  /-- R330: FROM. -/
  abFrom : BitVec 2 := 0
  /-- R330: TARGET. -/
  abTarget : BitVec 2 := 0
  /-- R330: ABORTS. -/
  aborts : BitVec 8 := 0
  /-- R330: WAKE_SRC. -/
  wakeSrc : BitVec 4 := 0
  /-- R330: the pending staged set (PEND). -/
  set : Option StagedSet := none
  /-- R330: PM_STAGE.NRDY of the last set. -/
  nrdy : BitVec 12 := 0
  /-- R330: KINDS. -/
  kinds : BitVec 4 := 0
  /-- R330: RESULT. -/
  result : BitVec 2 := 0
  /-- R330: PM_DAWN.STEP. -/
  dwStep : BitVec 4 := 0
  /-- R330: DOMAIN. -/
  dwDomain : BitVec 4 := 0
  /-- R330: CAUSE. -/
  dwCause : BitVec 3 := 0
  /-- R330: SIDE. -/
  dwSide : Side := .a
  /-- R330: FAIL. -/
  dwFail : Bool := false
  /-- R330: RETRIES. -/
  dwRetries : BitVec 8 := 0
  /-- R309: the pending power request. -/
  req : Option (BitVec 2) := none
  /-- R324: SV has executed WDOG since the last DAWN or aborted entry. -/
  wdogSince : Bool := false
  /-- R310: a retained core state with its check word exists. -/
  checkOk : Bool := false
  /-- R310: the core state in retention. -/
  retCore : Option CoreSt := none
  /-- R303: consecutive failed side DAWNs per side. -/
  sideFails : Vector Nat 2 := .replicate 2 0
  /-- R303: the 60 s side DAWN attempts of the side run. -/
  sideTry : Vector Bool 2 := .replicate 2 false
  /-- R320: no core die runs and the whole DAWN is repeated every 10 s. -/
  repeat_ : Bool := false
  /-- R319: wake-table step 1 failed: the retained store is unavailable. -/
  ksOff : Bool := false
  /-- R308, R311: the TDM ports are kept stopped: DUSK, or an entry that has asked their block. -/
  tdmHalt : Bool := false
  deriving DecidableEq, Repr

/-- R211, R216, R221: an excitation: the pilot with its code in an output mode, at the load or the continuity level; the sweep of
a bridge with its pilot code, its sweep word and its mode; the probe tone of a mode. -/
inductive Excite
  | pilot (pfreq : Nat) (mode : BitVec 2) (cont : Bool)
  | sweep (bridge pfreq : Nat) (word : Word) (mode : BitVec 2)
  | probe (mode : BitVec 2)
  deriving DecidableEq, Repr

/-- R211: an excitation that plays, or ramps out. -/
structure Playing where
  /-- R211: what it is. -/
  x : Excite
  /-- R211: 48 kHz periods since it began. -/
  age : Nat := 0
  /-- R211: 48 kHz periods since it was stopped. -/
  out : Option Nat := none
  deriving DecidableEq, Repr

/-- R208: BR_STATUS fields as last reported. -/
structure BrReg where
  /-- R208: STATE. -/
  st : BitVec 4 := 0
  /-- R208: TRIPS. -/
  trips : BitVec 8 := 0
  /-- R208: PRBFAIL. -/
  prbFail : Nat := 0
  /-- R208: SHORT_SEEN. -/
  shortSeen : Bool := false
  /-- R208: CLKMUTE_SEEN. -/
  clkSeen : Bool := false
  /-- R208: RAIL_CLIP. -/
  railClip : Bool := false
  /-- R208: PROBE_Z. -/
  probeZ : BitVec 8 := 0
  deriving DecidableEq, Repr

/-- R197-R208: one bridge. -/
structure Bridge where
  /-- R197: state code. -/
  st : BitVec 4 := 0
  /-- R191: start request. -/
  startReq : Bool := false
  /-- R191: RUN as last taken. -/
  runBit : Bool := false
  /-- R191: rail need in units of 10 mV. -/
  need : BitVec 14 := 0
  /-- R192: needs of the block in play, sample by sample. -/
  needs : List (BitVec 14) := []
  /-- R208: output mode in force. -/
  mode : BitVec 2 := 0
  /-- R206: a committed mode that applies to the next probe or start. -/
  modeNext : Option (BitVec 2) := none
  /-- R199, R208: trips since the last report. -/
  trips : BitVec 8 := 0
  /-- R199: instants (ns) of the trips of the last 950 us, newest first. -/
  win : List Nat := []
  /-- R199: switches off: the blanking after a trip runs. -/
  blank : Bool := false
  /-- R201: consecutive failed probes. -/
  prbFail : Nat := 0
  /-- R199, R208: SHORT entered since the last report. -/
  shortSeen : Bool := false
  /-- R202, R208: clock-error mute since the last report. -/
  clkSeen : Bool := false
  /-- R195, R208: output limited by the rail since the last report. -/
  railClip : Bool := false
  /-- R201: |Z| of the last probe in Ohm. -/
  probeZ : BitVec 8 := 0
  /-- R208: BR_STATUS as last reported. -/
  reg : BrReg := {}
  /-- R201: the cool-down is complete. -/
  cooled : Bool := false
  /-- R201: the probe tone plays at this end. -/
  tone : Bool := false
  /-- R201: the probe of this end of a loop pair has been made and has passed. -/
  probeOk : Bool := false
  /-- R201: a trip occurred during the probe tone. -/
  probeTrip : Bool := false
  /-- R182: 48 kHz periods since the soft-start or the probe began. -/
  ssAge : Nat := 0
  /-- R182: step 3 of the soft-start runs. -/
  fade : Bool := false
  /-- R182: 48 kHz periods of step 3. -/
  sgain : Nat := 0
  /-- R212, R201: all four switches off for a measurement from the other end. -/
  held : Bool := false
  /-- R212: 48 kHz periods left of steps 1 and 2 of a held-off end that is to drive again. -/
  rejoin : Nat := 0
  /-- R211: the excitations that play, the oldest first. -/
  exc : List Playing := []
  /-- R185: state of the modulator's interpolation (log 42). -/
  mod : List Int := []
  deriving DecidableEq, Repr

/-- R208: PD_STATUS fields as last reported. -/
structure PdReg where
  /-- R208: TJ. -/
  tj : BitVec 8 := 0
  /-- R208: TSTEP. -/
  tstep : Nat := 0
  /-- R208: TWARN. -/
  twarn : Bool := false
  /-- R208: TSHUT. -/
  tshut : Bool := false
  /-- R208: BFAULT. -/
  bfault : Bool := false
  deriving DecidableEq, Repr

/-- R195, R202-R208: one power die. -/
structure Die where
  /-- R204: junction temperature plus 64 degrees, as last measured. -/
  tj : BitVec 8 := 0
  /-- R176: thermal step. -/
  tstep : Nat := 0
  /-- R204: thermal warning. -/
  twarn : Bool := false
  /-- R204: thermal shutdown. -/
  tshut : Bool := false
  /-- R208: ILIM_IN. -/
  ilimIn : Bool := false
  /-- R208: GUARD, acted since last cleared. -/
  guard : Bool := false
  /-- R195: the rail guard is acting. -/
  guardOn : Bool := false
  /-- R205: the boost is stopped by a fault. -/
  bfault : Bool := false
  /-- R205: instants (ms) of the boost faults of the last 60 s, newest first. -/
  bwin : List Nat := []
  /-- R205: three boost faults in 60 s: stopped until the next DAWN of its domain. -/
  bdead : Bool := false
  /-- R208: VRAIL in units of 10 mV. -/
  vrail : BitVec 16 := 0
  /-- R190: rail target in units of 10 mV, at the instant at which the frame in play began. -/
  target : Nat := 0
  /-- R190: the rail's trajectory, in units of 10 mV / 4800. -/
  traj : Nat := 0
  /-- R208: PD_STATUS as last reported. -/
  reg : PdReg := {}
  /-- R39: CLK_STATUS.MOD_OK bit. -/
  modOk : Bool := false
  deriving DecidableEq, Repr

/-- R222: the estimate of one sweep band: its validity, and Z = 8 * (re + j * im) / den Ohm. -/
structure Band where
  valid : Bool := false
  re : Int := 0
  im : Int := 0
  den : Nat := 0
  deriving DecidableEq, Repr

/-- R213-R232: one supervised line. -/
structure Line where
  /-- R232: LMODE. -/
  lmode : BitVec 3 := 0
  /-- R232: LFAULT. -/
  lfault : Bool := false
  /-- R232: LHIGH. -/
  lhigh : Bool := false
  /-- R232: BREAK. -/
  brk : Bool := false
  /-- R232: GAP. -/
  gap : Bool := false
  /-- R232: SEEN. -/
  seen : Bool := false
  /-- R232: ZP in 0.1 Ohm. -/
  zp : BitVec 16 := 0
  /-- R232: CONT in 1/64. -/
  cont : BitVec 7 := 0
  /-- R232: FPV. -/
  fpv : Bool := false
  /-- R218: consecutive failing valid load windows. -/
  loadFail : Nat := 0
  /-- R218: consecutive passing valid load windows. -/
  loadPass : Nat := 0
  /-- R218: consecutive failing valid continuity windows. -/
  contFail : Nat := 0
  /-- R218: consecutive passing valid continuity windows. -/
  contPass : Nat := 0
  /-- R218: windows left of a counted run, capture or calibration. -/
  winLeft : Nat := 0
  /-- R218: valid load windows of the run. -/
  nLoad : Nat := 0
  /-- R218: failed load windows of the run. -/
  fLoad : Nat := 0
  /-- R218: valid continuity windows of the run. -/
  nCont : Nat := 0
  /-- R218: failed continuity windows of the run. -/
  fCont : Nat := 0
  /-- R218: direction of the last failing load window. -/
  lastHigh : Bool := false
  /-- R217: the next window is a continuity window. -/
  nextCont : Bool := false
  /-- R219: the counted run has had a verdict-bearing valid window. -/
  verdictWin : Bool := false
  /-- R225: sum over the valid windows of a capture or a calibration: |Z| in 0.1 Ohm / 1024, or C_F in 0.1 nF. -/
  sumZ : Int := 0
  /-- R216, R230: the window in progress has had a trip, a limit by the rail, a bridge out of RUN or a staged commit. -/
  spoilt : Bool := false
  /-- R215: a sweep waits for its bridge or bridges to be in RUN. -/
  sweepWait : Bool := false
  /-- R223: direction being integrated: 0 none, 1 from A, 2 from B. -/
  sweepDir : Nat := 0
  /-- R223: 48 kHz periods since the excitation of the direction began. -/
  sweepAge : Nat := 0
  /-- R223: 48 kHz periods of the integration. -/
  intAge : Nat := 0
  /-- R223: the integration runs. -/
  integ : Bool := false
  /-- R222, R230: periods left out of the average. -/
  badPer : List Nat := []
  /-- R223: 48 kHz periods left of the hand-over after a direction. -/
  hand : Nat := 0
  /-- R222: band estimates from A (or the radial end). -/
  resA : List Band := []
  /-- R222: band estimates from B. -/
  resB : List Band := []
  /-- R230: enough periods were kept in direction A. -/
  keptA : Bool := true
  /-- R230: enough periods were kept in direction B. -/
  keptB : Bool := true
  /-- R406: VERD of the line's last health record. -/
  recVerd : BitVec 2 := 0
  deriving DecidableEq, Repr

/-- R227, R232: the earth test. -/
structure Earth where
  /-- R232: EFAULT. -/
  fault : Bool := false
  /-- R232: EHIGH. -/
  high : Bool := false
  /-- R232: ESEEN. -/
  seen : Bool := false
  /-- R232: ERUN. -/
  run : Bool := false
  /-- R232: RLEAK in kOhm. -/
  rleak : BitVec 8 := 0
  /-- R232: ECOUNT. -/
  count : BitVec 8 := 0
  /-- R227: 0 stopped, 1 continuous, 2 counted. -/
  mode : Nat := 0
  /-- R227: tests left of a counted run. -/
  left : Nat := 0
  /-- R227: consecutive failing tests. -/
  fails : Nat := 0
  /-- R227: consecutive passing tests. -/
  passes : Nat := 0
  deriving DecidableEq, Repr

/-- R210, R229: the line measurement unit. -/
structure Lmu where
  /-- R232: lines by bridge. -/
  line : Vector Line 8 := .replicate 8 {}
  /-- R232: earth test. -/
  earth : Earth := {}
  /-- R225: fingerprint records as the LMU last read them; no words where there is none. -/
  fp : Vector (List Word) 8 := .replicate 8 []
  /-- R229: record sequence counter. -/
  seq : BitVec 16 := 0
  /-- R311: an abandoned record is being formed. -/
  pend : Bool := false
  deriving DecidableEq, Repr

/-- R166-R169, R242, R245: the fixed stages of one input on the converter die (log 42); no words = a state of zero. -/
structure InFilt where
  /-- R167: state of the DC removal. -/
  dc : List Int := []
  /-- R168: state of the high-pass filter. -/
  hp : List Int := []
  /-- R169: state of the decimation filter. -/
  dec : List Int := []
  /-- R245: state of the level meters. -/
  lev : List Int := []
  /-- R24, R168: samples of the frame that ended, 384 kHz, after the high-pass filter. -/
  cap : List Int := []
  /-- R139, R169: samples at 384 kHz since the last D16 block boundary, of an input that delivers to D16. -/
  got : List Int := []
  /-- R138, R139, R245: the block delivered. -/
  blk : List Sample := []
  /-- R242, R251: gain of a microphone's output in steps of 1/24. -/
  gain : Nat := 0
  /-- R245: the block in progress spans a start, a rate change, a MICPWR fault or a privacy mute. -/
  bad : Bool := true
  deriving DecidableEq, Repr

/-- R180: the steps of the line outputs' quiet charge, and the same in reverse. -/
inductive VoStep | rest | up1 | up2 | up3 | on | down3 | down2 | down1
  deriving DecidableEq, Repr

/-- R233-R253: the converter die's audio side. -/
structure Conv where
  /-- R166: the fixed stages of inputs 0-15, numbered as in INDOM. -/
  filt : Vector InFilt 16 := .replicate 16 {}
  /-- R170: state of the interpolation filters of sinks 0-5 (log 42). -/
  interp : Vector (List Int) 6 := .replicate 6 []
  /-- R170: samples that the DACs of sinks 0-5 took in the frame that ended, 384 kHz, in units of 1/48 of a sample's. -/
  dac : Vector (List Int) 6 := .replicate 6 []
  /-- R233: PGA gain applied. -/
  gain : Vector (BitVec 7) 8 := .replicate 8 0
  /-- R235: gain changes waiting (GPEND). -/
  gpend : Vector (Option (BitVec 7)) 8 := .replicate 8 none
  /-- R253: OVL. -/
  ovl : BitVec 8 := 0
  /-- R253: JCLASS. -/
  jclass : BitVec 3 := 0
  /-- R253: JDET. -/
  jdet : Bool := false
  /-- R239: level of HP_DET, 1 = high. -/
  hpDet : Bool := true
  /-- R180: where the quiet charge of the line outputs stands. -/
  vo : VoStep := .rest
  /-- R180: time within that step in 1/240 ms; of step 2 in either direction, the place on the bias ramp. -/
  voPos : Nat := 0
  /-- R181: time in 1/240 ms until the headphone output's charge pump has settled. -/
  hpWait : Nat := 0
  /-- R180, R233: time in 1/240 ms until a line output that has been enabled with VO up has passed step 2. -/
  loWait : Vector Nat 4 := .replicate 4 0
  /-- R178: the converter link carries valid words. -/
  linkOk : Bool := true
  /-- R178: boundaries left before the link-loss mute is released. -/
  linkWait : Nat := 0
  /-- R253: sample mode in force. -/
  rawMode : Bool := false
  /-- R253: clock of pair q running. -/
  pdmOn : Vector Bool 4 := .replicate 4 false
  /-- R253: clock code of pair q. -/
  pdmRate : Vector (BitVec 2) 4 := .replicate 4 0
  /-- R233: pair q enabled. -/
  pdmEn : Vector Bool 4 := .replicate 4 false
  /-- R242: the zero interval after a rate change runs. -/
  pdmFade : Vector Bool 4 := .replicate 4 false
  /-- R44: rate that DAWN step 7 returns pair q to. -/
  dayRate : Vector (BitVec 2) 4 := .replicate 4 0
  /-- R277: deferred rate change of pair 0. -/
  pend0 : Option (BitVec 2) := none
  /-- R253: MICPWR. -/
  micpwr : Bool := false
  /-- R253: MICPWR_FLT. -/
  micFlt : Bool := false
  /-- R243: MICPWR is off by overcurrent. -/
  micOff : Bool := false
  /-- R253: MUTE_SEEN. -/
  muteSeen : Bool := false
  /-- R253: level of PRIV_MUTE, 1 = asserted. -/
  privMute : Bool := true
  /-- R251: the 5 ms between MICPWR and the clock restart run. -/
  clkWait : Bool := false
  /-- R253: PERMIT_MIN. -/
  permit : BitVec 8 := 0
  /-- R248: the permit has ended with a sample-mode program running. -/
  permitEnd : Bool := false
  deriving DecidableEq, Repr

/-- R261: one window comparator's persistence. -/
structure Cmp where
  /-- R261: consecutive scans in the leaving condition. -/
  lowCnt : Nat := 0
  /-- R261: consecutive scans in the returning condition. -/
  backCnt : Nat := 0
  deriving DecidableEq, Repr

/-- R264: one supervised contact input. -/
structure Contact where
  /-- R270: state code of R264. -/
  st : BitVec 3 := 0
  /-- R264: band being debounced. -/
  cand : Option (BitVec 3) := none
  /-- R264: consecutive scans of that band. -/
  cnt : Nat := 0
  /-- R264: consecutive scans in no band. -/
  none_ : Nat := 0
  deriving DecidableEq, Repr

/-- R257, R270: one result block of the supervision ADC. -/
structure Bank where
  /-- R270: SEQ. -/
  seq : BitVec 16 := 0
  /-- R270: VALID. -/
  valid : Bool := false
  /-- R270: NSCAN. -/
  nscan : Bool := false
  /-- R270: SADC_FRM. -/
  frm : Word := 0
  /-- R270: VALUE of each channel. -/
  vals : Vector (BitVec 16) 16 := .replicate 16 0
  /-- R270: VALUE2 of S1 channel 14 (TSENSE1). -/
  val2 : BitVec 16 := 0
  /-- R258: the scan in progress contains a conversion made without lock. -/
  bad : Bool := false
  /-- R256: FRAME of the scan being completed. -/
  scanF : Word := 0
  /-- R257: a scan has been completed and is not yet published. -/
  due : Bool := false
  deriving DecidableEq, Repr

/-- R254-R270: the supervision ADC. -/
structure Sadc where
  /-- R257: bank S0. -/
  s0 : Bank := {}
  /-- R257: bank S1. -/
  s1 : Bank := {}
  /-- R255: frame carried by conversions triggered from now on. -/
  tag : Word := 0
  /-- R260: comparator table in force, 32 words. -/
  tab : List Word := facCmp
  /-- R270: CMP_BELOW. -/
  below : Word := 0
  /-- R270: CMP_ABOVE. -/
  above : Word := 0
  /-- R270: CMP_SEEN. -/
  seen : Word := 0
  /-- R261: comparator persistence. -/
  cmp : Vector Cmp 32 := .replicate 32 {}
  /-- R264: contact inputs CI0-CI7. -/
  con : Vector Contact 8 := .replicate 8 {}
  /-- R270: CONTACT_STATUS.EVAC. -/
  evac : Bool := false
  /-- R270: CONTACT_STATUS.ALERT. -/
  alert : Bool := false
  /-- R270: SENT. -/
  sent : BitVec 2 := 0
  deriving DecidableEq, Repr

/-- R274: one entry of the stamp ring. -/
structure Stamp where
  /-- R274: FRAME at the block's strobe. -/
  frame : Word := 0
  /-- R274: UTIME seconds [31:0]. -/
  utLo : Word := 0
  /-- R274: UTIME sub-second field. -/
  utSub : BitVec 15 := 0
  deriving DecidableEq, Repr

/-- R271-R284: acoustic wake. -/
structure Wake where
  /-- R55: the wake engine WE. -/
  we : Engine := {}
  /-- R271: WE is loaded. -/
  loaded : Bool := false
  /-- R272: wake word in force. -/
  word : Word := 0x3C
  /-- R129: PSTART 25 accepted: WE starts at the next strobe. -/
  startNext : Bool := false
  /-- R56: model memory, 12,288 words. -/
  model : Map Word := []
  /-- R284: WFLT. -/
  wflt : Bool := false
  /-- R284: candidate held. -/
  cand : Bool := false
  /-- R277: strobes (ms) since the candidate began. -/
  candAge : Nat := 0
  /-- R277: strobes since the last candidate ended, up to 100. -/
  sinceEnd : Nat := 100
  /-- R277: the NIGHT entry is being deferred. -/
  nightAsk : Bool := false
  /-- R284: CTO. -/
  cto : Bool := false
  /-- R284: DET. -/
  det : Bool := false
  /-- R284: DCOUNT. -/
  dcount : BitVec 4 := 0
  /-- R284: DISC. -/
  disc : BitVec 8 := 0
  /-- R284: WAKE_REC. -/
  wrec : Word := 0
  /-- R284: WAKE_FRM. -/
  recFrm : Word := 0
  /-- R284: WAKE_UT_LO. -/
  recLo : Word := 0
  /-- R284: WAKE_UT_SUB. -/
  recSub : BitVec 15 := 0
  /-- R274: number of the newest complete block plus 1. -/
  b : BitVec 24 := 0
  /-- R274: pre-roll, 16,384 words. -/
  pre : Map Word := []
  /-- R274: stamp ring, 2048 entries. -/
  stamps : Map Stamp := []
  /-- R281: PRIV, GAP, MPF marks (bits 0-2) of each block in the ring. -/
  marks : Map (BitVec 3) := []
  /-- R275: the block in progress holds a sample written during a rate change or a discard. -/
  gapNext : Bool := false
  /-- R275: the block in progress holds a sample written under PRIV_MUTE. -/
  privNext : Bool := true
  /-- R275: the block in progress holds a sample written during a MICPWR fault. -/
  mpfNext : Bool := false
  /-- R273: whether the decimator wrote samples (or zeros), turn by turn, since the block in progress began. -/
  runs : List Bool := [false]
  /-- R273: state of the wake decimator (log 42). -/
  feed : List Int := []
  /-- R282: a capture copy runs. -/
  capBusy : Bool := false
  /-- R422: a capture is complete. -/
  capDone : Bool := false
  /-- R378: capture area, 16,000 words of two samples. -/
  cap : Map Word := []
  deriving DecidableEq, Repr

/-- R382: a configuration save. -/
structure Save where
  /-- R382: requested; takes effect at the next boundary. -/
  wait : Bool := false
  /-- R399: SAVING. -/
  run : Bool := false
  /-- R122: a CFGSAVE is held as a deferred effect. -/
  held : Bool := false
  /-- R382: slot being written. -/
  slot : Nat := 0
  /-- R382: contents being written. -/
  words : Map Word := []
  /-- R382: GEN being written. -/
  gen : BitVec 16 := 0
  deriving DecidableEq, Repr

/-- R389, R395, R396, R399: the operation of IMG_CTRL. -/
structure Img where
  /-- R399: IMG_STATUS.OP. -/
  op : BitVec 3 := 0
  /-- R399: BUSY. -/
  busy : Bool := false
  /-- R399: ERR. -/
  err : BitVec 4 := 0
  /-- R399: WORDS. -/
  words : Nat := 0
  /-- R399: set or message number of the operation. -/
  num : BitVec 8 := 0
  /-- R399: message offset in units of 256 words. -/
  ofs : BitVec 16 := 0
  /-- R416: bytes pushed, newest first. -/
  buf : List Byte := []
  /-- R389: words of the item, once word 2 has been pushed. -/
  len : Nat := 0
  /-- R389: the last word has been pushed and the check runs. -/
  full : Bool := false
  /-- R395: export package bytes still to be read. -/
  out : List Byte := []
  deriving DecidableEq, Repr

/-- R378-R399: retained state and life cycle. -/
structure Ret where
  /-- R378: MRAM words by word address, key store and capture area apart. -/
  mram : Map Word := []
  /-- R378: 64-bit MRAM words, by word address / 2, that read with an uncorrectable error; no command brings one (log 46). -/
  bad : List Nat := []
  /-- R390: life-cycle state. -/
  lc : BitVec 3 := 0
  /-- R378: site key, first byte in bits [7:0]. -/
  key : Option (BitVec 256) := none
  /-- R377: NONCE_LAST. -/
  nonceLast : Word := 0
  /-- R393: pending-wipe word: target state of a running wipe. -/
  pendWipe : Option (BitVec 3) := none
  /-- R399: LC_STATUS.BUSY: transition or wipe running. -/
  wiping : Bool := false
  /-- R391: state that takes effect at the next boundary. -/
  lcNext : Option (BitVec 3) := none
  /-- R399: LC_REQ.TARGET. -/
  reqTarget : BitVec 3 := 0
  /-- R399: LC_REQ.KEYW. -/
  reqKeyw : Bool := false
  /-- R399: LC_NONCE. -/
  nonce : Word := 0
  /-- R399: LC_TAG0-7 as written. -/
  tag : Vector Word 8 := .replicate 8 0
  /-- R392: KEY_W0-7 as written. -/
  keyW : Vector Word 8 := .replicate 8 0
  /-- R381: selected slot. -/
  sel : Option Nat := none
  /-- R399: GEN of the selected slot. -/
  gen : BitVec 16 := 0
  /-- R399: V0. -/
  v0 : Bool := false
  /-- R399: V1. -/
  v1 : Bool := false
  /-- R399: NOSLOT. -/
  noSlot : Bool := false
  /-- R189: retained power table. -/
  power : List Word := facPower
  /-- R260: retained comparator table. -/
  cmp : List Word := facCmp
  /-- R380: BOOT. -/
  boot : BitVec 2 := 0
  /-- R382: configuration save. -/
  save : Save := {}
  /-- R399: IMG_CTRL operation. -/
  img : Img := {}
  /-- R389: bank marked empty. -/
  bankEmpty : Vector Bool 2 := .replicate 2 false
  /-- R386: messages undefined because their check failed. -/
  msgBad : List Nat := []
  /-- R386: the message check at reset or of the day runs. -/
  checking : Bool := false
  deriving DecidableEq, Repr

/-- R366: an admitted command. -/
structure CmdEnt where
  /-- R369: order of admission. -/
  id : Nat := 0
  /-- R366: issuing host. -/
  host : HostId := .a
  /-- R366: CNUM. -/
  cnum : BitVec 16 := 0
  /-- R363: its words. -/
  words : List Word := []
  /-- R124: CMDDONE issued, effect held. -/
  retiring : Bool := false
  deriving DecidableEq, Repr

/-- R405: an event queue entry. -/
structure EvEntry where
  /-- R405: SEQ. -/
  seq : BitVec 16 := 0
  /-- R405: KIND. -/
  kind : BitVec 2 := 0
  /-- R405: SRC. -/
  src : BitVec 7 := 0
  /-- R405: FRAME. -/
  frame : Word := 0
  /-- R405: UT_LO. -/
  utLo : Word := 0
  /-- R405: UT_SUB. -/
  utSub : BitVec 15 := 0
  /-- R405: CNUM. -/
  cnum : BitVec 16 := 0
  /-- R405: PAYLOAD. -/
  pay : BitVec 24 := 0
  /-- R405: WORD5. -/
  w5 : Word := 0
  deriving DecidableEq, Repr

/-- R402: an event raised in this command and not yet entered. -/
structure Raised where
  /-- R405: KIND. -/
  kind : BitVec 2 := 0
  /-- R400: source number. -/
  src : Nat := 0
  /-- R400: payload. -/
  pay : BitVec 24 := 0
  /-- R405: SUPP or reply. -/
  w5 : Word := 0
  /-- R405: CNUM. -/
  cnum : BitVec 16 := 0
  /-- R404: the one host it goes to; none routes by the masks. -/
  host : Option HostId := none
  /-- R402: stamps of its own rule; none takes FRAME and UTIME now. -/
  stamp : Option Stamp := none
  deriving DecidableEq, Repr

/-- R403: a running rate limiter. -/
structure Lim where
  /-- R403: source. -/
  src : Nat := 0
  /-- R403: qualifier. -/
  qual : Nat := 0
  /-- R403: raisings suppressed. -/
  supp : BitVec 16 := 0
  /-- R403: the interval runs. -/
  run : Bool := true
  deriving DecidableEq, Repr

/-- R377: an ignore counter. -/
structure Ign where
  /-- R377: COUNT. -/
  count : BitVec 16 := 0
  /-- R377: IGN_EV. -/
  ev : Bool := false
  /-- R377: IGN_h_FRM. -/
  frm : Word := 0
  /-- R377: REASON. -/
  reason : BitVec 4 := 0
  /-- R377: PORT. -/
  port : BitVec 2 := 0
  /-- R377: LOC. -/
  loc : BitVec 16 := 0
  deriving DecidableEq, Repr

/-- R419: a result block. -/
structure ResBlk where
  /-- R419: SEQ. -/
  seq : BitVec 16 := 0
  /-- R419: VALID. -/
  valid : Bool := false
  /-- R419: RB_FRM. -/
  frm : Word := 0
  /-- R419: visible words. -/
  vis : Map Word := []
  /-- R122: shadow words. -/
  sh : Map Word := []
  deriving DecidableEq, Repr

/-- R357-R377, R400-R405, R419: command and event queues, claims, limiters, result blocks. -/
structure Hosts where
  /-- R366: admitted commands of the three queues, in order of admission. -/
  q : List CmdEnt := []
  /-- R369: order number of the next admission. -/
  nextId : Nat := 0
  /-- R366: CNUM count of each host. -/
  cnum : Vector (BitVec 16) 3 := .replicate 3 0
  /-- R369: id of the head command presented by CMDHEAD. -/
  head : Option Nat := none
  /-- R364: id of the LOADSET that the resident program is serving. -/
  loadCmd : Option Nat := none
  /-- R374: event queues, oldest first, at most 32 entries. -/
  evq : Vector (List EvEntry) 3 := .replicate 3 []
  /-- R374: bytes of the oldest entry already popped. -/
  evPos : Vector Nat 3 := .replicate 3 0
  /-- R343: a byte of the event FIFO has been popped since the newest entry entered. -/
  evTouched : Vector Bool 3 := .replicate 3 false
  /-- R377: EVQ_LOST. -/
  evLost : Vector (BitVec 8) 3 := .replicate 3 0
  /-- R377: NEXT_SEQ. -/
  nextSeq : Vector (BitVec 16) 3 := .replicate 3 0
  /-- R411: EVM_A0-3, EVM_B0-3, EVM_C0-3. -/
  evm : Vector Word 12 := facEvm
  /-- R403: running limiters. -/
  lims : List Lim := []
  /-- R402: events raised and not yet entered. -/
  evBuf : List Raised := []
  /-- R377: ignore counters of hosts A, B, C and the core. -/
  ign : Vector Ign 4 := .replicate 4 {}
  /-- R371: claim table at resource * 8 + level, host code; unlisted slots are empty (3). -/
  claims : Map (BitVec 2) := []
  /-- R377: HOST_CTRL.FP_HOST. -/
  fpHost : BitVec 2 := 0
  /-- R377: HOST_CTRL.TAGALL. -/
  tagAll : Bool := false
  /-- R419: result blocks 0-255. -/
  resBlk : Map ResBlk := []
  /-- R401: program fault flags. -/
  progFlags : BitVec 4 := 0
  /-- R124: deferred effects issued in the current frame. -/
  defNow : List Deferred := []
  /-- R124: deferred effects of the previous frame, held for the copy's acknowledgement. -/
  defHeld : List Deferred := []
  deriving DecidableEq, Repr

/-- R407, R408, R411: fault outputs. -/
structure Flt where
  /-- R411: FLT_MASKn. -/
  mask : Vector Word 4 := facMask
  /-- R411: LATCH. -/
  latch : BitVec 4 := 0
  /-- R411: source level of FAULTn: 1 = asserted. -/
  asserted : BitVec 4 := 0xF
  /-- R411: LATCHED. -/
  latched : BitVec 4 := 0
  /-- R407: the 100 ms minimum assertion of FAULTn runs. -/
  minRun : BitVec 4 := 0
  /-- R411: ATTN_FLT. -/
  attnFlt : Bool := true
  deriving DecidableEq, Repr

/-- R323, R432, R435: levels in the hold latches of the class H pads. -/
structure Pads where
  /-- R432: FAULT0-3, 1 = asserted. -/
  fault : BitVec 4 := 0xF
  /-- R432: ATTN_A, 1 = asserted. -/
  attn : Bool := false
  /-- R432: PRIV_LED. -/
  led : Bool := false
  /-- R432: LRLY0-7. -/
  lrly : BitVec 8 := 0
  /-- R432: AMP_EN0-3. -/
  amp : BitVec 4 := 0
  /-- R319: level of FAULT0 in its hold latch before it was forced asserted. -/
  f0held : Option Bool := none
  deriving DecidableEq, Repr

/-- R356: the configuration registers of a two-wire port. -/
structure TwCfg where
  /-- R356: TWx_ADDR01. -/
  addr01 : Word := 0
  /-- R356: TWx_ADDR23. -/
  addr23 : Word := 0
  /-- R356: TWx_AMASK. -/
  amask : Word := 0
  /-- R356: TWx_TIMA. -/
  tima : Word := 0x14143
  /-- R356: TWx_CTRL. -/
  ctrl : Word := 0x14321E
  /-- R356: TW2_TIMB. -/
  timb : Word := 0x401E1E1E
  /-- R356: TW2_TIMC. -/
  timc : Word := 0x2D40
  deriving DecidableEq, Repr

/-- R339, R346: where a two-wire target port is within a transfer; `held`: matched in NIGHT, SCL held until the port logic is
ready. -/
inductive TwPhase | idle | addr | pointer | data (read : Bool) | deaf | held (read : Bool)
  deriving DecidableEq, Repr

/-- R339-R343, R356: one two-wire port. -/
structure TwPort where
  /-- R356: registers as written. -/
  cfg : TwCfg := {}
  /-- R347: registers in force. -/
  use : TwCfg := {}
  /-- R339: where the transfer is. -/
  phase : TwPhase := .idle
  /-- R357: view that the transfer opened. -/
  view : Option HostId := none
  /-- R356: STO. -/
  sto : Bool := false
  /-- R356: in-band request due or running. -/
  due : Bool := false
  /-- R343: the request pulls SDA low. -/
  reqRun : Bool := false
  /-- R356: RSACK. -/
  rsack : BitVec 8 := 0
  /-- R356: PARTIAL. -/
  part : BitVec 8 := 0
  /-- R356: FIFOERR. -/
  fifoErr : BitVec 8 := 0
  deriving DecidableEq, Repr

/-- R349-R351, R356: port P as controller. -/
structure PcPort where
  /-- R356: BUSY. -/
  busy : Bool := false
  /-- R356: RESULT. -/
  result : BitVec 3 := 0
  /-- R356: INDEX. -/
  index : BitVec 8 := 0
  /-- R356: ARB_LOST. -/
  arbLost : BitVec 8 := 0
  /-- R356: CLEARS. -/
  clears : BitVec 8 := 0
  /-- R356: address of the transfer. -/
  addr : BitVec 7 := 0
  /-- R356: bytes to write. -/
  wlen : BitVec 8 := 0
  /-- R356: bytes to read. -/
  rlen : BitVec 8 := 0
  /-- R356: the operation is a bus clear. -/
  clear : Bool := false
  /-- R350: consecutive lost arbitrations of the transfer. -/
  losses : Nat := 0
  /-- R350: waiting to retry. -/
  retry : Bool := false
  /-- R416: transmit FIFO, oldest first, at most 256. -/
  tx : List Byte := []
  /-- R416: receive FIFO. -/
  rx : List Byte := []
  deriving DecidableEq, Repr

/-- R352, R356: the fast port. -/
structure FpPort where
  /-- R356: SEL. -/
  sel : Bool := false
  /-- R356: MODE3. -/
  mode3 : Bool := false
  /-- R356: OVF. -/
  ovf : BitVec 8 := 0
  /-- R356: UDF. -/
  udf : BitVec 8 := 0
  /-- R356: BADOP. -/
  badop : BitVec 8 := 0
  deriving DecidableEq, Repr

/-- R335, R338, R415: what each port keeps for each view it opens. -/
structure PView where
  /-- R335: pointer. -/
  ptr : Byte := 0
  /-- R335: PAGE. -/
  page : Byte := 0
  /-- R335: kind of the transfer in progress, once its first data byte has decided it: true = holding. -/
  hold : Option Bool := none
  /-- R338: snapshot: register place (page * 256 + offset) and value. -/
  snap : Option (Nat × Word) := none
  /-- R338: staging: register place, bytes written, value. -/
  stg : Option (Nat × BitVec 4 × Word) := none
  /-- R50: group buffer of UTIME_SUB, UTIME_LO, UTIME_HI. -/
  ut : Option (List Word) := none
  /-- R284: group buffer of WAKE_REC, WAKE_FRM, WAKE_UT_LO, WAKE_UT_SUB. -/
  wk : Option (List Word) := none
  /-- R365: assembly buffer, newest byte first. -/
  asm : List Byte := []
  /-- R367: complete commands that wait for a tag check, oldest first. -/
  chk : List (List Word) := []
  /-- R415: RES_SEL.RES. -/
  resSel : Byte := 0
  /-- R415: RB_SEL.BLOCK. -/
  rbSel : Byte := 0
  /-- R421: REC_SEL.BRIDGE. -/
  recBr : BitVec 3 := 0
  /-- R421: REC_SEL.FP. -/
  recFp : Bool := false
  /-- R421: REC_SEL.AVAIL. -/
  recAv : Bool := false
  /-- R421: record FIFO. -/
  recFifo : List Byte := []
  /-- R415: read position of the capture port. -/
  cap : Nat := 0
  deriving DecidableEq, Repr

/-- R331-R356: ports and views. -/
structure Ports where
  /-- R331: H0, H1, port P. -/
  tw : Vector TwPort 3 := #v[{}, {}, { cfg := { ctrl := 0x1E }, use := { ctrl := 0x1E } }]
  /-- R349: port P as controller. -/
  pc : PcPort := {}
  /-- R352: fast port. -/
  fp : FpPort := {}
  /-- R335: port-views at port * 4 + host. -/
  views : Map PView := []
  /-- R331: level of FB_SEL. -/
  fbSel : Bool := false
  /-- R331: level of HADDR2-HADDR0. -/
  haddr : BitVec 3 := 0
  /-- R334: fallback path in force. -/
  fb : Bool := false
  /-- R334: HADDR as sampled at reset. -/
  addr : BitVec 3 := 0
  /-- R336: bytes that the last read delivered to its controller, oldest first. -/
  rd : List Byte := []
  /-- R336: the last byte was not acknowledged. -/
  nack : Bool := false
  deriving DecidableEq, Repr

/-- R438: the boundary-scan TAP. -/
structure Tap where
  /-- R438: instruction in force. -/
  ir : BitVec 4 := 0b1111
  /-- R438: EXTEST in force. -/
  extest : Bool := false
  /-- R438: SAMPLE/PRELOAD in force. -/
  sample : Bool := false
  deriving DecidableEq, Repr

/-- Everything the TF884x holds, as plain data. -/
structure State where
  /-- R397: DEV_SERIAL, 64 bits (log 8). -/
  serial : BitVec 64
  /-- R3, R397: the variant (log 8). -/
  variant : Variant
  /-- R453: the device is held in reset. -/
  resetHeld : Bool
  /-- R287: the feeds, 0 = A, 1 = B. -/
  feeds : Vector Feed 2
  /-- R39-R47: clock monitors. -/
  clk : Clk
  /-- R48-R54: FRAME, UTIME, alarms and the periodic timer. -/
  time : Time
  /-- R31-R35: the active-core arbiter. -/
  arb : Arb
  /-- R292-R306: the mirror link and the standby's copy. -/
  mirror : Mirror
  /-- R307-R330: the power manager. -/
  pm : Pm
  /-- R18, R55: the active core die. -/
  core : CoreSt
  /-- R185: the four power dies. -/
  dies : Vector Die 4
  /-- R197: the eight bridges. -/
  bridges : Vector Bridge 8
  /-- R210: the line measurement unit. -/
  lmu : Lmu
  /-- R233: the converter die. -/
  conv : Conv
  /-- R254: the supervision ADC. -/
  sadc : Sadc
  /-- R271: the wake engine and acoustic wake. -/
  wake : Wake
  /-- R378: retained state and life cycle. -/
  ret : Ret
  /-- R357: hosts, queues and events. -/
  hosts : Hosts
  /-- R407: the fault outputs. -/
  flt : Flt
  /-- R323: the hold latches of the class H pads. -/
  pads : Pads
  /-- R331: the ports and their views. -/
  ports : Ports
  /-- R438: the boundary-scan TAP. -/
  tap : Tap
  /-- The model's own (log 8): how many free values have been taken. -/
  freeCtr : Nat
  /-- The model's own: the commands that wait, first in, first out. -/
  pending : List Instr
  deriving DecidableEq, Repr

/-- Why a run stops with a fault. -/
inductive Fault where
  /-- Safe.  Raised by a meaning whose command is not well formed (WellFormed.lean): its operands describe no command that the
  spec has. -/
  | malformed
  deriving DecidableEq, Repr

/-- Why a command has no meaning. -/
inductive Refusal where
  /-- Safe.  Raised by exec for a command that this model gives no meaning yet. -/
  | notModelled (mnemonic : String)
  deriving DecidableEq, Repr

/-- The state right after reset, as the Reset columns give it: the device is held in reset and RESET_RELEASE comes next. -/
def State.reset : State :=
  { serial := 0, variant := .tf8844, resetHeld := true, feeds := .replicate 2 {}, clk := {}, time := {}, arb := {},
    mirror := {}, pm := {}, core := {}, dies := .replicate 4 {}, bridges := .replicate 8 {}, lmu := {}, conv := {},
    sadc := {}, wake := {}, ret := {}, hosts := {}, flt := {}, pads := {}, ports := {}, tap := {}, freeCtr := 0,
    pending := [] }

end Sys2Proof.Machine
end

