-- ==== Sys2Proof/Machine/Ops.lean ====
section
/-!
DEFINITION. The named operations over State that every family uses: maps, vectors, bit fields, free values, engines, and the
questions about the device as a whole (frame length, variant, who runs).
-/

namespace Sys2Proof.Machine

/-- What a command answers. -/
abbrev Out := Host.Outcome State Fault Refusal

/-! Maps. -/

/-- The value at address `k`; `d` is the map's default. -/
def mget {α : Type} (d : α) : Map α → Nat → α
  | [], _ => d
  | (a, v) :: m, k => if k < a then d else if k = a then v else mget d m k

/-- A write: it keeps the addresses rising and lists no default value. -/
def mset {α : Type} [DecidableEq α] (d : α) : Map α → Nat → α → Map α
  | [], k, v => if v = d then [] else [(k, v)]
  | (a, w) :: m, k, v =>
    if k < a then (if v = d then (a, w) :: m else (k, v) :: (a, w) :: m)
    else if k = a then (if v = d then m else (k, v) :: m)
    else (a, w) :: mset d m k v

/-- The canonical form above an address: rising, and no default listed. -/
def mwfFrom {α : Type} [DecidableEq α] (d : α) : Nat → Map α → Bool
  | _, [] => true
  | lo, (a, v) :: m => decide (lo ≤ a) && decide (v ≠ d) && mwfFrom d (a + 1) m

/-- The canonical form of a map. -/
def mwf {α : Type} [DecidableEq α] (d : α) (m : Map α) : Bool := mwfFrom d 0 m

/-- A run of writes from address `k` upward. -/
def msetAll {α : Type} [DecidableEq α] (d : α) (m : Map α) (k : Nat) : List α → Map α
  | [] => m
  | v :: vs => msetAll d (mset d m k v) (k + 1) vs

/-- A run of `n` reads from address `k` upward. -/
def mgetN {α : Type} (d : α) (m : Map α) (k : Nat) : Nat → List α
  | 0 => []
  | n + 1 => mget d m k :: mgetN d m (k + 1) n

/-- The map without the addresses from `lo` below `hi`: that range wiped to its default. -/
def mwipe {α : Type} (m : Map α) (lo hi : Nat) : Map α := m.filter fun p => p.1 < lo || hi ≤ p.1

/-! Vectors, fields and small conversions. -/

/-- Entry `i` of a vector replaced. -/
def vset {α : Type} {n : Nat} (v : Vector α n) (i : Fin n) (x : α) : Vector α n := v.set i.1 x i.2
/-- Entry `i` of a vector changed by `f`. -/
def vmod {α : Type} {n : Nat} (v : Vector α n) (i : Fin n) (f : α → α) : Vector α n := vset v i (f v[i])
/-- Every entry of a vector, with its number, changed by `f`. -/
def vmap {α β : Type} {n : Nat} (v : Vector α n) (f : Fin n → α → β) : Vector β n := Vector.ofFn fun i => f i v[i]

/-- Bits `[lo + len - 1 : lo]` of a word, as a number. -/
def fld {n : Nat} (w : BitVec n) (lo len : Nat) : Nat := (w.toNat >>> lo) % 2 ^ len
/-- Bit `i` of a word. -/
def bit {n : Nat} (w : BitVec n) (i : Nat) : Bool := w.getLsbD i
/-- A flag as a number. -/
def b2n (b : Bool) : Nat := if b then 1 else 0
/-- Bit `i` of a word set to `b`. -/
def setBit {n : Nat} (w : BitVec n) (i : Nat) (b : Bool) : BitVec n :=
  if b then w ||| BitVec.ofNat n (2 ^ i) else w &&& ~~~ BitVec.ofNat n (2 ^ i)
/-- A saturating 8-bit count. -/
def sat8 (c : BitVec 8) : BitVec 8 := if c = 255 then 255 else c + 1
/-- A saturating 16-bit count. -/
def sat16 (c : BitVec 16) : BitVec 16 := if c = 65535 then 65535 else c + 1

/-- The four bytes of a word, least significant first. -/
def bytesOf (w : Word) : List Byte := [w.extractLsb' 0 8, w.extractLsb' 8 8, w.extractLsb' 16 8, w.extractLsb' 24 8]
/-- The word whose bytes are listed, least significant first; missing bytes are 0. -/
def wordOf : List Byte → Word
  | [] => 0
  | b :: bs => (b.setWidth 32) ||| (wordOf bs <<< 8)
/-- Bytes gathered into words, least significant byte first. -/
def wordsOf : List Byte → List Word
  | a :: b :: c :: d :: bs => wordOf [a, b, c, d] :: wordsOf bs
  | _ => []

/-- A condition for every number below `n`. -/
def allBelow (n : Nat) (p : Nat → Bool) : Bool := (List.range n).all p
/-- A condition for some number below `n`. -/
def anyBelow (n : Nat) (p : Nat → Bool) : Bool := (List.range n).any p

/-- Apply `f` when the condition holds. -/
def iff {α : Type} (c : Bool) (f : α → α) (a : α) : α := if c then f a else a

/-! Names as numbers. -/

/-- 0 = A or CA, 1 = B or CB. -/
def sideIx : Side → Fin 2 | .a => 0 | .b => 1
/-- The other side. -/
def other : Side → Side | .a => .b | .b => .a
/-- The host codes of VIEW_ID.HOST. -/
def hostIx : HostId → Fin 3 | .a => 0 | .b => 1 | .c => 2
/-- The host of a code; 3 names none. -/
def hostOf : Nat → Option HostId | 0 => some .a | 1 => some .b | 2 => some .c | _ => none
/-- The port codes of VIEW_ID.PORT. -/
def portIx : PortId → Nat | .h0 => 0 | .h1 => 1 | .p => 2 | .f => 3
/-- The port of a code. -/
def portOf : Nat → PortId | 0 => .h0 | 1 => .h1 | 2 => .p | _ => .f
/-- The address of a port-view in Ports.views. -/
def pvIx (pv : PortView) : Nat := portIx pv.port * 4 + (hostIx pv.host).val
/-- R331: a two-wire port by its number x. -/
def twIx : TwId → Fin 3 | .h0 => 0 | .h1 => 1 | .p => 2
/-- The port of a two-wire port. -/
def twPort : TwId → PortId | .h0 => .h0 | .h1 => .h1 | .p => .p

/-- R25: F in 48 kHz samples. -/
def flen : FrameLen → Nat | .f16 => 16 | .f32 => 32 | .f48 => 48 | .f96 => 96
/-- The frame length of a value of stage kind 0 (R126). -/
def flenOf : Nat → Option FrameLen | 16 => some .f16 | 32 => some .f32 | 48 => some .f48 | 96 => some .f96 | _ => none

/-- R3: the power dies fitted. -/
def diesFitted : Variant → Nat | .tf8840 => 0 | .tf8842 => 2 | .tf8844 => 4
/-- R3: power die `d` is fitted. -/
def dieFitted (s : State) (d : Nat) : Bool := d < diesFitted s.variant
/-- R18: bridge `b` is fitted, as its die is. -/
def bridgeFitted (s : State) (b : Nat) : Bool := dieFitted s (b / 2)

/-- R397: the word of a table; a missing word is 0. -/
def tword (t : List Word) (i : Nat) : Word := t.getD i 0

/-! Free values. -/

/-- The next free value (log 8). -/
def freeVal (s : State) : BitVec 64 := Config.freeWord s.freeCtr
/-- The state after one free value has been taken. -/
def freeTaken (s : State) : State := { s with freeCtr := s.freeCtr + 1 }

/-! Engines. -/

/-- R55: the engine by its number: E0-E23 and SV of the active core, WE of the keeper. -/
def getEng (s : State) (e : Eng) : Engine :=
  if h : e.val < 25 then s.core.eng[e.val] else s.wake.we
/-- The state with engine `e` replaced. -/
def setEng (s : State) (e : Eng) (x : Engine) : State :=
  if h : e.val < 25 then { s with core := { s.core with eng := s.core.eng.set e.val x } }
  else { s with wake := { s.wake with we := x } }
/-- SV is engine 24. -/
def sv : Eng := 24
/-- WE is engine 25. -/
def weNum : Eng := 25

/-- R458: an engine that has been started and has not halted or been stopped. -/
def engRuns (x : Engine) : Bool :=
  match x.run with
  | .running | .waitF | .waitS _ => true
  | _ => false

/-- R39, R40, R47: the active core die has its clocks: its crystal and PLL, or KF in degraded mode, and its engine PLL. -/
def coreClocked (s : State) : Bool :=
  let i := sideIx s.arb.active
  s.clk.el[i] && (s.clk.degraded || (s.clk.xo[i] && s.clk.fl[i]))

/-- R36: the active core die runs frames under a control program. -/
def controlRuns (s : State) : Bool := s.arb.coreRun && s.core.prog == .control

/-- R35: STBY_STALE. -/
def stbyStale (s : State) : Bool := s.arb.stale || s.mirror.fill.isSome

/-- R188, R208: bridge `b` belongs to a loop pair in force. -/
def isLoop (s : State) (b : Nat) : Bool :=
  bit (tword s.core.tab.power (b / 2 * 2)) 30 && bit (tword s.core.tab.power (b / 2 * 2 + 1)) 30
/-- The other bridge of the die. -/
def mate (b : Fin 8) : Fin 8 := ⟨b.val / 2 * 2 + (1 - b.val % 2), by omega⟩
/-- R18: the power die of a bridge. -/
def dieOf (b : Fin 8) : Fin 4 := ⟨b.val / 2, by omega⟩

/-! Updates of one component. -/

/-- The engine state of one engine changed. -/
def modEng (s : State) (e : Eng) (f : Engine → Engine) : State := setEng s e (f (getEng s e))
/-- The core changed. -/
def modCore (s : State) (f : CoreSt → CoreSt) : State := { s with core := f s.core }
/-- The fabric changed. -/
def modFab (s : State) (f : Fabric → Fabric) : State := { s with core := { s.core with fab := f s.core.fab } }
/-- A bridge changed. -/
def modBridge (s : State) (b : Fin 8) (f : Bridge → Bridge) : State := { s with bridges := vmod s.bridges b f }
/-- A power die changed. -/
def modDie (s : State) (d : Fin 4) (f : Die → Die) : State := { s with dies := vmod s.dies d f }
/-- A line changed. -/
def modLine (s : State) (b : Fin 8) (f : Line → Line) : State :=
  { s with lmu := { s.lmu with line := vmod s.lmu.line b f } }
/-- The power manager changed. -/
def modPm (s : State) (f : Pm → Pm) : State := { s with pm := f s.pm }
/-- The hosts' part changed. -/
def modHosts (s : State) (f : Hosts → Hosts) : State := { s with hosts := f s.hosts }
/-- The wake part changed. -/
def modWake (s : State) (f : Wake → Wake) : State := { s with wake := f s.wake }
/-- The converter die changed. -/
def modConv (s : State) (f : Conv → Conv) : State := { s with conv := f s.conv }
/-- The retained part changed. -/
def modRet (s : State) (f : Ret → Ret) : State := { s with ret := f s.ret }
/-- The supervision ADC changed. -/
def modSadc (s : State) (f : Sadc → Sadc) : State := { s with sadc := f s.sadc }
/-- The arbiter changed. -/
def modArb (s : State) (f : Arb → Arb) : State := { s with arb := f s.arb }
/-- The mirror changed. -/
def modMirror (s : State) (f : Mirror → Mirror) : State := { s with mirror := f s.mirror }
/-- The clock monitors changed. -/
def modClk (s : State) (f : Clk → Clk) : State := { s with clk := f s.clk }
/-- The timebase changed. -/
def modTime (s : State) (f : Time → Time) : State := { s with time := f s.time }
/-- The ports changed. -/
def modPorts (s : State) (f : Ports → Ports) : State := { s with ports := f s.ports }
/-- A two-wire port changed. -/
def modTw (s : State) (tw : TwId) (f : TwPort → TwPort) : State :=
  { s with ports := { s.ports with tw := vmod s.ports.tw (twIx tw) f } }

/-- What a port keeps for a view. -/
def getPv (s : State) (pv : PortView) : PView := mget {} s.ports.views (pvIx pv)
/-- The port-view changed. -/
def modPv (s : State) (pv : PortView) (f : PView → PView) : State :=
  { s with ports := { s.ports with views := mset {} s.ports.views (pvIx pv) (f (getPv s pv)) } }

end Sys2Proof.Machine
end

