-- ==== Sys2Proof/Machine/Events.lean ====
section
/-!
DEFINITION. Events and fault outputs (R400-R411): raising and rate limits, ignored items, entry into the queues in SRC order,
the 32 fault conditions and the four fault outputs, and `act`, through which every meaning of a device command passes.
-/

namespace Sys2Proof.Machine

/-- A payload of an event entry. -/
def pay (n : Nat) : BitVec 24 := BitVec.ofNat 24 n

/-- UTIME and FRAME as an event entry stamps them now (R402). -/
def stampNow (s : State) : Stamp :=
  { frame := s.time.frame, utLo := s.time.sec.setWidth 32, utSub := s.time.sub }

/-- R402: an entry waits to be entered; `settle` enters it. -/
def raiseEntry (r : Raised) (s : State) : State :=
  { s with hosts := { s.hosts with evBuf := s.hosts.evBuf ++ [r] } }

/-- R402: raise event `src` with a payload. -/
def raiseEv (src : Nat) (p : Nat) (s : State) : State := raiseEntry { kind := 0, src := src, pay := pay p } s

/-- R403: the limiter of a source and qualifier. -/
def limOf (src qual : Nat) (ls : List Lim) : Option Lim := ls.find? fun l => l.src = src && l.qual = qual

/-- R403: the limiter of a source and qualifier changed. -/
def modLim (src qual : Nat) (f : Lim → Lim) (ls : List Lim) : List Lim :=
  ls.map fun x => if x.src = src && x.qual = qual then f x else x

/-- R403: raise a limited event: suppressed and counted while the interval runs; otherwise it carries the count. -/
def raiseLimited (src qual : Nat) (p : Nat) (host : Option HostId) (s : State) : State :=
  match limOf src qual s.hosts.lims with
  | some l =>
    if l.run then
      { s with hosts := { s.hosts with lims := modLim src qual (fun x => { x with supp := sat16 x.supp }) s.hosts.lims } }
    else
      let ls := modLim src qual (fun x => { x with supp := 0, run := true }) s.hosts.lims
      raiseEntry { kind := 0, src := src, pay := pay p, w5 := l.supp.setWidth 32, host := host }
        { s with hosts := { s.hosts with lims := ls } }
  | none =>
    let ls := s.hosts.lims ++ [{ src := src, qual := qual, supp := 0, run := true }]
    raiseEntry { kind := 0, src := src, pay := pay p, host := host } { s with hosts := { s.hosts with lims := ls } }

/-- R403: the interval of the limiters of a source ends. -/
def endLimiters (p : Lim → Bool) (s : State) : State :=
  { s with hosts := { s.hosts with lims := s.hosts.lims.map fun x => if p x then { x with run := false } else x } }

/-! Ignored items (R375). -/

/-- R375: whose counter an ignored item moves: host A, B, C or the core (3). -/
abbrev IgnSrc := Fin 4

/-- The host to which EV116 of a source goes: items of the core go to host A. -/
def ignHost : IgnSrc → HostId
  | 1 => .b
  | 2 => .c
  | _ => .a

/-- R375: an ignored item of a source: the counter, the last-ignored record and, when enabled, the event. -/
def ignore (src : IgnSrc) (reason port : Nat) (loc : Nat) (s : State) : State :=
  let g := s.hosts.ign[src]
  let g1 : Ign := { g with count := sat16 g.count, frm := s.time.frame, reason := BitVec.ofNat 4 reason,
                           port := BitVec.ofNat 2 port, loc := BitVec.ofNat 16 loc }
  let s1 := { s with hosts := { s.hosts with ign := vset s.hosts.ign src g1 } }
  if g.ev then raiseLimited 116 src.val (src.val + 4 * reason) (some (ignHost src)) s1 else s1

/-- R375: an ignored item of the active core; `code` is the SYS FN or fabric op code. -/
def ignoreCore (reason code : Nat) (s : State) : State := ignore 3 reason 0 (code % 256) s

/-- R375: an ignored register write of a host: page and pointer. -/
def ignoreReg (pv : PortView) (reason page ptr : Nat) (s : State) : State :=
  ignore ((hostIx pv.host).castLE (by omega)) reason (portIx pv.port) (page * 256 + ptr) s

/-- R375: an ignored command of a host: OP and RES of its header. -/
def ignoreCmd (pv : PortView) (reason : Nat) (hdr : Word) (s : State) : State :=
  ignore ((hostIx pv.host).castLE (by omega)) reason (portIx pv.port) (fld hdr 0 8 * 256 + fld hdr 16 8) s

/-! Entry into the queues (R402, R404, R405). -/

/-- R400: the bits of host B's mask that read 0 (R404). -/
def hostBBarred (src : Nat) : Bool := src = 44 || (104 ≤ src && src ≤ 111)

/-- R404: host `h` receives source `src` by its mask. -/
def masked (s : State) (h : HostId) (src : Nat) : Bool :=
  let w := s.hosts.evm[(hostIx h).val * 4 + src / 32 % 4]'(by have := (hostIx h).isLt; omega)
  bit w (src % 32) && !(h == .b && hostBBarred src)

/-- R358: the queue of a host exists; host C's only in MAINTENANCE (life-cycle state 3). -/
def queueExists (s : State) (h : HostId) : Bool := h != .c || s.ret.lc = 3

/-- R405: an entry as it stands in a queue. -/
def entryOf (r : Raised) (seq : BitVec 16) (st : Stamp) : EvEntry :=
  { seq := seq, kind := r.kind, src := BitVec.ofNat 7 r.src, frame := st.frame, utLo := st.utLo, utSub := st.utSub,
    cnum := r.cnum, pay := r.pay, w5 := r.w5 }

/-- R333: address entry i (0-3) of a two-wire port: enabled, address, host code. -/
def twEntry (c : TwCfg) (i : Nat) : Bool × Nat × Nat :=
  let w := if i < 2 then c.addr01 else c.addr23
  let k := 16 * (i % 2)
  (bit w (k + 7), fld w k 7, fld w (k + 8) 2)
/-- R333: an address that is ever matched. -/
def twAddrOk (a : Nat) : Bool := 8 ≤ a && a < 0x78
/-- R333: an entry that is not treated as disabled. -/
def twEntryOn (c : TwCfg) (i : Nat) : Bool := (twEntry c i).1 && twAddrOk (twEntry c i).2.1
/-- R333: the address/mask pair agrees with an address. -/
def twPairHits (c : TwCfg) (a : Nat) : Bool := twAddrOk a && (a ^^^ fld c.amask 0 7) &&& fld c.amask 16 7 = 0
/-- R333: a pair that is not treated as disabled. -/
def twPairOn (c : TwCfg) : Bool := bit c.amask 7 && anyBelow 128 (twPairHits c)
/-- R357: a two-wire port's configuration opens the view of a host. -/
def cfgOpens (c : TwCfg) (h : HostId) : Bool :=
  (anyBelow 4 fun i => twEntryOn c i && (twEntry c i).2.2 = (hostIx h).val) ||
  (twPairOn c && fld c.amask 8 2 = (hostIx h).val)

/-- R357, R334: two-wire port x (0 = H0, 1 = H1) opens the view of a host. -/
def twOpens (s : State) (x : Fin 3) (h : HostId) : Bool :=
  if s.ports.fb then x = 0 && h == .a else cfgOpens (s.ports.tw[x]).use h

/-- R343: an entry in a view's queue makes an in-band request due on the ports that open the view. -/
def requestDue (h : HostId) (s : State) : State :=
  let one (x : Fin 3) (t : TwPort) : TwPort :=
    if x.val < 2 && bit t.use.ctrl 23 && twOpens s x h then { t with due := true } else t
  { s with ports := { s.ports with tw := vmap s.ports.tw one } }

/-- R374: an entry arrives at a host's queue: its number is used even when a full queue discards it. -/
def enterFor (r : Raised) (h : HostId) (s : State) : State :=
  let st := (r.stamp).getD (stampNow s)
  let i := hostIx h
  let q := s.hosts.evq[i]
  let seq := s.hosts.nextSeq[i]
  let hs := { s.hosts with nextSeq := vset s.hosts.nextSeq i (seq + 1) }
  if 32 ≤ q.length then { s with hosts := { hs with evLost := vset hs.evLost i (sat8 hs.evLost[i]) } }
  else
    let es := vset hs.evq i (q ++ [entryOf r seq st])
    requestDue h { s with hosts := { hs with evq := es, evTouched := vset hs.evTouched i false } }

/-- R404: an entry enters every queue to which it is routed. -/
def enterOne (r : Raised) (s : State) : State :=
  let wants (h : HostId) : Bool :=
    queueExists s h && (match r.host with | some x => x == h | none => masked s h r.src)
  iff (wants .c) (enterFor r .c) (iff (wants .b) (enterFor r .b) (iff (wants .a) (enterFor r .a) s))

/-- R405: events in ascending SRC before command-done and claim-displaced entries. -/
def raisedKey (r : Raised) : Nat := if r.kind = 0 then r.src else 128

/-- Insert an entry after all of no greater key. -/
def insRaised (r : Raised) : List Raised → List Raised
  | [] => [r]
  | x :: xs => if raisedKey r < raisedKey x then r :: x :: xs else x :: insRaised r xs

/-- The entries in the order of R405. -/
def sortRaised (rs : List Raised) : List Raised := rs.foldl (fun acc x => insRaised x acc) []

/-- R405: the entries that the command created enter in their order. -/
def enterAll (s : State) : State :=
  (sortRaised s.hosts.evBuf).foldl (fun t r => enterOne r t) { s with hosts := { s.hosts with evBuf := [] } }

/-! Fault conditions and outputs. -/

/-- R264: contact states OPEN, SHORT and INDETERMINATE. -/
def contactFault (c : Contact) : Bool := 2 ≤ c.st.toNat

/-- R386, R378: message 0 is undefined: its directory word does not define it, or its check failed. -/
def msgDefined (s : State) (n : Nat) : Bool :=
  !s.ret.msgBad.contains n && (mget 0 s.ret.mram (0x200000 + 4 * n)).toNat ≠ 0

/-- R406: the fault condition of a bit. -/
def fltCond (s : State) : Nat → Bool
  | 0 => !s.feeds[(0 : Fin 2)].ok
  | 1 => !s.feeds[(1 : Fin 2)].ok
  | 2 => s.feeds[(0 : Fin 2)].low || s.feeds[(1 : Fin 2)].low
  | 3 => s.pm.st = 0 && !s.arb.stbyUp
  | 4 => stbyStale s
  | 5 => s.pm.dwFail
  | 6 => s.clk.degraded
  | 7 => s.clk.holdover || s.clk.internal
  | 8 => s.ret.noSlot || s.pm.ksOff
  | 9 => !msgDefined s 0
  | 10 => s.ret.lc = 2 && !controlRuns s
  | 11 => s.lmu.line.any (·.lfault)
  | 12 => s.lmu.line.any (·.brk)
  | 13 => s.lmu.line.any (·.gap)
  | 14 => s.lmu.earth.fault
  | 15 => s.lmu.line.any (·.recVerd = 2)
  | 16 => s.bridges.any (·.st = 4)
  | 17 => s.bridges.any (·.st = 6)
  | 18 => s.bridges.any (·.st = 8) || s.dies.any (·.bfault)
  | 19 => s.dies.any (·.twarn)
  | 20 => contactFault s.sadc.con[(0 : Fin 8)] || contactFault s.sadc.con[(1 : Fin 8)]
  | 21 => anyBelow 8 fun n => 2 ≤ n && contactFault (s.sadc.con.toList.getD n {})
  | 22 => s.core.fab.tdm.any fun t => t.en && t.st = 3
  | 23 => s.wake.loaded && !engRuns s.wake.we
  | 24 => s.conv.micOff
  | 25 => anyBelow 24 fun e => (s.core.eng.toList.getD e {}).run == .halted
  | 26 => s.conv.jclass = 2
  | 28 => bit s.hosts.progFlags 0
  | 29 => bit s.hosts.progFlags 1
  | 30 => bit s.hosts.progFlags 2
  | 31 => bit s.hosts.progFlags 3
  | _ => false

/-- R411: FLT_ACTIVE; it reads 0 while reset is held. -/
def fltActive (s : State) : Word :=
  if s.resetHeld then 0
  else (List.range 32).foldl (fun w c => if fltCond s c then w ||| BitVec.ofNat 32 (2 ^ c) else w) 0

/-- R407: the outputs follow the conditions, the 100 ms minimum and the latches; ATTN_A and the lands follow unless the
holds are in force (R323). -/
def faultOutputs (s : State) : State :=
  let act := fltActive s
  let hit (n : Fin 4) : Bool := (act &&& s.flt.mask[n]) ≠ 0
  let ltd : BitVec 4 := (List.finRange 4).foldl
    (fun l n => if hit n && bit s.flt.latch n.val then setBit l n.val true else l) s.flt.latched
  let on (n : Fin 4) : Bool := hit n || bit s.flt.minRun n.val || (bit ltd n.val && bit s.flt.latch n.val)
  let asr : BitVec 4 := (List.finRange 4).foldl (fun l n => setBit l n.val (on n)) 0
  let minr : BitVec 4 := (List.finRange 4).foldl
    (fun l n => if on n && !bit s.flt.asserted n.val then setBit l n.val true else l) s.flt.minRun
  let attn := !(s.hosts.evq[(0 : Fin 3)]).isEmpty || (s.flt.attnFlt && asr ≠ 0)
  { s with
    flt := { s.flt with asserted := asr, latched := ltd, minRun := minr }
    pads := if s.pm.kaHeld then s.pads else { s.pads with fault := asr, attn := attn } }

/-- What follows every command: the entries enter the queues, and the fault outputs follow. -/
def settle (s : State) : State := if s.resetHeld then s else faultOutputs (enterAll s)

/-- A command of the device: nothing happens while reset is held (R453); otherwise `f`, then what follows every command. -/
def act (s : State) (f : State → State) : Out := if s.resetHeld then .next s else .next (settle (f s))

end Sys2Proof.Machine
end

