-- ==== Sys2Proof/Machine/Flags.lean ====
section
/-!
DEFINITION. Engine arithmetic (R60-R65, R95): rounding, saturation, conversion, and for every arithmetic operation its result
with the flags it sets.  Operands become integers, the arithmetic is exact, and the narrowing is explicit.
-/

namespace Sys2Proof.Machine

/-- R63: a quotient rounded convergently: to the nearest number, and half way to the even one. -/
def rndDiv (x : Int) (n : Nat) : Int :=
  let q := x / n
  let r := 2 * (x % n)
  if n < r || (r = n && q % 2 = 1) then q + 1 else q

/-- R63: convergent rounding, dropping `k` low bits. -/
def rnd (x : Int) (k : Nat) : Int :=
  if k = 0 then x
  else
    let q := x / 2 ^ k
    let r := x % 2 ^ k
    let h : Int := 2 ^ (k - 1)
    if h < r then q + 1 else if r = h ∧ q % 2 = 1 then q + 1 else q

/-- R64, R62: saturation of an exact value to `n` signed bits, with whether it clipped. -/
def satN (n : Nat) (q : Int) : BitVec n × Bool :=
  if 2 ^ (n - 1) ≤ q then (BitVec.ofInt n (2 ^ (n - 1) - 1), true)
  else if q < -(2 ^ (n - 1)) then (BitVec.ofInt n (-(2 ^ (n - 1))), true)
  else (BitVec.ofInt n q, false)

/-- R64. -/
def sat24 (q : Int) : Sample × Bool := satN 24 q
/-- R64. -/
def sat32 (q : Int) : Word × Bool := satN 32 q
/-- R62. -/
def sat56 (q : Int) : Acc × Bool := satN 56 q

/-- R65, R92: an accumulator read into a 24-bit register or memory word. -/
def narrow (a : Acc) : Sample × Bool := sat24 (rnd a.toInt 24)
/-- R92: a 24-bit value in accumulator form. -/
def widen (d : Sample) : Acc := BitVec.ofInt 56 (d.toInt * 2 ^ 24)
/-- R61: the Q1.47 product. -/
def product (a b : Sample) : Acc := BitVec.ofInt 56 (a.toInt * b.toInt * 2)

/-- R65: an accumulator written to a delay word. -/
def accToDelay (a : Acc) : Word × Bool := sat32 (rnd a.toInt 16)
/-- R65: a delay word read into a 24-bit register. -/
def delayToSample (w : Word) : Sample × Bool := sat24 (rnd w.toInt 8)
/-- R65: a delay word read into an accumulator. -/
def delayToAcc (w : Word) : Acc := BitVec.ofInt 56 (w.toInt * 2 ^ 16)
/-- R65: a 24-bit register written to a delay word. -/
def sampleToDelay (d : Sample) : Word := d.setWidth 32 <<< 8

/-- What an operation gives: the value of A[D] and the flags; `none` leaves it unchanged. -/
structure Alu where
  d : Option Acc := none
  n : Option Bool := none
  z : Option Bool := none
  v : Option Bool := none
  c : Option Bool := none
  clip : Bool := false

/-- A result whose N and Z are those of the value, with V and C as given. -/
def aluOf (r : Acc) (clip : Bool) (v c : Option Bool) : Alu :=
  { d := some r, n := some r.msb, z := some (r == 0), v := v, c := c, clip := clip }

/-- A saturated exact value: V follows the clip. -/
def aluSat (q : Int) (c : Option Bool) : Alu := aluOf (sat56 q).1 (sat56 q).2 (some (sat56 q).2) c

/-- The carry out of bit 55. -/
def carry (a b : Acc) : Bool := 2 ^ 56 ≤ a.toNat + b.toNat
/-- The borrow of a subtraction. -/
def borrow (a b : Acc) : Bool := a.toNat < b.toNat

/-! R95: the multiply operations on A[D] and the product. -/

def aluMpy (_ p : Acc) : Alu := aluOf p false (some false) (some false)
def aluMpyn (_ p : Acc) : Alu := aluOf (-p) false (some false) (some false)
def aluMac (d p : Acc) : Alu := aluSat (d.toInt + p.toInt) (some (carry d p))
def aluMacn (d p : Acc) : Alu := aluSat (d.toInt - p.toInt) (some (borrow d p))
def aluMacr (d p : Acc) : Alu := aluSat (rnd (d.toInt + p.toInt) 24 * 2 ^ 24) (some (carry d p))
def aluMacnr (d p : Acc) : Alu := aluSat (rnd (d.toInt - p.toInt) 24 * 2 ^ 24) (some (borrow d p))

/-! R95: the ALU operations on A[D] and src. -/

def aluAdd (d r : Acc) : Alu := aluSat (d.toInt + r.toInt) (some (carry d r))
def aluSub (d r : Acc) : Alu := aluSat (d.toInt - r.toInt) (some (borrow d r))
def aluMova (_ r : Acc) : Alu := aluOf r false (some false) none
def aluNeg (_ r : Acc) : Alu := aluSat (-r.toInt) none
def aluAbs (_ r : Acc) : Alu := aluSat r.toInt.natAbs none
/-- CMP: the flags of SUB; neither D nor S changes. -/
def aluCmp (d r : Acc) : Alu := { aluSub d r with d := none, clip := false }
def aluClr (_ _ : Acc) : Alu := { d := some 0, n := some false, z := some true, v := some false }
def aluRnd (_ r : Acc) : Alu := aluSat (rnd r.toInt 24 * 2 ^ 24) none
def aluLim (_ r : Acc) : Alu := aluOf (widen (narrow r).1) (narrow r).2 (some (narrow r).2) none
def aluAnd (d r : Acc) : Alu := aluOf (d &&& r) false (some false) none
def aluOr (d r : Acc) : Alu := aluOf (d ||| r) false (some false) none
def aluXor (d r : Acc) : Alu := aluOf (d ^^^ r) false (some false) none
def aluNot (_ r : Acc) : Alu := aluOf (~~~ r) false (some false) none
def aluAsl (_ r : Acc) : Alu := aluSat (r.toInt * 2) (some r.msb)
def aluAsr (_ r : Acc) : Alu := aluOf (r.sshiftRight 1) false (some false) (some (bit r 0))
def aluLsr (_ r : Acc) : Alu := aluOf (r >>> 1) false (some false) (some (bit r 0))
def aluMax (d r : Acc) : Alu :=
  if d.toInt < r.toInt then aluOf r false (some false) (some true) else aluOf d false (some false) (some false)
def aluMin (d r : Acc) : Alu :=
  if r.toInt < d.toInt then aluOf r false (some false) (some true) else aluOf d false (some false) (some false)
def aluPmov (_ _ : Acc) : Alu := {}

/-! R104: the shifts, with K from -32 to 31. -/

/-- The last bit shifted out: from the top for K > 0, from the bottom for K < 0; 0 for K = 0. -/
def lastOut (r : Acc) (k : Int) : Bool :=
  if 0 < k then bit r (56 - k.toNat) else if k < 0 then bit r ((-k).toNat - 1) else false

def aluAsh (round : Bool) (r : Acc) (k : Int) : Alu :=
  if 0 ≤ k then aluSat (r.toInt * 2 ^ k.toNat) (some (lastOut r k))
  else
    let q := if round then rnd r.toInt (-k).toNat else r.toInt / 2 ^ (-k).toNat
    aluSat q (some (lastOut r k))
def aluLsh (r : Acc) (k : Int) : Alu :=
  aluOf (if 0 ≤ k then r <<< k.toNat else r >>> (-k).toNat) false (some false) (some (lastOut r k))

/-- R104: how many of the first `n` bits below bit 55, from bit `n - 1` downward, equal bit 55. -/
def signRun (r : Acc) : Nat → Nat
  | 0 => 0
  | n + 1 => if bit r n == r.msb then signRun r n + 1 else 0

/-- The flags and A[D] of a result. -/
def applyAlu (x : Engine) (d : Fin 4) (u : Alu) : Engine :=
  { x with
    acc := match u.d with | some r => vset x.acc d r | none => x.acc
    fn := u.n.getD x.fn
    fz := u.z.getD x.fz
    fv := u.v.getD x.fv
    fc := u.c.getD x.fc
    fs := x.fs || u.clip }

end Sys2Proof.Machine
end

