-- ==== Sys2Proof/Machine/Filters.lean ====
section
/-!
DEFINITION. Digital stages whose arithmetic the spec leaves open (R154, R155, R167-R170, R245, R385), and the fades over 24
samples of D48 (R159, R242, R251).  A stage at rest through which silence passes delivers silence and stays at rest (log 42).
-/

namespace Sys2Proof.Machine

/-- Samples as numbers. -/
def intsOf (xs : List Sample) : List Int := xs.map (·.toInt)
/-- A number as a sample, saturated (R64). -/
def sampleOf (v : Int) : Sample := (sat24 v).1

/-- A stage takes on `xs` from the state `st`: its new state, and all that leaves it. -/
def passStage (g : Stage) (st xs : List Int) : List Int × List Int :=
  if st.isEmpty && xs.all (· = 0) then ([], []) else Config.filter g st xs

/-- A stage that delivers `n` samples; what its result does not list is zero. -/
def runStage (g : Stage) (n : Nat) (st xs : List Int) : List Int × List Int :=
  let r := passStage g st xs
  (r.1, (List.range n).map fun j => r.2.getD j 0)

/-- A sample `k` of 24 steps from silence. -/
def fadeSample (x : Sample) (k : Nat) : Sample := if 24 ≤ k then x else if k = 0 then 0 else Config.fade x k

/-- The gain after `n` steps from `g`, towards 24 or towards 0. -/
def fadeTo (live : Bool) (g n : Nat) : Nat := if live then min 24 (g + n) else g - n

/-- A block under a fade that stands at `g`, `step` samples of D48 to each of its own. -/
def fadeBlock (live : Bool) (step g : Nat) (xs : List Sample) : List Sample :=
  (List.range xs.length).map fun j => fadeSample (xs.getD j 0) (fadeTo live g (step * (j + 1)))

/-- A block of zeros stands as no block. -/
def normBlock (xs : List Sample) : List Sample := if xs.all (· = 0) then [] else xs

/-- A map's values as `f` leaves them, those equal to the default left out, for ascending addresses `as`. -/
def mapOver {α : Type} [DecidableEq α] (d : α) (f : Nat → α) (as : List Nat) : Map α :=
  as.filterMap fun a => let v := f a; if v = d then none else some (a, v)

end Sys2Proof.Machine
end

