-- ==== Sys2Proof/Machine/Fabric.lean ====
section
/-!
DEFINITION. The audio fabric's shared questions and operations (R134-R152): block lengths, which slots exist and who writes
them, reading and writing a sample, gain ramps, and the entries of buses and sinks.
-/

namespace Sys2Proof.Machine

/-! Slots (R135, R138, R139). Slot addresses are those of R115: 0-511 D48, 512-639 D16. -/

/-- R135: samples per D48 block. -/
def d48Len (f : Fabric) : Nat := flen f.f * (if f.r96 then 2 else 1)
/-- R135: samples per D16 block. -/
def d16Len (f : Fabric) : Nat := match f.f with | .f16 => 16 | .f32 => 32 | .f48 => 16 | .f96 => 32
/-- R135: the block length of a slot address. -/
def slotLen (f : Fabric) (a : Nat) : Nat := if a < 512 then d48Len f else d16Len f

/-- R136: a D16 block spans three frames at these frame lengths. -/
def d16Spans3 (f : Fabric) : Bool := f.f == .f16 || f.f == .f32
/-- R136: this boundary, with the counter already advanced, is a D16 block boundary. -/
def d16Boundary (f : Fabric) : Bool := !d16Spans3 f || f.d16Phase = 0
/-- R137, R47: D16 and its bridges run. -/
def d16Runs (s : State) : Bool := s.arb.coreRun && !s.core.fab.r96 && !s.clk.degraded

/-- R138, R139: the domain configuration in force provides the slot address. -/
def slotProvided (f : Fabric) (a : Nat) : Bool :=
  if a < 512 then !f.r96 || a < 160 || (192 ≤ a && a < 256)
  else a < 640 && !f.r96
/-- R138: mix buses in force. -/
def busProvided (f : Fabric) (m : Nat) : Bool := m < 64 && (!f.r96 || m < 32)

/-- R138: control slots. -/
def isControlSlot (a : Nat) : Bool := a < 16
/-- R138, R139: engine slots of either domain. -/
def isEngineSlot (a : Nat) : Bool := (192 ≤ a && a < 512) || (560 ≤ a && a < 640)
/-- R138, R139: slots of the PDM microphones. -/
def isPdmSlot (a : Nat) : Bool := (24 ≤ a && a < 32) || (520 ≤ a && a < 528)
/-- R138, R139: the input (numbered as INDOM) whose slot the address is. -/
def inputOf (a : Nat) : Option Nat :=
  if 16 ≤ a && a < 32 then some (a - 16) else if 512 ≤ a && a < 528 then some (a - 512) else none
/-- R140: the slot address of an input in the domain it delivers to. -/
def slotOfInput (f : Fabric) (i : Fin 16) : Nat := if f.indom[i] then 512 + i.val else 16 + i.val

/-- R138, R139, R141: engine `e` may write the slot. -/
def slotWritable (e : Eng) (a : Nat) : Bool := (isControlSlot a && e == sv) || isEngineSlot a

/-- R140, R243: the PDM slots read zero: PRIV_MUTE is asserted, or an overcurrent has switched MICPWR off. -/
def pdmSilent (s : State) : Bool := s.conv.privMute || s.conv.micOff
/-- R117, R140, R243: sample `j` of the block that stands in a slot; PDM slots read zero while they are silent. -/
def slotSample (s : State) (a j : Nat) : Sample :=
  if isPdmSlot a && pdmSilent s then 0 else (mget [] s.core.fab.inB a).getD j 0

/-- R117: an FWR is accepted: it stands as the output of the slot until the fabric takes it on. -/
def slotWrite (f : Fabric) (a j : Nat) (v : Sample) : Fabric := { f with outW := mset 0 f.outW (a * 256 + j) v }

/-- The samples written for a slot, missing ones zero (R30). -/
def outBlock (f : Fabric) (a : Nat) : List Sample := mgetN 0 f.outW (a * 256) (slotLen f a)

/-! Gain ramps (R151). -/

/-- R151: the gain applied to the k-th sample after the ramp's start. -/
def rampGain (g0 g1 : Int) (k n : Nat) : Int :=
  if n ≤ k then g1 else g0 + rndDiv ((g1 - g0) * k) n

/-- The gain that an entry has reached. -/
def entryGain (e : Entry) : Int := rampGain e.g0.toInt e.g1.toInt e.k e.n

/-- R153: an entry takes a target: no change leaves the ramp; otherwise a new ramp of length `n` starts from the gain
reached. -/
def retarget (e : Entry) (g : BitVec 24) (n : Nat) : Entry :=
  if e.g1 = g then e else { e with g0 := BitVec.ofInt 24 (entryGain e), g1 := g, k := 0, n := n }

/-- R152: an entry whose gain has reached zero with target zero is released. -/
def entryDone (e : Entry) : Bool := e.g1 = 0 && (e.n ≤ e.k || e.g0 = 0)

/-- A free entry taken for a slot: gain zero, the given target. -/
def newEntry (a : Nat) (g : BitVec 24) (n : Nat) : Entry := { slot := a, g0 := 0, g1 := g, k := 0, n := n }

/-- R151: N for a ramp length code R - 1. -/
def rampLen (f : Fabric) (r : BitVec 6) : Nat := (r.toNat + 1) * d48Len f

/-- A mix bus; an unlisted one is at its reset. -/
def getBus (f : Fabric) (m : Nat) : Bus := mget {} f.buses m
def setBus (f : Fabric) (m : Nat) (b : Bus) : Fabric := { f with buses := mset {} f.buses m b }
/-- A sink; an unlisted one is at its reset. -/
def getSink (f : Fabric) (k : Nat) : Sink := mget {} f.sinks k
def setSink (f : Fabric) (k : Nat) (x : Sink) : Fabric := { f with sinks := mset {} f.sinks k x }

/-- R299: every output of sinks 0-79 stands at u = 0. -/
def silentSinks (xs : Map Sink) : Map Sink :=
  (xs.map fun x => (x.1, if x.1 < 80 then { x.2 with u := 0 } else x.2)).filter fun x => x.2 ≠ {}

/-- R142: sink numbers that exist; those of absent bridges do not (R3). -/
def sinkExists (s : State) (k : Nat) : Bool :=
  k < 6 || (8 ≤ k && k < 16 && bridgeFitted s (k - 8)) || (16 ≤ k && k < 144)
/-- R142: the sink takes D16 slots. -/
def sinkIsD16 (k : Nat) : Bool := 112 ≤ k

/-- R157: the slots of a TDM port in its SLOTS code. -/
def tdmSlots (c : BitVec 2) : Nat := 2 ^ (c.toNat + 1)
/-- R142: port and channel of a TDM transmit sink. -/
def tdmOfSink (k : Nat) : Option (Fin 4 × Nat) :=
  if h : 16 ≤ k ∧ k < 80 then some (⟨(k - 16) / 16, by omega⟩, (k - 16) % 16) else none
/-- R156: a TDM transmit sink that SINK may name. -/
def tdmSinkOk (f : Fabric) (k : Nat) : Bool :=
  match tdmOfSink k with
  | some (p, c) => !(f.tdm[p]).en || c < tdmSlots (f.tdm[p]).slots
  | none => true

end Sys2Proof.Machine
end

