-- ==== Sys2Proof/Machine/FabOps.lean ====
section
/-!
DEFINITION. Fabric commands (R145-R162): the control-slot lists, what makes a command an ignored item, and the effect of each.
-/

namespace Sys2Proof.Machine

/-! Lists (R145, R146). -/

/-- R145, R146: one item of a parsed list: a command with its words, or an ignored item with its operation code. -/
inductive FabItem | cmd (w1 w2 : Sample) | bad (op : Nat)

/-- R147: the operation code. -/
def fabOp (w : Sample) : Nat := fld w 20 4

/-- R146: a control-slot block parsed from its first word. -/
def parseList : List Sample → List FabItem
  | [] => []
  | w :: ws =>
    if w = 0 then []
    else if fabOp w = 0 || 10 ≤ fabOp w then [.bad (fabOp w)]
    else if fabOp w = 1 || fabOp w = 2 || fabOp w = 7 then
      match ws with
      | v :: rest => .cmd w v :: parseList rest
      | [] => [.bad (fabOp w)]
    else .cmd w 0 :: parseList ws

/-- R146: an ignored fabric command. -/
def ignoreFab (reason op : Nat) (s : State) : State :=
  ignoreCore reason op (modFab s fun f => { f with cmdIgn := sat8 f.cmdIgn })

/-! Resources (R137, R47). -/

/-- R47: a slot of D16, of a D16 bridge or of a TDM port. -/
def slotDegraded (a : Nat) : Bool := (32 ≤ a && a < 128) || 512 ≤ a
/-- A slot that a command may name. -/
def slotUsable (s : State) (a : Nat) : Bool := slotProvided s.core.fab a && !(s.clk.degraded && slotDegraded a)
/-- A sink that a command may name. -/
def sinkUsable (s : State) (k : Nat) : Bool :=
  sinkExists s k && tdmSinkOk s.core.fab k && !((s.core.fab.r96 || s.clk.degraded) && 80 ≤ k) &&
  !(s.clk.degraded && 16 ≤ k && k < 80)
/-- R3: the sink names a bridge absent from the variant. -/
def sinkAbsent (s : State) (k : Nat) : Bool := 8 ≤ k && k < 16 && !bridgeFitted s (k - 8)
/-- R3, R375: the reason for a command on a sink that it may not name. -/
def sinkReason (s : State) (k : Nat) : Nat := if sinkAbsent s k then 11 else 13
/-- R142: the slot lies in the sink's source domain. -/
def sinkTakes (k a : Nat) : Bool := if sinkIsD16 k then 512 ≤ a && a < 640 else a < 512

/-! Buses and sinks (R149-R153). -/

/-- Entries that fade to zero: every target zero. -/
def fadeEntries (n : Nat) (es : List Entry) : List Entry := es.map fun e => retarget e 0 n
/-- How many entries have a non-zero target. -/
def liveCount (es : List Entry) : Nat := (es.filter fun e => e.g1 ≠ 0).length

/-- R149: BUSSRC on a bus; none where it is ignored. -/
def busTake (n a : Nat) (g : BitVec 24) (es : List Entry) : Option (List Entry) :=
  match es.find? fun e => e.slot = a with
  | some e =>
    if e.g1 = 0 && g ≠ 0 && 32 ≤ liveCount es then none
    else some (es.map fun x => if x.slot = a then retarget x g n else x)
  | none => if g = 0 || 32 ≤ liveCount es || 40 ≤ es.length then none else some (es ++ [newEntry a g n])

/-- R152: SINK on a sink; none where it is ignored. -/
def sinkTake (n a : Nat) (g : BitVec 24) (es : List Entry) : Option (List Entry) :=
  if es.any fun e => e.slot = a then some (es.map fun x => retarget x (if x.slot = a then g else 0) n)
  else if 4 ≤ es.length then none
  else some (fadeEntries n es ++ [newEntry a g n])

/-- BUSSRC names what it may not (R147, R149). -/
def bussrcBad (w : Sample) (s : State) : Bool :=
  fld w 9 5 ≠ 0 || fld w 0 9 < 16 || !busProvided s.core.fab (fld w 14 6) || !slotUsable s (fld w 0 9)

/-- BUSSRC (R149): without a free entry, or with target zero on a slot that no entry holds, it is ignored. -/
def fabBussrc (w v : Sample) (s : State) : State :=
  let f := s.core.fab
  let b := getBus f (fld w 14 6)
  match busTake (rampLen f b.r) (fld w 0 9) v b.entries with
  | some es => modFab s fun f => setBus f (fld w 14 6) { b with entries := es }
  | none => ignoreFab 13 1 s

/-- SINK names what it may not (R142, R147). -/
def sinkBad (w : Sample) (s : State) : Bool :=
  fld w 10 2 ≠ 0 || !sinkUsable s (fld w 12 8) || !sinkTakes (fld w 12 8) (fld w 0 10) || !slotUsable s (fld w 0 10)

/-- SINK (R152): without a free entry it is ignored. -/
def fabSink (w v : Sample) (s : State) : State :=
  let f := s.core.fab
  let x := getSink f (fld w 12 8)
  match sinkTake (rampLen f x.r) (fld w 0 10) v x.entries with
  | some es => modFab s fun f => setSink f (fld w 12 8) { x with entries := es }
  | none => ignoreFab 13 2 s

/-- RAMP names what it may not (R147). -/
def rampBad (w : Sample) (s : State) : Bool :=
  fld w 6 5 ≠ 0 || !(if bit w 19 then sinkUsable s (fld w 11 8) else busProvided s.core.fab (fld w 11 8))

/-- RAMP (R147, R153): it alters the ramps that start later. -/
def fabRamp (w : Sample) (s : State) : State :=
  let k := fld w 11 8
  modFab s fun f =>
    if bit w 19 then setSink f k { getSink f k with r := w.setWidth 6 } else setBus f k { getBus f k with r := w.setWidth 6 }

/-- BUSCLR names what it may not (R147). -/
def busclrBad (w : Sample) (s : State) : Bool := fld w 0 14 ≠ 0 || !busProvided s.core.fab (fld w 14 6)

/-- BUSCLR (R147): every entry takes target 0, but for the slots that a later command of the list sets (R145). -/
def fabBusclr (keep : List Nat) (w : Sample) (s : State) : State :=
  modFab s fun f =>
    let b := getBus f (fld w 14 6)
    setBus f (fld w 14 6) { b with entries := b.entries.map fun e => if keep.contains e.slot then e else retarget e 0 (rampLen f b.r) }

/-! Inputs, D16 and the look-ahead (R140, R136, R148). -/

/-- R147: an entry or the direct path names a slot of input i. -/
def inputNamed (f : Fabric) (i : Nat) : Bool :=
  let hit (e : Entry) : Bool := e.slot = 16 + i || e.slot = 512 + i
  f.buses.any (fun b => b.2.entries.any hit) || f.sinks.any (fun x => x.2.entries.any hit) ||
  (f.direct.live && f.direct.inp.toNat = i)

/-- R246: a PDM input in level-only mode. -/
def pdmFixed (s : State) (i : Nat) : Bool := 8 ≤ i && !s.conv.rawMode

/-- The input that INDOM names. -/
def indomInput (w : Sample) : Fin 16 := ⟨fld w 16 4, by unfold fld; omega⟩

/-- INDOM is refused (R140, R147, R246, R137, R47). -/
def indomBad (w : Sample) (s : State) : Bool :=
  fld w 1 15 ≠ 0 || inputNamed s.core.fab (fld w 16 4) || pdmFixed s (fld w 16 4) ||
  (bit w 0 && (s.core.fab.r96 || s.clk.degraded))

/-- INDOM (R140). -/
def fabIndom (w : Sample) (s : State) : State := modFab s fun f => { f with indom := vset f.indom (indomInput w) (bit w 0) }

/-- D16SEM is refused (R136, R137, R47). -/
def d16semBad (w : Sample) (s : State) : Bool := fld w 6 14 ≠ 0 || s.core.fab.r96 || s.clk.degraded

/-- D16SEM (R136). -/
def fabD16sem (w : Sample) (s : State) : State :=
  modFab s fun f => { f with d16Sem := if bit w 5 then some (w.setWidth 5) else none }

/-- LOOKA is refused (R147, R148): it is a command of a start list only. -/
def lookaBad (start : Bool) (w : Sample) : Bool := !start || fld w 7 13 ≠ 0 || 96 < fld w 0 7

/-- LOOKA (R148). -/
def fabLooka (w : Sample) (s : State) : State := modFab s fun f => { f with lookA := fld w 0 7 }

/-! TDM ports (R157). -/

/-- R157: rate in Hz of a RATE code. -/
def tdmRate (c : Nat) : Nat := [8000, 16000, 32000, 44100, 48000, 88200, 96000, 192000].getD c 0

/-- R157: the fields describe a legal configuration. -/
def tdmOk (w : Sample) : Bool :=
  let rate := fld w 9 3
  let fmt := fld w 15 2
  fld w 0 8 = 0 && fmt ≠ 3 && !(fmt = 0 && fld w 13 2 ≠ 0) && !(bit w 17 && rate ≠ 4 && rate ≠ 6) &&
  2 ^ (fld w 13 2 + 1) * 32 * tdmRate rate ≤ 49152000

/-- R157 step 2, R308: the port reconfigures; it then returns as after an absence, unless the power manager keeps it stopped. -/
def tdmSet (halt : Bool) (w : Sample) (t : TdmPort) : TdmPort :=
  { t with role := bit w 17, fmt := BitVec.ofNat 2 (fld w 15 2), slots := BitVec.ofNat 2 (fld w 13 2), edge := bit w 12,
           rate := BitVec.ofNat 3 (fld w 9 3), en := bit w 8, st := if bit w 8 && !halt then 1 else 0, next := none,
           rateMeas := 0, sync10 := [] }

/-- R157: a port takes a configuration; an enabled one whose receive slots are not zero has them fade first. -/
def tdmTake (halt : Bool) (w : Sample) (t : TdmPort) : TdmPort :=
  if t.en && t.rxGain ≠ 0 then { t with next := some w } else tdmSet halt w t

/-- R157: the receive slots have faded: the configuration that waited is taken. -/
def tdmNext (halt : Bool) (t : TdmPort) : TdmPort :=
  match t.next with
  | some w => if t.rxGain = 0 then tdmSet halt w t else t
  | none => t

/-- R159: the receive slots of a port carry its partner's samples. -/
def tdmLive (s : State) (t : TdmPort) : Bool := t.en && t.st = 2 && t.next.isNone && !s.pm.tdmHalt && !s.clk.degraded

/-- The port that TDMCFG names. -/
def tdmcfgPort (w : Sample) : Fin 4 := ⟨fld w 18 2, by unfold fld; omega⟩

/-- TDMCFG (R157). -/
def fabTdmcfg (w : Sample) (s : State) : State :=
  modFab s fun f => { f with tdm := vmod f.tdm (tdmcfgPort w) (tdmTake s.pm.tdmHalt w) }

/-! Direct path (R162). -/

/-- DIRECT is refused (R147, R162, R246): another path is enabled or fading, or it names what it may not. -/
def directBad (w : Sample) (s : State) : Bool :=
  let d := s.core.fab.direct
  let k := fld w 7 8
  fld w 0 7 ≠ 0 || !(k < 6 || (8 ≤ k && k < 16)) || !sinkUsable s k || pdmFixed s (fld w 15 4) ||
  (d.live && !(d.inp.toNat = fld w 15 4 && d.sink.toNat = k))

/-- DIRECT (R162): the path's gain ramps over the ramp length of its sink. -/
def fabDirect (w v : Sample) (s : State) : State :=
  let d := s.core.fab.direct
  let n := rampLen s.core.fab (getSink s.core.fab (fld w 7 8)).r
  if bit w 19 then
    let e := if d.live then retarget d.e v n else newEntry 0 v n
    modFab s fun f =>
      { f with direct := { on := true, live := true, inp := BitVec.ofNat 4 (fld w 15 4), sink := BitVec.ofNat 8 (fld w 7 8), e := e } }
  else if d.live then modFab s fun f => { f with direct := { f.direct with on := false, e := retarget f.direct.e 0 n } }
  else s

/-! Application (R145). -/

/-- R3, R375, R146: why a command is an ignored item; none where it may take effect. -/
def cmdBad (start : Bool) (w : Sample) (s : State) : Option Nat :=
  let because (bad : Bool) (reason : Nat) : Option Nat := if bad then some reason else none
  match fabOp w with
  | 1 => because (bussrcBad w s) 13
  | 2 => because (sinkBad w s) (sinkReason s (fld w 12 8))
  | 3 => because (rampBad w s) (if fld w 6 5 = 0 && bit w 19 then sinkReason s (fld w 11 8) else 13)
  | 4 => because (busclrBad w s) 13
  | 5 => because (indomBad w s) 13
  | 6 => because (!tdmOk w || s.clk.degraded) 13
  | 7 => because (directBad w s) (sinkReason s (fld w 7 8))
  | 8 => because (d16semBad w s) 13
  | 9 => because (lookaBad start w) 13
  | _ => none

/-- R145: one command that may takes effect; `keep` are the slots of its bus that later commands set. -/
def cmdEffect (keep : List Nat) (w v : Sample) (s : State) : State :=
  match fabOp w with
  | 1 => fabBussrc w v s
  | 2 => fabSink w v s
  | 3 => fabRamp w s
  | 4 => fabBusclr keep w s
  | 5 => fabIndom w s
  | 6 => fabTdmcfg w s
  | 7 => fabDirect w v s
  | 8 => fabD16sem w s
  | 9 => fabLooka w s
  | _ => s

/-- R145: what a command sets. -/
inductive FabKey
  | entry (bus slot : Nat) | bus (bus : Nat) | sink (k : Nat) | ramp (ofSink : Bool) (k : Nat) | input (i : Nat) | port (p : Nat)
  | direct | d16sem | looka | none_
  deriving DecidableEq, Repr

/-- R145, R147: what a command sets, by its first word. -/
def cmdKey (w : Sample) : FabKey :=
  match fabOp w with
  | 1 => .entry (fld w 14 6) (fld w 0 9)
  | 2 => .sink (fld w 12 8)
  | 3 => .ramp (bit w 19) (fld w 11 8)
  | 4 => .bus (fld w 14 6)
  | 5 => .input (fld w 16 4)
  | 6 => .port (fld w 18 2)
  | 7 => .direct
  | 8 => .d16sem
  | 9 => .looka
  | _ => .none_

/-- R145: a later command overrides an earlier one on the same bus entry, sink or setting; BUSCLR sets every entry of its bus. -/
def overrides (later earlier : FabKey) : Bool :=
  later = earlier || (match earlier, later with | .entry m _, .bus n => m = n | _, _ => false)

/-- R145: the slots of the bus of `w` that the commands `later` set. -/
def keptSlots (w : Sample) (later : List Sample) : List Nat :=
  later.filterMap fun l => match cmdKey l with | .entry m a => if m = fld w 14 6 then some a else none | _ => none

/-- R145: one pass over a list; `s0` is the device as the pass begins, by which a later command is one that may take effect. -/
def fabPass (start : Bool) (s0 : State) : List FabItem → State → State
  | [], s => s
  | .bad op :: is, s => fabPass start s0 is (ignoreFab 13 op s)
  | .cmd w v :: is, s =>
    let later := is.filterMap fun i =>
      match i with | .cmd l _ => if (cmdBad start l s0).isNone then some l else none | .bad _ => none
    let t :=
      match cmdBad start w s with
      | some r => ignoreFab r (fabOp w) s
      | none => if later.any fun l => overrides (cmdKey l) (cmdKey w) then s else cmdEffect (keptSlots w later) w v s
    fabPass start s0 is t

/-- R145: the item is a RAMP command. -/
def isRamp (i : FabItem) : Bool := match i with | .cmd w _ => fabOp w = 3 | .bad _ => false

/-- R145: a pending table takes effect in two passes: its RAMP commands, then everything else; `start` says that it is a start
list. -/
def fabApply (start : Bool) (is : List FabItem) (s : State) : State :=
  let t := fabPass start s (is.filter isRamp) s
  fabPass start t (is.filter fun i => !isRamp i) t

/-- R146: a command that came as a row of its own: an END that the row holds has a non-zero reserved field. -/
def rowItem (c : Sample × Sample) : FabItem := if fabOp c.1 = 0 then .bad 0 else .cmd c.1 c.2

/-- R145: the items of the control slots, in slot order. -/
def pendingItems (f : Fabric) : List FabItem := (List.range 16).flatMap fun a => parseList (outBlock f a)

/-- R36, R178: every route fades to zero gain, as the resident program keeps it. -/
def fadeRoutes (s : State) : State :=
  modFab s fun f =>
    { f with buses := f.buses.map fun b => (b.1, { b.2 with entries := fadeEntries (rampLen f b.2.r) b.2.entries }),
             sinks := f.sinks.map fun x => (x.1, { x.2 with entries := fadeEntries (rampLen f x.2.r) x.2.entries }),
             direct := { f.direct with on := false, e := retarget f.direct.e 0 (rampLen f (getSink f f.direct.sink.toNat).r) } }

/-! Registers (R161). -/

/-- R161: the code of F. -/
def fCode (f : FrameLen) : Nat := match f with | .f16 => 0 | .f32 => 1 | .f48 => 2 | .f96 => 3

/-- R161: FAB_STATUS. -/
def fabStatus (s : State) : Word :=
  let f := s.core.fab
  BitVec.ofNat 32 (b2n f.r96 + 2 * fCode f.f + 8 * f.d16Phase + 32 * b2n (d16Runs s) + 64 * b2n f.direct.live +
    2 ^ 8 * f.cmdIgn.toNat + 2 ^ 16 * f.busClip.toNat)

/-- R161: TDM_STATUSp. -/
def tdmStatus (t : TdmPort) : Word :=
  BitVec.ofNat 32 (t.st.toNat + 4 * b2n t.role + 8 * b2n t.miss + 16 * b2n t.wrate + 32 * b2n t.sync +
    2 ^ 8 * t.syncCount.toNat + 2 ^ 16 * (if t.st = 0 || t.st = 3 then 0 else t.rateMeas.toNat))

end Sys2Proof.Machine
end

