-- ==== Sys2Proof/Machine/Operands.lean ====
section
/-!
DEFINITION. Engine operands: data addressing (R66-R69), delay addressing (R70), register codes (R90, R100, R101), the parallel
moves (R92, R96) and the locations of fabric and delay access (R116).
-/

namespace Sys2Proof.Machine

/-- What an instruction's execution gives: the engine afterwards with the X and Y words it stored, or an engine fault. -/
inductive Eff
  /-- `st` names the words stored: false = X, true = Y. -/
  | ok (x : Engine) (st : List (Bool × BitVec 12))
  /-- R128: the cause. -/
  | flt (cause : Nat)

/-- Two bits as an accumulator or operand register number. -/
def ix2 (b : BitVec 2) : Fin 4 := ⟨b.toNat, b.isLt⟩
/-- Three bits as a number below 8. -/
def ix3 (b : BitVec 3) : Fin 8 := ⟨b.toNat, b.isLt⟩

/-! Addressing. -/

/-- The least k with 2^k >= n. -/
def clog2 (n : Nat) : Nat := if n ≤ 1 then 0 else Nat.log2 (n - 1) + 1

/-- R67. -/
def advance (l p : BitVec 12) (m : Int) : BitVec 12 :=
  if l = 0 then BitVec.ofInt 12 (p.toNat + m)
  else
    let base := p.toNat / 2 ^ clog2 l.toNat * 2 ^ clog2 l.toNat
    BitVec.ofInt 12 (base + ((p.toNat - base : Int) + m) % l.toNat)

/-- The order of the `k` low bits of `n` reversed. -/
def bitrev : Nat → Nat → Nat
  | 0, _ => 0
  | k + 1, n => n % 2 * 2 ^ k + bitrev k (n / 2)

/-- R68. -/
def bitrevStep (p : BitVec 12) (m : BitVec 12) : BitVec 12 :=
  if m.toInt ≤ 0 then p
  else
    let k := Nat.log2 m.toNat + 1
    let low := bitrev k ((bitrev k (p.toNat % 2 ^ k) + 1) % 2 ^ k)
    BitVec.ofNat 12 (p.toNat / 2 ^ k * 2 ^ k + low)

/-- R66, R98: the address used and the pointer afterwards; mode 7 is not defined. -/
def dataAddr (x : Engine) (n : Fin 8) (mode : BitVec 3) : BitVec 12 × BitVec 12 :=
  let p := x.p[n]
  let l := x.l[n]
  let m := x.m[n]
  match mode.toNat with
  | 1 => (p, advance l p 1)
  | 2 => (p, advance l p (-1))
  | 3 => (p, advance l p m.toInt)
  | 4 => (advance l p (x.ixAg.setWidth 12).toInt, p)
  | 5 => (advance l p m.toInt, p)
  | 6 => (p, bitrevStep p m)
  | _ => (p, p)

/-- R70. -/
def dadvance (x : Engine) (k : Fin 4) (m : Int) : BitVec 21 :=
  if x.dlen[k] = 0 then BitVec.ofInt 21 (x.dp[k].toNat + m)
  else BitVec.ofInt 21 (x.dbas[k].toNat + ((x.dp[k].toNat - x.dbas[k].toNat : Int) + m) % x.dlen[k].toNat)

/-! Data memory. -/

/-- A word of X (false) or Y (true) memory. -/
def memGet (x : Engine) (y : Bool) (a : BitVec 12) : Sample := mget 0 (if y then x.y else x.x) a.toNat
/-- A store to X or Y memory. -/
def memSet (x : Engine) (y : Bool) (a : BitVec 12) (v : Sample) : Engine :=
  if y then { x with y := mset 0 x.y a.toNat v } else { x with x := mset 0 x.x a.toNat v }

/-! The status register. -/

/-- R59: SR as it reads. -/
def srWord (x : Engine) : BitVec 16 :=
  BitVec.ofNat 16 (b2n x.fn + 2 * b2n x.fz + 4 * b2n x.fv + 8 * b2n x.fc + 16 * b2n x.fs + 32 * b2n x.fdv +
    64 * x.loops.length + 512 * x.rets.length)
/-- R101: a write of SR by the program; a violation that is reported in the same cycle takes precedence over a written 0. -/
def srWrite (x : Engine) (v : BitVec 16) : Engine :=
  { x with fn := bit v 0, fz := bit v 1, fv := bit v 2, fc := bit v 3, fs := bit v 4, fdv := bit v 5 || x.dvLate }

/-! Register codes. -/

/-- R90: a code that names a register. -/
def regOk (c : BitVec 6) : Bool := c ≠ 47 && c.toNat < 60

/-- R90: the value of a source other than a whole accumulator. -/
def regRead (x : Engine) (c : BitVec 6) : Int :=
  let n := c.toNat
  let i4 : Fin 4 := ⟨n % 4, Nat.mod_lt _ (by decide)⟩
  let i8 : Fin 8 := ⟨n % 8, Nat.mod_lt _ (by decide)⟩
  if n < 8 then x.opr[i4].toInt
  else if n < 16 then x.p[i8].toNat
  else if n < 24 then x.m[i8].toInt
  else if n < 32 then x.l[i8].toNat
  else if n < 36 then x.dp[i4].toNat
  else if n < 40 then x.dbas[i4].toNat
  else if n < 44 then x.dlen[i4].toNat
  else if n = 44 then x.ix.toNat
  else if n = 45 then x.lc.toNat
  else if n = 46 then (srWord x).toNat
  else if n < 52 then (x.acc[i4].extractLsb' 48 8).toInt
  else if n < 56 then (x.acc[i4].extractLsb' 24 24).toInt
  else (x.acc[i4].extractLsb' 0 24).toNat

/-- R90, R100: a value written to a register other than a whole accumulator, cut to its width. -/
def regWrite (x : Engine) (c : BitVec 6) (v : Int) : Engine :=
  let n := c.toNat
  let i4 : Fin 4 := ⟨n % 4, Nat.mod_lt _ (by decide)⟩
  let i8 : Fin 8 := ⟨n % 8, Nat.mod_lt _ (by decide)⟩
  if n < 4 then { x with acc := vset x.acc i4 (BitVec.ofInt 56 (v * 2 ^ 24)) }
  else if n < 8 then { x with opr := vset x.opr i4 (BitVec.ofInt 24 v) }
  else if n < 16 then { x with p := vset x.p i8 (BitVec.ofInt 12 v) }
  else if n < 24 then { x with m := vset x.m i8 (BitVec.ofInt 12 v) }
  else if n < 32 then { x with l := vset x.l i8 (BitVec.ofInt 12 v) }
  else if n < 36 then { x with dp := vset x.dp i4 (BitVec.ofInt 21 v) }
  else if n < 40 then { x with dbas := vset x.dbas i4 (BitVec.ofInt 21 v) }
  else if n < 44 then { x with dlen := vset x.dlen i4 (BitVec.ofInt 21 v) }
  else if n = 44 then { x with ix := BitVec.ofInt 16 v }
  else if n = 45 then { x with lc := BitVec.ofInt 16 v }
  else if n = 46 then srWrite x (BitVec.ofInt 16 v)
  else if n < 52 then { x with acc := vset x.acc i4 (BitVec.ofInt 8 v ++ x.acc[i4].extractLsb' 0 48) }
  else if n < 56 then
    { x with acc := vset x.acc i4 (x.acc[i4].extractLsb' 48 8 ++ BitVec.ofInt 24 v ++ x.acc[i4].extractLsb' 0 24) }
  else { x with acc := vset x.acc i4 (x.acc[i4].extractLsb' 24 32 ++ BitVec.ofInt 24 v) }

/-- R100: a move between registers. -/
def regMove (x : Engine) (dst src : BitVec 6) : Engine :=
  if h : src.toNat < 4 then
    if hd : dst.toNat < 4 then { x with acc := vset x.acc ⟨dst.toNat, hd⟩ x.acc[src.toNat] }
    else
      let v := narrow x.acc[src.toNat]
      let y := regWrite x dst v.1.toInt
      { y with fs := y.fs || v.2 }
  else regWrite x dst (regRead x src)

/-! Parallel moves. -/

/-- R92, R66: one move's fields are legal. -/
def moveOk (k r p : BitVec 2) (m : BitVec 3) : Bool :=
  if k = 0 then r = 0 && p = 0 && m = 0 else m ≠ 7

/-- R92: both moves are legal, and two loads name different registers. -/
def movesOk (mv : Moves) : Bool :=
  moveOk mv.xk mv.xr mv.xp mv.xm && moveOk mv.yk mv.yr mv.yp mv.ym &&
  !(mv.xk = 1 && mv.yk = 1 && mv.xr = mv.yr)

/-- R91: the pointer of the X move. -/
def xPtr (mv : Moves) : Fin 8 := ⟨mv.xp.toNat, by have := mv.xp.isLt; omega⟩
/-- R91: the pointer of the Y move. -/
def yPtr (mv : Moves) : Fin 8 := ⟨4 + mv.yp.toNat, by have := mv.yp.isLt; omega⟩

/-- R69: the pointers after the address stage. -/
def movePtrs (x : Engine) (mv : Moves) : Vector (BitVec 12) 8 :=
  let p1 := if mv.xk = 0 then x.p else vset x.p (xPtr mv) (dataAddr x (xPtr mv) mv.xm).2
  if mv.yk = 0 then p1 else vset p1 (yPtr mv) (dataAddr x (yPtr mv) mv.ym).2

/-- R96: the value that a store move writes, with whether it clipped. -/
def storeVal (x : Engine) (k r : BitVec 2) : Sample × Bool :=
  if k = 3 then narrow x.acc[ix2 r] else (x.opr[ix2 r], false)

/-- R96, CM: one move's load or store, with values taken from the engine `x0` as it stood at the start of EX. -/
def moveCommit (x0 x : Engine) (y : Bool) (k r : BitVec 2) (a : BitVec 12) : Engine :=
  if k = 1 then { x with opr := vset x.opr (ix2 r) (memGet x0 y a) }
  else if k = 0 then x
  else { (memSet x y a (storeVal x0 k r).1) with fs := x.fs || (storeVal x0 k r).2 }

/-- R96: the words that a pair of moves stores. -/
def moveStores (x : Engine) (mv : Moves) : List (Bool × BitVec 12) :=
  (if bit mv.xk 1 then [(false, (dataAddr x (xPtr mv) mv.xm).1)] else []) ++
  (if bit mv.yk 1 then [(true, (dataAddr x (yPtr mv) mv.ym).1)] else [])

/-- R96: the moves of a parallel-arithmetic instruction, after the arithmetic has given `x1` from `x`. -/
def moves (x x1 : Engine) (mv : Moves) : Eff :=
  let ax := (dataAddr x (xPtr mv) mv.xm).1
  let ay := (dataAddr x (yPtr mv) mv.ym).1
  let x2 := moveCommit x { x1 with p := movePtrs x mv } false mv.xk mv.xr ax
  .ok (moveCommit x x2 true mv.yk mv.yr ay) (moveStores x mv)

/-- R93: the operand pair of a multiply operation. -/
def pairOf (x : Engine) (sel : BitVec 4) : Option (Sample × Sample) :=
  let o (i : Fin 4) : Sample := x.opr[i]
  match sel.toNat with
  | 0 => some (o 0, o 2)
  | 1 => some (o 0, o 3)
  | 2 => some (o 1, o 2)
  | 3 => some (o 1, o 3)
  | 4 => some (o 0, o 1)
  | 5 => some (o 2, o 3)
  | 6 => some (o 0, o 0)
  | 7 => some (o 1, o 1)
  | 8 => some (o 2, o 2)
  | 9 => some (o 3, o 3)
  | _ => none

/-- R94: the source of an ALU operation. -/
def srcOf (x : Engine) (sel : BitVec 4) : Option Acc :=
  if sel.toNat < 4 then some (x.acc[sel.toNat % 4]'(Nat.mod_lt _ (by decide)))
  else if sel.toNat < 8 then some (widen (x.opr[sel.toNat % 4]'(Nat.mod_lt _ (by decide))))
  else none

/-- R95, R96: an operation on A[D] and a source, which is illegal when it is none, with its moves. -/
def paStep (op : Acc → Acc → Alu) (src : Option Acc) (d : BitVec 2) (mv : Moves) (x : Engine) : Eff :=
  match src with
  | none => .flt 3
  | some r =>
    if movesOk mv then moves x (applyAlu x (ix2 d) (op x.acc[ix2 d] r)) mv else .flt 3

/-- R93: a multiply operation. -/
def paMul (op : Acc → Acc → Alu) (d : BitVec 2) (sel : BitVec 4) (mv : Moves) (x : Engine) : Eff :=
  paStep op ((pairOf x sel).map fun q => product q.1 q.2) d mv x
/-- R94: an ALU operation. -/
def paAlu (op : Acc → Acc → Alu) (d : BitVec 2) (sel : BitVec 4) (mv : Moves) (x : Engine) : Eff :=
  paStep op (srcOf x sel) d mv x
/-- R94: PMOV and CLR, whose S must be 0. -/
def paNone (op : Acc → Acc → Alu) (d : BitVec 2) (sel : BitVec 4) (mv : Moves) (x : Engine) : Eff :=
  paStep op (if sel = 0 then some 0 else none) d mv x

/-- R97: a search; `abs` takes the magnitude, `better v a` is the strict comparison. -/
def paSearch (abs : Bool) (better : Int → Int → Bool) (d : BitVec 2) (sel : BitVec 4) (mv : Moves) (x : Engine) : Eff :=
  let y := bit sel 0
  if sel.toNat < 2 && movesOk mv && (if y then mv.yk else mv.xk) = 1 then
    let a := if y then (dataAddr x (yPtr mv) mv.ym).1 else (dataAddr x (xPtr mv) mv.xm).1
    let w := (memGet x y a).toInt * 2 ^ 24
    let v : Int := if abs then w.natAbs else w
    let hit := better v x.acc[ix2 d].toInt
    let x1 := if hit then
        { x with acc := vset x.acc (ix2 d) (BitVec.ofInt 56 v), fc := true,
                 ix := BitVec.ofNat 16 (4096 * b2n y + a.toNat) }
      else { x with fc := false }
    moves x x1 mv
  else .flt 3

/-! Locations of fabric and delay access (R116). -/

/-- R115, R116: the LOC, PQ and IXA fields are legal. -/
def locOk (loc : BitVec 3) (pq : BitVec 2) (ixa : Bool) : Bool :=
  loc ≠ 7 && (pq = 0 || 4 ≤ loc.toNat) && !(ixa && (loc = 4 || loc = 5))

/-- R116: the data pointer of LOC 4 and 5. -/
def locPtr (loc : BitVec 3) (pq : BitVec 2) : Fin 8 :=
  ⟨(if loc = 5 then 4 else 0) + pq.toNat, by have := pq.isLt; split <;> omega⟩

/-- R116: the register or memory word that a location names, as a result's destination. -/
def locOf (x : Engine) (loc : BitVec 3) (pq : BitVec 2) : Loc :=
  match loc.toNat with
  | 4 => .xm x.p[locPtr loc pq]
  | 5 => .ym x.p[locPtr loc pq]
  | 6 => .acc (ix2 pq)
  | n => .opr ⟨n % 4, Nat.mod_lt _ (by decide)⟩

/-- R116: the pointer update of LOC 4 and 5. -/
def locAdvance (x : Engine) (loc : BitVec 3) (pq : BitVec 2) : Engine :=
  if loc = 4 || loc = 5 then
    { x with p := vset x.p (locPtr loc pq) (advance x.l[locPtr loc pq] x.p[locPtr loc pq] 1) }
  else x

/-- R116: the sample that an FWR reads at a location, with whether the conversion clipped. -/
def locSample (x : Engine) : Loc → Sample × Bool
  | .opr i => (x.opr[i], false)
  | .xm a => (memGet x false a, false)
  | .ym a => (memGet x true a, false)
  | .acc i => narrow x.acc[i]

/-- R116, R65: the delay word that a DLW reads at a location, with whether the conversion clipped. -/
def locDelay (x : Engine) : Loc → Word × Bool
  | .acc i => accToDelay x.acc[i]
  | l => (sampleToDelay (locSample x l).1, false)

/-- R116: a fabric sample arrives at a location. -/
def locPutSample (x : Engine) (l : Loc) (v : Sample) : Engine :=
  match l with
  | .opr i => { x with opr := vset x.opr i v }
  | .xm a => memSet x false a v
  | .ym a => memSet x true a v
  | .acc i => { x with acc := vset x.acc i (widen v) }

/-- R116, R65: a delay word arrives at a location. -/
def locPutDelay (x : Engine) (l : Loc) (w : Word) : Engine :=
  match l with
  | .acc i => { x with acc := vset x.acc i (delayToAcc w) }
  | l =>
    let v := delayToSample w
    let x1 := locPutSample x l v.1
    { x1 with fs := x1.fs || v.2 }

/-- R116: the data memory word that a location is. -/
def locStore : Loc → List (Bool × BitVec 12)
  | .xm a => [(false, a)]
  | .ym a => [(true, a)]
  | _ => []

end Sys2Proof.Machine
end

