-- ==== Sys2Proof/Machine/PdmOps.lean ====
section
/-!
DEFINITION. Microphone power, the clocks of the PDM pairs and what follows them in the wake feed (R44, R242-R244, R250, R273,
R275), and the end of a candidate that held a clock's change back (R271, R277).
-/

namespace Sys2Proof.Machine

/-- R307: domain k is powered. -/
def domOn (s : State) (k : Nat) : Bool := bit s.pm.on k

/-! The wake feed (R273, R275). -/

/-- R273, R243: the wake decimator writes samples: pair 0's clock runs, does not change its rate, and its microphones have power. -/
def feedLive (c : Conv) : Bool := c.pdmOn[(0 : Fin 4)] && !c.pdmFade[(0 : Fin 4)] && !c.privMute && !c.micOff

/-- R273, R275: what stands at this moment of the block in progress: the marks that its samples take, and whether they are zeros. -/
def noteFeed (s : State) : State :=
  let c := s.conv
  modWake s fun w =>
    { w with privNext := w.privNext || c.privMute, gapNext := w.gapNext || c.pdmFade[(0 : Fin 4)], mpfNext := w.mpfNext || c.micOff,
             runs := if w.runs.getLast? = some (feedLive c) then w.runs else w.runs ++ [feedLive c] }

/-! MICPWR and PDM clocks (R242-R244, R44). -/

/-- R242: MICPWR is wanted. -/
def micWanted (s : State) : Bool := s.conv.pdmEn.any id || s.wake.loaded

/-- R242, R243, R250: MICPWR follows. -/
def updateMic (s : State) : State :=
  noteFeed (modConv s fun c => { c with micpwr := micWanted s && !c.privMute && !c.micOff })

/-- R242, R44: pair q is wanted: it is enabled, or it is pair 0 with WE loaded while VA is stopped. -/
def pdmWanted (s : State) (q : Fin 4) : Bool := s.conv.pdmEn[q] || (q.val = 0 && s.wake.loaded && !domOn s 9)

/-- R242, R250: pair q's clock may run. -/
def pdmMay (s : State) (q : Fin 4) : Bool :=
  pdmWanted s q && !s.conv.privMute && !s.conv.clkWait && s.conv.pdmRate[q] ≠ 0

/-- R44, R275: the code of pair 0 in CLK_STATUS.PDM0_RATE; 0 = stopped. -/
def pdm0Rate (c : Conv) : Nat := if c.pdmOn[(0 : Fin 4)] then (c.pdmRate[(0 : Fin 4)]).toNat else 0

/-- R242: the clocks follow the enables, the rates and the mute. -/
def updateClocks (s : State) : State :=
  updateMic (modConv s fun c => { c with pdmOn := vmap c.pdmOn fun q _ => pdmMay s q })

/-- R277: a candidate is held and its 1.5 s have not passed, and PRIV_MUTE is released (R278). -/
def candDefers (s : State) : Bool := s.wake.cand && s.wake.candAge < 1500 && !s.conv.privMute

/-- R44, R167, R242: pair q takes a clock rate; its outputs read zero until the change has ended, and the DC removal of its
microphones starts from zero. -/
def applyRate (q : Fin 4) (r : BitVec 2) (s : State) : State :=
  if s.conv.pdmRate[q] = r then s
  else
    let s1 := modConv s fun c =>
      { c with pdmRate := vset c.pdmRate q r, pdmFade := if c.pdmOn[q] then vset c.pdmFade q true else c.pdmFade,
               filt := vmap c.filt fun i x => if i.val / 2 = 4 + q.val then { x with dc := [], bad := true } else x }
    updateClocks (if q.val = 0 then modWake s1 fun w => { w with gapNext := true, feed := [] } else s1)

/-- R277: a rate change of a pair; one of pair 0 waits while a candidate is held. -/
def setRate (q : Fin 4) (r : BitVec 2) (s : State) : State :=
  if q.val = 0 && candDefers s then modConv s fun c => { c with pend0 := some r }
  else applyRate q r (if q.val = 0 then modConv s fun c => { c with pend0 := none } else s)

/-- R277: a deferred rate change takes effect. -/
def releaseRate (s : State) : State :=
  match s.conv.pend0 with
  | some r => if candDefers s then s else applyRate 0 r (modConv s fun c => { c with pend0 := none })
  | none => s

/-! The end of a candidate, and the stop of WE (R271, R277, R283). -/

/-- R277: the candidate held ends, and what waited for it goes on. -/
def endCandidate (s : State) : State :=
  if s.wake.cand then releaseRate (modWake s fun w => { w with cand := false, sinceEnd := 0 }) else s

/-- R271, R283: WE stops. -/
def stopWe (s : State) : State :=
  let r := if engRuns s.wake.we then EngRun.stopped else s.wake.we.run
  endCandidate (modWake s fun w => { w with we := { w.we with run := r }, startNext := false })

end Sys2Proof.Machine
end

