-- ==== Sys2Proof/Machine/Engines.lean ====
section
/-!
DEFINITION. How an engine's instruction runs (R73-R83, R128): outstanding results and requests, semaphores, the loop-end
return, engine faults, and the end of a control program; every instruction passes through `engRun`.
-/

namespace Sys2Proof.Machine

/-! Delay SRAM, dirty marks and journal (R69, R292, R296). -/

/-- A word of delay SRAM. -/
def sramGet (s : State) (a : Nat) : Word := mget 0 s.core.sram a

/-- R292, R296: a delay write, journalled while a standby is up; the 65,537th entry discards the journal and starts a fill
of the delay SRAM. -/
def sramWrite (a : Nat) (w : Word) (s : State) : State :=
  let s1 := { s with core := { s.core with sram := mset 0 s.core.sram a w } }
  if !s.arb.stbyUp then s1
  else if s.mirror.flyJnl.length + s.mirror.jnl.length < 65536 then
    { s1 with mirror := { s.mirror with jnl := s.mirror.jnl ++ [(a, w)] } }
  else
    let k := match s.mirror.fill with | none => FillKind.sram | some .sram => .sram | _ => .all
    { s1 with mirror := { s.mirror with jnl := [], flyJnl := [], jovf := true, fill := some k } }

/-- A number inserted in an ascending list without repeats. -/
def insNat (n : Nat) : List Nat → List Nat
  | [] => [n]
  | x :: xs => if n < x then n :: x :: xs else if n = x then x :: xs else x :: insNat n xs

/-- R292: stores of engine `e` mark their 64-byte blocks; WE's memories are not the core's. -/
def markStores (e : Eng) (st : List (Bool × BitVec 12)) (s : State) : State :=
  if e = weNum || st.isEmpty then s
  else
    let ds := st.foldl (fun d p => insNat (e.val * 512 + 256 * b2n p.1 + p.2.toNat / 16) d) s.mirror.dirty
    { s with mirror := { s.mirror with dirty := ds } }

/-! Wake store (R56). -/

/-- R56: a word of WE's wake store. -/
def wakeStoreGet (s : State) (a : Nat) : Word :=
  if a < 0x4000 then mget 0 s.wake.pre a
  else if a < 0x7000 then mget 0 s.wake.model (a - 0x4000)
  else 0

/-! Semaphores (R81, R82). -/

/-- R82: waiting engines from number `e` upward are served, one decrement each while the count stays above zero. -/
def serveWaiting (n : Fin 32) : List (Fin 25) → CoreSt → CoreSt
  | [], c => c
  | e :: es, c =>
    if c.eng[e].run == .waitS n && c.sems[n] ≠ 0 then
      serveWaiting n es { c with sems := vset c.sems n (c.sems[n] - 1),
                                 eng := vmod c.eng e fun x => { x with run := .running } }
    else serveWaiting n es c

/-- R81, R82: one increment of a semaphore, and the waiting engines it releases. -/
def semSignal (n : Fin 32) (s : State) : State :=
  if s.core.sems[n] = 255 then
    raiseLimited 20 0 n.val none { s with core := serveWaiting n (List.finRange 25) s.core }
  else
    { s with core := serveWaiting n (List.finRange 25) { s.core with sems := vset s.core.sems n (s.core.sems[n] + 1) } }

/-! Requests and results in flight (R72, R108, R120, R123). -/

/-- R108: requests that a SIG waits for, once one more has completed. -/
def sigAhead (dly : Bool) (g : SigReq) : SigReq :=
  if dly then { g with dAhead := g.dAhead - 1 } else { g with fAhead := g.fAhead - 1 }

/-- The oldest delay request completes: a read's word reaches its destination, a write reaches the SRAM. -/
def deliverDly (e : Eng) (s : State) : State :=
  let x := getEng s e
  match x.dq with
  | [] => s
  | r :: rs =>
    let x1 := { x with dq := rs, sigq := x.sigq.map (sigAhead true) }
    match r with
    | .read a dst =>
      let w := if e = weNum then wakeStoreGet s a.toNat else sramGet s a.toNat
      markStores e (locStore dst) (setEng s e (locPutDelay x1 dst w))
    | .zero dst => markStores e (locStore dst) (setEng s e (locPutDelay x1 dst 0))
    | .write a w => sramWrite a.toNat w (setEng s e x1)

/-- The oldest fabric request completes: a read's sample reaches its destination, a write reaches the fabric. -/
def deliverFab (e : Eng) (s : State) : State :=
  let x := getEng s e
  match x.fq with
  | [] => s
  | r :: rs =>
    let x1 := { x with fq := rs, sigq := x.sigq.map (sigAhead false) }
    match r with
    | .read slot j dst => markStores e (locStore dst) (setEng s e (locPutSample x1 dst (slotSample s slot j)))
    | .zero dst => markStores e (locStore dst) (setEng s e (locPutSample x1 dst 0))
    | .write slot j v => modFab (setEng s e x1) fun f => slotWrite f slot j v

/-- R121: the register that an RA field names: 0-3 operand registers, 4-7 accumulators. -/
def raPut (x : Engine) (ra : BitVec 3) (v : Acc) : Engine :=
  if ra.toNat < 4 then { x with opr := vset x.opr ⟨ra.toNat % 4, Nat.mod_lt _ (by decide)⟩ (v.setWidth 24) }
  else { x with acc := vset x.acc ⟨ra.toNat % 4, Nat.mod_lt _ (by decide)⟩ v }

/-- The oldest SYS result arrives: RA is written and C set (R123). -/
def deliverSys (s : State) : State :=
  let x := getEng s sv
  match x.sysq with
  | [] => s
  | r :: rs =>
    let x1 := match r.val with | some v => raPut x r.ra v | none => x
    setEng s sv { x1 with sysq := rs, fc := r.c }

/-- R108: the increments whose earlier writes have all been accepted take effect, in issue order. -/
def applySigs (e : Eng) (s : State) : State :=
  let x := getEng s e
  let go := x.sigq.takeWhile fun g => g.dAhead = 0 && g.fAhead = 0
  let rest := x.sigq.dropWhile fun g => g.dAhead = 0 && g.fAhead = 0
  go.foldl (fun t g => semSignal g.sem t) (setEng s e { x with sigq := rest })

/-- `f` applied `n` times. -/
def times {α : Type} (f : α → α) : Nat → α → α
  | 0, a => a
  | n + 1, a => times f n (f a)

/-- All that is outstanding of an engine completes (log 5). -/
def drain (e : Eng) (s : State) : State :=
  let x := getEng s e
  if x.dq.isEmpty && x.fq.isEmpty && x.sysq.isEmpty && x.sigq.isEmpty then s
  else applySigs e (times deliverSys (if e = sv then 4 else 0) (times (deliverFab e) 4 (times (deliverDly e) 4 s)))

/-! The end of a control program and engine faults. -/

/-- R132, R83: every signal engine stops at once, SV resumes the resident program at the next boundary, and the load status
word returns to 0. -/
def stopControl (s : State) : State :=
  if s.core.prog == .control then
    let stop (i : Fin 25) (x : Engine) : Engine :=
      if i.val < 24 && (engRuns x || x.run == .starting) then { x with run := .stopped } else x
    { s with core := { s.core with eng := vmap s.core.eng stop, svStop := true, load := {} } }
  else s

/-- R83, R128: the engine halts before the instruction commits; `pc` is where it stands. -/
def engFault (e : Eng) (cause : Nat) (s : State) : State :=
  let x := getEng s e
  let s1 := setEng s e { x with run := .halted }
  if e = weNum then
    raiseEv 106 cause (endCandidate { s1 with wake := { s1.wake with wflt := true } })
  else
    let s2 := raiseEv 17 (e.val + 32 * cause + 512 * x.pc.toNat + 2 ^ 22 * (sideIx s.arb.active).val) s1
    if e = sv then stopControl s2 else s2

/-! Program counter. -/

/-- R78: an instruction stands at the end address of an active loop level. -/
def atLoopEnd (x : Engine) : Bool := x.loops.any fun l => l.stop = x.pc

/-- R78, R79: the innermost level is popped and LC takes the enclosing level's count; with none left LC is the free value
`fv` (log 6). -/
def popLoop (fv : BitVec 16) (x : Engine) : Engine :=
  match x.loops with
  | _ :: l :: ls => { x with loops := l :: ls, lc := l.count }
  | _ => { x with loops := [], lc := fv }

/-- R128, R78: what the fetch of an instruction that does not transfer control does: the next program counter, and at the end
address of the innermost level LC counted down or the level popped. R78 gives no effect for LC = 0, which a program can move
into LC: the free value `fv` says whether the level is popped, the loop returns, or the fetch goes on (log 6). -/
def pcNext (fv : BitVec 64) (x : Engine) : Engine :=
  match x.loops with
  | l :: _ =>
    if l.stop = x.pc then
      if 1 < x.lc.toNat || (x.lc = 0 && fv.getLsbD 16) then { x with lc := x.lc - 1, pc := l.start }
      else if x.lc = 1 || fv.getLsbD 17 then { (popLoop (fv.setWidth 16) x) with pc := x.pc + 1 }
      else { x with pc := x.pc + 1 }
    else { x with pc := x.pc + 1 }
  | [] => { x with pc := x.pc + 1 }

/-! Running one instruction. -/

/-- R80, R83: the engine issues instructions: it runs, and a core's engine only while its core runs frames with
its clocks (R40). -/
def engMay (s : State) (e : Eng) : Bool :=
  !s.resetHeld && (getEng s e).run == .running && (e = weNum || (s.arb.coreRun && coreClocked s))

/-- R83, R128 cause 10: WE halts where execution would leave addresses 0-4095. -/
def weLeft (e : Eng) (x : Engine) : Bool := e = weNum && 4096 ≤ x.pc.toNat

/-- R78: the engine as the instruction just fetched executes in it: LC and the loop levels as the fetch left them (log 6). -/
def atExec (fv : BitVec 64) (x : Engine) : Engine := { pcNext fv x with pc := x.pc }

/-- The engine's state after an instruction takes its place: IX as AG of the next instruction sees it is IX before this one
(R98). -/
def engPlace (e : Eng) (x0 x : Engine) (st : List (Bool × BitVec 12)) (s : State) : State :=
  markStores e st (setEng s e { x with ixAg := x0.ix })

/-- The same of an instruction that is no delay access: an earlier violation has then been reported (R101). -/
def engCommit (e : Eng) (x0 x : Engine) (st : List (Bool × BitVec 12)) (s : State) : State :=
  engPlace e x0 { x with dvLate := false } st s

/-- What follows an instruction: the fault of WE outside its memory, or nothing. -/
def engEnd (e : Eng) (s : State) : Out :=
  if weLeft e (getEng s e) then .next (settle (engFault e 10 s)) else .next s

/-- The free value that LC takes if the last loop level is popped (log 6). -/
def lcFree (s : State) : BitVec 16 := (freeVal s).setWidth 16

/-- The fetch of `x` takes a free value: a lone level meets its end, or LC = 0 stands there (log 6). -/
def fetchFree (x : Engine) : Bool := (x.loops.length = 1 || x.lc = 0) && atLoopEnd x

/-- An instruction that stays within its engine and does not transfer control. -/
def engRun (s : State) (e : Eng) (f : Engine → Eff) : Out :=
  if engMay s e then
    let s1 := drain e s
    let x := getEng s1 e
    match f (atExec (freeVal s1) x) with
    | .flt c => .next (settle (engFault e c s1))
    | .ok y st =>
      engEnd e (engCommit e x { y with pc := (pcNext (freeVal s1) x).pc } st (if fetchFree x then freeTaken s1 else s1))
  else .next s

/-- A flow instruction: `f` gives the engine with its new program counter; it is illegal at a loop end (R78). -/
def engFlow (s : State) (e : Eng) (f : BitVec 16 → Engine → Eff) : Out :=
  if engMay s e then
    let s1 := drain e s
    let x := getEng s1 e
    match f (lcFree s1) x with
    | .flt c => .next (settle (engFault e c s1))
    | .ok y st => engEnd e (engCommit e x y st (if y.loops.length < x.loops.length then freeTaken s1 else s1))
  else .next s

end Sys2Proof.Machine
end

