-- ==== Sys2Proof/Machine/Adpcm.lean ====
section
/-!
DEFINITION. The IMA/DVI ADPCM decoder of messages (R385), with the standard step and index tables (log 10).
-/

namespace Sys2Proof.Machine

/-- The standard step table. -/
def imaSteps : List Int :=
  [7, 8, 9, 10, 11, 12, 13, 14, 16, 17, 19, 21, 23, 25, 28, 31, 34, 37, 41, 45, 50, 55, 60, 66, 73, 80, 88, 97, 107, 118,
   130, 143, 157, 173, 190, 209, 230, 253, 279, 307, 337, 371, 408, 449, 494, 544, 598, 658, 724, 796] ++
  [876, 963, 1060, 1166, 1282, 1411, 1552, 1707, 1878, 2066, 2272, 2499, 2749, 3024, 3327, 3660, 4026, 4428, 4871, 5358,
   5894, 6484, 7132, 7845, 8630, 9493, 10442, 11487, 12635, 13899, 15289, 16818, 18500, 20350, 22385, 24623, 27086, 29794,
   32767]

/-- The standard index table, by the magnitude bits of a code. -/
def imaIndex : List Int := [-1, -1, -1, -1, 2, 4, 6, 8]

/-- Saturation of the predictor to 16 bits (R385). -/
def sat16Int (x : Int) : Int := max (-32768) (min 32767 x)

/-- One code: the new predictor and step index. -/
def imaStep (pred : Int) (idx code : Nat) : Int × Nat :=
  let st := imaSteps.getD idx 7
  let d := st / 8 + (if code / 4 % 2 = 1 then st else 0) + (if code / 2 % 2 = 1 then st / 2 else 0) +
    (if code % 2 = 1 then st / 4 else 0)
  let p := sat16Int (if 8 ≤ code then pred - d else pred + d)
  (p, (max 0 (min 88 ((idx : Int) + imaIndex.getD (code % 8) 0))).toNat)

/-- R385: code `k` of a message's words. -/
def msgCode (ws : List Word) (k : Nat) : Nat := fld (ws.getD (16 + k / 8) 0) (4 * (k % 8)) 4

/-- R384: NSAMP of a message's words. -/
def msgSamples (ws : List Word) : Nat := fld (ws.getD 4 0) 0 24

/-- R37, R387: playback of a copy from its first sample. -/
def playFrom (ofs : Nat) (ws : List Word) : Play :=
  { ofs := ofs, pos := 0, pred := ((ws.getD 7 0).setWidth 16).toInt, idx := fld (ws.getD 7 0) 16 7, last := [],
    stopAfter := false, msg := ws }

/-- One sample of a copy in play; its Q1.23 value is s * 2^8 (R385). -/
def playSample (p : Play) : Play :=
  let r := imaStep p.pred p.idx (msgCode p.msg p.pos)
  { p with pos := p.pos + 1, pred := r.1, idx := r.2, last := p.last ++ [BitVec.ofInt 24 (r.1 * 256)] }

end Sys2Proof.Machine
end

