-- ==== Sys2Proof/Machine/Digest.lean ====
section
/-!
DEFINITION. The check codes that the spec names by their standards (log 10): CRC-32 of IEEE 802.3 (R379), SHA-256 of FIPS
180-4 and HMAC of FIPS 198-1 (R367).
-/

namespace Sys2Proof.Machine

/-! CRC-32. -/

/-- One bit of the reflected CRC. -/
def crcBit (c : Word) : Word := if bit c 0 then (c >>> 1) ^^^ 0xEDB88320 else c >>> 1
/-- One byte of the CRC. -/
def crcByte (c : Word) (b : Byte) : Word :=
  let c := c ^^^ b.setWidth 32
  crcBit (crcBit (crcBit (crcBit (crcBit (crcBit (crcBit (crcBit c)))))))
/-- R379: the CRC-32 of bytes. -/
def crc32 (bs : List Byte) : Word := ~~~ bs.foldl crcByte 0xFFFFFFFF
/-- The bytes of words, each word little-endian. -/
def bytesOfWords (ws : List Word) : List Byte := ws.flatMap bytesOf
/-- R379: the CRC-32 of words in which the word at `at_` counts as 0. -/
def crcWords (ws : List Word) (at_ : Nat) : Word := crc32 (bytesOfWords (ws.set at_ 0))

/-! SHA-256. Its constants are the first 32 bits of the fractional parts of roots of the first primes: square roots for the
initial value, cube roots for the rounds. -/

/-- Whether `n` has no divisor from 2 below `k + 2`. -/
def noDivisor (n : Nat) : Nat → Bool
  | 0 => true
  | k + 1 => n % (k + 2) ≠ 0 && noDivisor n k

/-- The first 64 primes: those below 312. -/
def shaPrimes : List Nat := (List.range 312).filter fun n => 2 ≤ n && noDivisor n (n - 2)

/-- The largest root found by trying the `k` low bits from the top, given the bits `r` above them: the largest number whose
power `e` does not exceed `n`. -/
def rootBits (e n : Nat) : Nat → Nat → Nat
  | 0, r => r
  | k + 1, r => if (r + 2 ^ k) ^ e ≤ n then rootBits e n k (r + 2 ^ k) else rootBits e n k r

/-- The first 32 bits of the fractional part of the root `e` of `p`. -/
def rootWord (e p : Nat) : Word := BitVec.ofNat 32 (rootBits e (p * 2 ^ (32 * e)) 37 0)

/-- The words of rounds 0-63. -/
def shaRoundWords : List Word := shaPrimes.map (rootWord 3)

/-- The hash before the first block. -/
def shaInit : List Word := (shaPrimes.take 8).map (rootWord 2)

/-- The exclusive or of a word turned right by each of three amounts. -/
def turned (w : Word) (i j k : Nat) : Word := w.rotateRight i ^^^ w.rotateRight j ^^^ w.rotateRight k

/-- Bit by bit: y where x is 1, else z. -/
def choose (x y z : Word) : Word := z ^^^ (x &&& (y ^^^ z))

/-- Bit by bit: what at least two of three words hold. -/
def majority (x y z : Word) : Word := (x &&& (y ||| z)) ||| (y &&& z)

/-- One round, on the eight working words in their order; `k` is the round's word plus the word scheduled for it. -/
def shaRound (v : List Word) (k : Word) : List Word :=
  match v with
  | [p, q, r, s, t, u, w, x] =>
    let fresh := x + turned t 6 11 25 + choose t u w + k
    [fresh + turned p 2 13 22 + majority p q r, p, q, r, s + fresh, t, u, w]
  | _ => v

/-- The word that follows 16 scheduled words, oldest first. -/
def shaNext (ws : List Word) : Word :=
  let at_ (i : Nat) : Word := ws.getD i 0
  let old := at_ 1
  let young := at_ 14
  at_ 0 + (old.rotateRight 7 ^^^ old.rotateRight 18 ^^^ old >>> 3) + at_ 9 +
    (young.rotateRight 17 ^^^ young.rotateRight 19 ^^^ young >>> 10)

/-- The rounds with the words `ks`, on the working words `v` with the 16 words of the schedule that come next. -/
def shaRounds : List Word → List Word → List Word → List Word
  | [], _, v => v
  | k :: ks, ws, v => shaRounds ks (ws.tail ++ [shaNext ws]) (shaRound v (k + ws.headD 0))

/-- One block of 16 words taken into the hash. -/
def shaBlock (hash blk : List Word) : List Word := List.zipWith (· + ·) hash (shaRounds shaRoundWords blk hash)

/-- Bytes as big-endian words. -/
def beWords : List Byte → List Word
  | a :: b :: c :: d :: bs => (a ++ b ++ c ++ d : BitVec 32) :: beWords bs
  | _ => []

/-- A list cut into pieces of 16, at most `n` of them. -/
def chunks16 {α : Type} : Nat → List α → List (List α)
  | 0, _ => []
  | n + 1, l => if l.isEmpty then [] else l.take 16 :: chunks16 n (l.drop 16)

/-- The padding of a message of `n` bytes. -/
def shaPad (n : Nat) : List Byte :=
  let len := BitVec.ofNat 64 (n * 8)
  0x80 :: List.replicate ((119 - n % 64) % 64) 0 ++
    (List.range 8).map fun i => len.extractLsb' (8 * (7 - i)) 8

/-- The bytes of a big-endian word. -/
def beBytes (w : Word) : List Byte := (bytesOf w).reverse

/-- R367: SHA-256. -/
def sha256 (bs : List Byte) : List Byte :=
  let ws := beWords (bs ++ shaPad bs.length)
  ((chunks16 (ws.length / 16 + 1) ws).foldl shaBlock shaInit).flatMap beBytes

/-- A 256-bit key as bytes, the first in bits [7:0]. -/
def keyBytes (k : BitVec 256) : List Byte := (List.range 32).map fun i => k.extractLsb' (8 * i) 8

/-- R367: HMAC-SHA-256. -/
def hmac (k : BitVec 256) (bs : List Byte) : List Byte :=
  let kb := keyBytes k ++ List.replicate 32 0
  sha256 (kb.map (· ^^^ 0x5C) ++ sha256 (kb.map (· ^^^ 0x36) ++ bs))

/-- R367: the tag words of an HMAC output: four bytes per word, little-endian. -/
def tagWords (k : BitVec 256) (bs : List Byte) : List Word := wordsOf (hmac k bs)

/-- R367: DEV_SERIAL as 8 bytes, little-endian. -/
def serialBytes (n : BitVec 64) : List Byte := (List.range 8).map fun i => n.extractLsb' (8 * i) 8

end Sys2Proof.Machine
end

