-- ==== Sys2Proof/Machine/RetOps.lean ====
section
/-!
DEFINITION. Retained state (R378-R386, R423): regions of the MRAM, tags, configuration slots and their selection, saves,
messages, and what the keeper may do there.
-/

namespace Sys2Proof.Machine

/-! Regions (R378) and SV's rights (R125). -/

/-- R378: configuration slots 0 and 1. -/
def inSlots (a : Nat) : Bool := a < 0x20000
/-- R378: fingerprints and health logs. -/
def inRecords (a : Nat) : Bool := 0x20000 ≤ a && a < 0x40000
/-- R378: program store. -/
def inPrograms (a : Nat) : Bool := 0x100000 ≤ a && a < 0x200000
/-- R378: message store. -/
def inMessages (a : Nat) : Bool := 0x200000 ≤ a && a < 0xA00000

/-- R125: RSRD has the right. -/
def rsrdOk (a : Nat) : Bool := inSlots a || inRecords a || inPrograms a || inMessages a
/-- R125: RSWR has the right. -/
def rswrOk (a : Nat) : Bool := inRecords a

/-- A word of the MRAM. -/
def rsGet (s : State) (a : Nat) : Word := mget 0 s.ret.mram a
/-- A run of words of the MRAM. -/
def rsGetN (s : State) (a n : Nat) : List Word := mgetN 0 s.ret.mram a n
/-- R378: of `n` words from `a`, some 64-bit word has an uncorrectable error. -/
def rsErr (s : State) (a n : Nat) : Bool := s.ret.bad.any fun d => a ≤ 2 * d + 1 && 2 * d < a + n
/-- R378: words `lo` to `hi` - 1 are written anew, and their errors with them (log 46). -/
def errGone (lo hi : Nat) (r : Ret) : Ret := { r with bad := r.bad.filter fun d => !(lo ≤ 2 * d + 1 && 2 * d < hi) }
/-- A word written into the MRAM. -/
def rsSet (a : Nat) (w : Word) (s : State) : State := modRet s fun r => errGone a (a + 1) { r with mram := mset 0 r.mram a w }
/-- A run of words written into the MRAM. -/
def rsSetN (a : Nat) (ws : List Word) (s : State) : State :=
  modRet s fun r => errGone a (a + ws.length) { r with mram := msetAll 0 r.mram a ws }
/-- A range of the MRAM wiped to zero. -/
def rsWipe (lo hi : Nat) (s : State) : State := modRet s fun r => errGone lo hi { r with mram := mwipe r.mram lo hi }

/-! Tags (R379). -/

/-- R379: an item of words `ws`, tagged or not, carries the tag that the key store asks for; `pre` goes before its bytes. -/
def tagGood (s : State) (pre : List Byte) (tagged : Bool) (ws : List Word) : Bool :=
  match s.ret.key with
  | none => !tagged
  | some k =>
    let n := ws.length - 8
    tagged && ws.drop n = tagWords k (pre ++ bytesOfWords (ws.take n))

/-- R379: the last 8 words of an item: its tag, or zeros without a site key. -/
def tagFor (s : State) (pre : List Byte) (ws : List Word) : List Word :=
  match s.ret.key with
  | none => List.replicate 8 0
  | some k => tagWords k (pre ++ bytesOfWords ws)

/-! Configuration slots (R380, R423). -/

/-- R380: word address of slot k. -/
def slotBase (k : Nat) : Nat := k * 0x10000

/-- R423: words 37-51: the registers of two-wire port x, entry j. -/
def twRetWord (c : TwCfg) (j : Nat) : Word := [c.addr01, c.addr23, c.amask, c.tima, c.ctrl].getD j 0
/-- R423: words 47-51, of TW2. -/
def tw2RetWord (c : TwCfg) (j : Nat) : Word := [c.addr01, c.tima, c.ctrl, c.timb, c.timc].getD j 0

/-- R423: slot word i, for i = 16-51: the retained fields of a register at its layout. -/
def retWord (s : State) (i : Nat) : Word :=
  if i = 16 then BitVec.ofNat 32 (s.hosts.fpHost.toNat + 4 * b2n s.hosts.tagAll)
  else if i = 17 then s.time.trim.setWidth 32
  else if i = 18 then BitVec.ofNat 32 (s.time.period.toNat + 2 ^ 16 * b2n s.time.perEn)
  else if i = 19 then BitVec.ofNat 32 (2 * (sideIx s.arb.pref).val)
  else if i = 20 then BitVec.ofNat 32 (s.flt.latch.toNat + 2 ^ 12 * b2n s.flt.attnFlt)
  else if i < 25 then s.flt.mask.toList.getD (i - 21) 0
  else if i < 37 then s.hosts.evm.toList.getD (i - 25) 0
  else if i < 42 then twRetWord s.ports.tw[(0 : Fin 3)].cfg (i - 37)
  else if i < 47 then twRetWord s.ports.tw[(1 : Fin 3)].cfg (i - 42)
  else if i < 52 then tw2RetWord s.ports.tw[(2 : Fin 3)].cfg (i - 47)
  else 0

/-- R356: the factory configuration of two-wire port x; IDLE, REQ and REQ_EN of port P are reserved. -/
def twFactory (x : Nat) : TwCfg := if x = 2 then { ctrl := 0x1E } else {}

/-- R381, R356: registers of a two-wire port loaded from slot words. -/
def twRestore (g : Nat → Word) : TwCfg :=
  { addr01 := g 0 &&& 0x3FF03FF, addr23 := g 1 &&& 0x3FF03FF, amask := g 2 &&& 0x7F03FF, tima := g 3 &&& 0x3FFFF,
    ctrl := g 4 &&& 0xFFFFFF, timb := ({} : TwCfg).timb, timc := ({} : TwCfg).timc }
/-- The same of TW2. -/
def tw2Restore (g : Nat → Word) : TwCfg :=
  { addr01 := g 0 &&& 0x3FF, addr23 := 0, amask := 0, tima := g 1 &&& 0x3FFFF, ctrl := g 2 &&& 0xFF, timb := g 3,
    timc := g 4 &&& 0xFFFF }

/-- R411, R404: the mask bits of EVM word i that can be 1. -/
def evmBits (i : Nat) : Word := if i = 5 then 0xFFFFEFFF else if i = 7 then 0xFFFF00FF else 0xFFFFFFFF

/-- A configuration put in a two-wire port, in force at once. -/
def twInstall (c : TwCfg) (t : TwPort) : TwPort := { t with cfg := c, use := c }

/-- R381, R423: the retained fields loaded from slot words 16-51, given by `g`; the two-wire registers keep their factory
values in the fallback path (R334). -/
def restoreRegs (g : Nat → Word) (s : State) : State :=
  let tw : Vector TwPort 3 :=
    if s.ports.fb then vmap s.ports.tw fun x t => twInstall (twFactory x.val) t
    else
      vmap s.ports.tw fun x t =>
        twInstall (if x.val = 2 then tw2Restore fun j => g (47 + j)
                   else twRestore fun j => g (37 + 5 * x.val + j)) t
  { s with
    hosts := { s.hosts with fpHost := (g 16).setWidth 2, tagAll := bit (g 16) 2, evm := .ofFn fun i => g (25 + i.val) &&& evmBits i.val }
    time := { s.time with trim := (g 17).setWidth 8, period := (g 18).setWidth 16, perEn := bit (g 18) 16,
                          downCnt := (g 18).setWidth 16 }
    arb := { s.arb with pref := if bit (g 19) 1 then .b else .a }
    flt := { s.flt with latch := (g 20).setWidth 4, attnFlt := bit (g 20) 12,
                        mask := .ofFn fun i => if i.val = 0 then g 21 ||| 0x20 else g (21 + i.val) }
    ports := { s.ports with tw := tw } }

/-- R381: the factory values, those of State.reset. -/
def factoryWord (i : Nat) : Word := retWord State.reset i

/-- R380, R382: words 0-65,527 of the slot that a save writes, with the CRC word 0. -/
def slotBody (s : State) (gen : BitVec 16) : List Word :=
  let tagged := s.ret.key.isSome
  [0xA55A1703, BitVec.ofNat 32 (gen.toNat + 2 ^ 16 * b2n tagged), 0] ++ List.replicate 13 0 ++
    (List.range 36).map (fun j => retWord s (16 + j)) ++ List.replicate 204 0 ++
    s.ret.power ++ s.ret.cmp ++ [s.ret.boot.setWidth 32] ++ List.replicate 65227 0

/-- R380: the whole slot: CRC in word 2, tag at the end. -/
def slotWords (s : State) (gen : BitVec 16) : List Word :=
  let b := slotBody s gen
  let c := b.set 2 (crcWords b 2)
  c ++ tagFor s (serialBytes s.serial) c

/-- R380: reserved words of a slot: 3-15, 52-255, 301-65,527. -/
def slotReserved (i : Nat) : Bool := (3 ≤ i && i < 16) || (52 ≤ i && i < 256) || (301 ≤ i && i < 65528)

/-- R380: a slot's words are valid. -/
def slotWordsValid (s : State) (ws : List Word) : Bool :=
  ws.getD 0 0 = 0xA55A1703 && fld (ws.getD 1 0) 17 15 = 0 && fld (ws.getD 300 0) 2 30 = 0 &&
  (List.range 65528).all (fun i => !slotReserved i || ws.getD i 0 = 0) &&
  crcWords (ws.take 65528) 2 = ws.getD 2 0 &&
  tagGood s (serialBytes s.serial) (bit (ws.getD 1 0) 16) ws

/-- R380: slot k is valid; a slot without the magic is not read further. -/
def slotValid (s : State) (k : Nat) : Bool :=
  rsGet s (slotBase k) = 0xA55A1703 && !rsErr s (slotBase k) 65536 && slotWordsValid s (rsGetN s (slotBase k) 65536)

/-- R380: GEN of slot k. -/
def slotGen (s : State) (k : Nat) : BitVec 16 := (rsGet s (slotBase k + 1)).setWidth 16

/-- R381: the selection. -/
def pickSlot (v0 v1 : Bool) (g0 g1 : BitVec 16) : Option Nat :=
  if v0 && v1 then some (if serialGt 16 g1.toNat g0.toNat then 1 else 0)
  else if v0 then some 0
  else if v1 then some 1
  else none

/-- R381: the two generations are equal or incomparable. -/
def genTie (g0 g1 : BitVec 16) : Bool := !serialGt 16 g1.toNat g0.toNat && !serialGt 16 g0.toNat g1.toNat

/-- R381: a slot is selected and the retained fields take its contents or their factory values. -/
def restoreSlots (s : State) : State :=
  let v0 := slotValid s 0
  let v1 := slotValid s 1
  let g0 := slotGen s 0
  let g1 := slotGen s 1
  match pickSlot v0 v1 g0 g1 with
  | some k =>
    let g (i : Nat) : Word := rsGet s (slotBase k + i)
    let gen := if k = 1 then g1 else g0
    let s1 := restoreRegs g (modRet s fun r =>
      { r with sel := some k, gen := gen, v0 := v0, v1 := v1, noSlot := false,
               power := rsGetN s (slotBase k + 256) 12, cmp := rsGetN s (slotBase k + 268) 32, boot := (g 300).setWidth 2 })
    iff (v0 && v1 && genTie g0 g1) (raiseEv 10 gen.toNat) s1
  | none =>
    let s1 := { s with ports := { s.ports with fb := true } }
    raiseEv 11 0 (restoreRegs factoryWord (modRet s1 fun r =>
      { r with sel := none, gen := 0, v0 := v0, v1 := v1, noSlot := true, power := facPower, cmp := facCmp, boot := 0 }))

/-! Saves (R382, R398). -/

/-- R122, R382: a save is held, requested or running. -/
def saveBusy (s : State) : Bool := s.ret.save.held || s.ret.save.wait || s.ret.save.run
/-- R382: a save is requested; it takes effect at the next boundary. -/
def requestSave (s : State) : State := modRet s fun r => { r with save := { r.save with wait := true, held := false } }

/-- R382: the slot that a save writes. -/
def saveSlot (s : State) : Nat := match s.ret.sel with | some k => 1 - k | none => 0
/-- R382: the GEN that a save writes. -/
def saveGen (s : State) : BitVec 16 := match s.ret.sel with | some _ => s.ret.gen + 1 | none => 0

/-- V0 or V1. -/
def setValid (k : Nat) (v : Bool) (s : State) : State :=
  modRet s fun r => if k = 0 then { r with v0 := v } else { r with v1 := v }

/-- R382: a requested save begins at a boundary: the retained fields are taken and word 0 of the slot is cleared. -/
def beginSave (s : State) : State :=
  if s.ret.save.wait then
    let k := saveSlot s
    let gen := saveGen s
    let ws := slotWords s gen
    let s1 := rsSet (slotBase k) 0 (rsSetN (slotBase k) ws s)
    setValid k false (modRet s1 fun r =>
      { r with save := { wait := false, run := true, held := false, slot := k, words := [], gen := gen } })
  else s

/-- R382: the running save ends: word 0 takes the magic and the new slot is selected. -/
def endSave (s : State) : State :=
  if s.ret.save.run then
    let k := s.ret.save.slot
    let s1 := rsSet (slotBase k) 0xA55A1703 s
    setValid k true (modRet s1 fun r => { r with sel := some k, gen := r.save.gen, save := {} })
  else s

/-! Messages (R384-R387). -/

/-- R384: word address of the message store. -/
def msgBase : Nat := 0x200000
/-- R384: words of the message store. -/
def msgStoreLen : Nat := 0x800000
/-- R384: offset and length of message n in the directory. -/
def msgEntry (s : State) (n : Nat) : Nat × Nat :=
  ((rsGet s (msgBase + 4 * n)).toNat, (rsGet s (msgBase + 4 * n + 1)).toNat)
/-- R384: the words of message n. -/
def msgWords (s : State) (n : Nat) : List Word := rsGetN s (msgBase + (msgEntry s n).1) (msgEntry s n).2

/-- R384: the header of a message of `len` words is correct. -/
def msgHeaderOk (n len : Nat) (h : List Word) : Bool :=
  let w (i : Nat) : Word := h.getD i 0
  w 0 = 0xA55A1702 && fld (w 1) 0 8 = n && fld (w 1) 9 23 = 0 && (w 2).toNat = len && 24 < len &&
  fld (w 4) 24 8 = 0 && 1 ≤ fld (w 4) 0 24 && fld (w 4) 0 24 ≤ 8 * (len - 24) &&
  fld (w 5) 23 9 = 0 && fld (w 6) 24 8 = 0 && fld (w 7) 23 9 = 0 && fld (w 7) 16 7 ≤ 88 &&
  (List.range 8).all fun j => w (8 + j) = 0

/-- R386, R378: the check of a message at offset `o`: 0, or the code of the first failure among header, CRC and tag. -/
def msgCheck (s : State) (n o : Nat) (ws : List Word) : Nat :=
  if !msgHeaderOk n ws.length ws then 2
  else if rsErr s (msgBase + o) ws.length || crcWords (ws.take (ws.length - 8)) 3 ≠ ws.getD 3 0 then 3
  else if !tagGood s [] (bit (ws.getD 1 0) 8) ws then 4
  else 0

/-- R389: the space from `a` to `b` of the store overlaps a defined message, or the copy in play, whose space is not yet
free. -/
def msgOverlap (s : State) (a b : Nat) : Bool :=
  let hit (o l : Nat) : Bool := o ≠ 0 && a < o + l && o < b
  (anyBelow 256 fun n => msgDefined s n && hit (msgEntry s n).1 (msgEntry s n).2) ||
  match s.core.play with
  | some p => hit p.ofs p.msg.length
  | none => false

/-! EVAC_IN, ALERT_IN and message 0 (R37, R387). -/

/-- R387: the resident program begins message 0, or reports that it has none. -/
def evacStart (s : State) : State :=
  if msgDefined s 0 then modCore s fun c => { c with play := some (playFrom (msgEntry s 0).1 (msgWords s 0)) }
  else raiseEv 12 256 s

/-- R387, R398: message n has become undefined; the copy of message 0 in play runs to its end. -/
def msgGone (n : Nat) (s : State) : State :=
  match n, s.core.play with
  | 0, some p => modCore s fun c => { c with play := some { p with stopAfter := true } }
  | _, _ => s

/-- R386: message n is checked; one that fails is undefined from this moment. -/
def checkMessage (n : Nat) (s : State) : State :=
  if msgDefined s n && msgCheck s n (msgEntry s n).1 (msgWords s n) ≠ 0 then
    msgGone n (raiseEv 12 n (modRet s fun r => { r with msgBad := r.msgBad ++ [n] }))
  else s

/-- R386: every message is checked, message 0 first. -/
def checkMessages (s : State) : State := (List.range 256).foldl (fun t n => checkMessage n t) s

/-! Life cycle (R390). -/

/-- R356: LK fields are open. -/
def lkOpen (s : State) : Bool := s.ret.lc = 1 || s.ret.lc = 3
/-- R390: control programs run in the state. -/
def programsAdmitted (s : State) : Bool := s.ret.lc = 1 || s.ret.lc = 2 || s.ret.lc = 3
/-- R390: the host is admitted in the state. -/
def hostAdmitted (s : State) (h : HostId) : Bool :=
  match h with
  | .a => true
  | .b => programsAdmitted s
  | .c => s.ret.lc = 3

/-- R319, R317: the retained store answers: KN is on and its DAWN step has not failed. -/
def storeUp (s : State) : Bool := bit s.pm.on 2 && !s.pm.ksOff

/-- R389, R395, R396: an image or message write, export or import runs. -/
def imgBusy (s : State) : Bool := s.ret.img.busy

end Sys2Proof.Machine
end

