-- ==== Sys2Proof/Machine/HostOps.lean ====
section
/-!
DEFINITION. Hosts (R357-R376): which views are open, admission of commands, the head command, claims, result blocks, and the
deferred effects of R124.
-/

namespace Sys2Proof.Machine

/-! Views (R357, R358). -/

/-- R345, R354, R320: the port logic is clocked: not in NIGHT, unless a DAWN runs or is being repeated. -/
def portLogicUp (s : State) : Bool := s.pm.st ≠ 2 || s.pm.dawn.isSome || s.pm.repeat_

/-- R337: VIEW_STAT.CORE: an active core runs. -/
def coreUp (s : State) : Bool := s.arb.coreRun

/-- R357, R358, R334: a port opens the view of a host. -/
def viewOpen (s : State) (pv : PortView) : Bool :=
  (pv.host != .c || s.ret.lc = 3) && portLogicUp s &&
  match pv.port with
  | .h0 => twOpens s 0 pv.host
  | .h1 => twOpens s 1 pv.host
  | .p => coreUp s && !s.ports.fb && cfgOpens s.ports.tw[(2 : Fin 3)].use pv.host
  | .f => if s.ports.fb then pv.host == .a else s.hosts.fpHost.toNat = (hostIx pv.host).val

/-! Command headers (R363). -/

def hdrOp (w : Word) : Nat := fld w 0 8
def hdrNw (w : Word) : Nat := fld w 8 6
def hdrTag (w : Word) : Bool := bit w 14
def hdrRes (w : Word) : Nat := fld w 16 8
def hdrPrio (w : Word) : Nat := fld w 24 3
def hdrNores (w : Word) : Bool := bit w 27

/-- R363: NW is in range. -/
def nwOk (w : Word) : Bool := 1 ≤ hdrNw w && hdrNw w ≤ 32 && (!hdrTag w || 10 ≤ hdrNw w)
/-- R363, R364: the command has a word after its header, or after the nonce and before the tag of a tagged command. -/
def cmdHasArg (ws : List Word) : Bool := (if hdrTag (ws.getD 0 0) then 10 else 1) < ws.length
/-- R363, R364: that word; a command that lacks it has 0 in its place (log 37). -/
def cmdArg (ws : List Word) : Word := if cmdHasArg ws then ws.getD (if hdrTag (ws.getD 0 0) then 2 else 1) 0 else 0

/-! Resources (R361, R362). -/

/-- R361: the word of resource r in force. -/
def resWord (s : State) (r : Nat) : Word := tword s.core.tab.res r
/-- R361: resource r is defined. -/
def resDefined (w : Word) : Bool := fld w 2 3 ≠ 0
/-- R361: host h owns the resource. -/
def resOwned (w : Word) (h : HostId) : Bool := bit w (2 + (hostIx h).val)
/-- R362: the highest level that a host may use. -/
def prioCeiling (h : HostId) : Nat := match h with | .a => 4 | .b => 1 | .c => 2

/-! Admission (R366-R368). -/

/-- R366, check 1. -/
def formOk (w : Word) : Bool :=
  let op := hdrOp w
  bit w 15 = false && fld w 28 4 = 0 && op < 0xF4 &&
  (!hdrNores w || (hdrRes w = 0 && hdrPrio w = 0)) &&
  (if (0xE0 ≤ op && op < 0xE4) || op = 0xF2 || op = 0xF3 then hdrNores w
   else if op = 0xF0 || op = 0xF1 then !hdrNores w else true)

/-- R367: the tag of a command of host A is right. -/
def cmdTagOk (s : State) (ws : List Word) : Bool :=
  match s.ret.key with
  | none => false
  | some k => ws.drop (ws.length - 8) = tagWords k (serialBytes s.serial ++ [0] ++ bytesOfWords (ws.take (ws.length - 8)))

/-- R367: the command must carry a tag. -/
def tagNeeded (s : State) (h : HostId) (w : Word) : Bool :=
  h == .a && s.ret.key.isSome && (hdrPrio w = 3 || hdrPrio w = 4 || s.hosts.tagAll)

/-- R366: the reason of the first check that a command fails; none when it is admitted. -/
def admitFails (s : State) (h : HostId) (ws : List Word) : Option Nat :=
  let w := ws.getD 0 0
  let r := resWord s (hdrRes w)
  if !formOk w then some 9
  else if !(hostAdmitted s h && (programsAdmitted s || hdrOp w = 0xE2)) then some 4
  else if (if hdrTag w then !(h == .a && s.ret.key.isSome && cmdTagOk s ws) else tagNeeded s h w) then some 7
  else if hdrTag w && !serialGt 32 (ws.getD 1 0).toNat s.ret.nonceLast.toNat then some 8
  else if !hdrNores w && !(resDefined r && resOwned r h) then some 1
  else if !hdrNores w && !(hdrPrio w ≤ prioCeiling h && (hdrPrio w < 3 || bit r 5)) then some 2
  else if (hdrOp w = 0xF2 || hdrOp w = 0xF3) && h != .a then some 5
  else none

/-- R366: a command with its last word committed, and its tag checked, is admitted or ignored. -/
def admitCmd (pv : PortView) (ws : List Word) (s : State) : State :=
  match admitFails s pv.host ws with
  | some reason => ignoreCmd pv reason (ws.getD 0 0) s
  | none =>
    let i := hostIx pv.host
    let n := s.hosts.cnum[i] + 1
    let e : CmdEnt := { id := s.hosts.nextId, host := pv.host, cnum := n, words := ws, retiring := false }
    let s1 := modHosts s fun h => { h with q := h.q ++ [e], nextId := h.nextId + 1, cnum := vset h.cnum i n }
    if hdrTag (ws.getD 0 0) then modRet s1 fun r => { r with nonceLast := ws.getD 1 0 } else s1

/-- R377: CQ_STATUS.USED: admitted commands not yet retired, and the entries that open assemblies reserve. -/
def cqUsed (s : State) (h : HostId) : Nat :=
  (s.hosts.q.filter fun e => e.host == h).length +
  (s.ports.views.map fun p => if p.1 % 4 = (hostIx h).val then b2n (!p.2.asm.isEmpty) + p.2.chk.length else 0).sum

/-- R365: the queue has no free entry. -/
def cqFull (s : State) (h : HostId) : Bool := 64 ≤ cqUsed s h

/-- R365, R367: the first of the complete commands of a port-view that wait are admitted, up to the next tagged one. -/
def admitReady (pv : PortView) : Nat → State → State
  | 0, s => s
  | n + 1, s =>
    match (getPv s pv).chk with
    | ws :: rest =>
      if hdrTag (ws.getD 0 0) then s
      else admitReady pv n (admitCmd pv ws (modPv s pv fun v => { v with chk := rest }))
    | [] => s

/-- R365: an assembly complete: it waits for its tag check, or is admitted at once when no earlier check runs. -/
def assembled (pv : PortView) (ws : List Word) (s : State) : State :=
  admitReady pv 64 (modPv s pv fun v => { v with asm := [], chk := v.chk ++ [ws] })

/-- R367: the tag check of the oldest waiting command of a port-view ends. -/
def tagCheckDone (pv : PortView) (s : State) : State :=
  match (getPv s pv).chk with
  | ws :: rest => admitReady pv 64 (admitCmd pv ws (modPv s pv fun v => { v with chk := rest }))
  | [] => s

/-- R365: one byte of a command; a header with NW out of range is discarded. -/
def commandByte (pv : PortView) (b : Byte) (s : State) : State :=
  let bs := b :: (getPv s pv).asm
  let hdr := wordOf (bs.reverse.take 4)
  if bs.length = 4 && !nwOk hdr then ignoreCmd pv 9 hdr (modPv s pv fun v => { v with asm := [] })
  else if 4 ≤ bs.length && bs.length = 4 * hdrNw hdr then assembled pv (wordsOf bs.reverse) s
  else modPv s pv fun v => { v with asm := bs }

/-- R365: the command FIFO port takes a byte: an assembly is open or an entry is free. -/
def commandTakes (pv : PortView) (s : State) : Bool := !(getPv s pv).asm.isEmpty || !cqFull s pv.host

/-- R365: 100 ms without the next byte. -/
def assemblyTimeout (pv : PortView) (s : State) : State :=
  match (getPv s pv).asm with
  | [] => s
  | bs => ignoreCmd pv 9 (wordOf (bs.reverse.take 4)) (modPv s pv fun v => { v with asm := [] })

/-! The head command (R369). -/

/-- R369: the level of an entry. -/
def entPrio (e : CmdEnt) : Nat := if hdrNores (e.words.getD 0 0) then 0 else hdrPrio (e.words.getD 0 0)

/-- R369: the better of two entries: higher level, then earlier admission. -/
def better (a b : CmdEnt) : CmdEnt := if entPrio a < entPrio b || (entPrio a = entPrio b && b.id < a.id) then b else a

/-- R369: the entry to present next among those not retiring. -/
def bestEnt (q : List CmdEnt) : Option CmdEnt :=
  (q.filter fun e => !e.retiring).foldl (fun acc e => match acc with | none => some e | some a => some (better a e)) none

/-- An entry by its id. -/
def entOf (s : State) (id : Nat) : Option CmdEnt := s.hosts.q.find? fun e => e.id = id

/-- R369: the head command: the one presented, or the best one. -/
def headEnt (s : State) : Option CmdEnt :=
  match s.hosts.head with
  | some id => entOf s id
  | none => bestEnt s.hosts.q

/-! Claims (R371, R372) and result blocks (R419). -/

/-- R371: the host code in a claim slot; 3 is empty. -/
def claimAt (s : State) (res lvl : Nat) : BitVec 2 := mget 3 s.hosts.claims (res * 8 + lvl)
/-- R371: a claim slot written. -/
def setClaim (res lvl : Nat) (c : BitVec 2) (s : State) : State :=
  modHosts s fun h => { h with claims := mset 3 h.claims (res * 8 + lvl) c }
/-- R371: the level of a resource; 7 when no slot is occupied. -/
def resLevel (s : State) (res : Nat) : Nat :=
  (List.range 5).foldl (fun l k => if claimAt s res k ≠ 3 then k else l) 7
/-- R372, R358: the claims of host C close. -/
def closeClaimsOf (h : HostId) (s : State) : State :=
  modHosts s fun x => { x with claims := x.claims.filter fun p => p.2.toNat ≠ (hostIx h).val }

/-- R371, R405: CLAIM takes effect: the displaced host receives its entry. -/
def claim (h : HostId) (res lvl : Nat) (s : State) : State :=
  let old := claimAt s res lvl
  let s1 := setClaim res lvl (BitVec.ofNat 2 (hostIx h).val) s
  match hostOf old.toNat with
  | some d =>
    if d == h then s1
    else
      raiseEntry { kind := 2, src := 0, pay := pay (res * 2 ^ 8 + lvl * 2 ^ 16 + (hostIx h).val * 2 ^ 19), host := some d } s1
  | none => s1

/-- R371: RELEASE takes effect. -/
def release (h : HostId) (res lvl : Nat) (s : State) : State :=
  if (claimAt s res lvl).toNat = (hostIx h).val then setClaim res lvl 3 s else s

/-- R364: the keeper effect of a command retired with result 0x00. -/
def keeperEffect (e : CmdEnt) (s : State) : State :=
  let w := e.words.getD 0 0
  match hdrOp w with
  | 0xF0 => claim e.host (hdrRes w) (hdrPrio w) s
  | 0xF1 => release e.host (hdrRes w) (hdrPrio w) s
  | 0xF2 => modWake s fun k => { k with det := false, dcount := 0 }
  | 0xF3 => modSadc s fun d => { d with seen := d.seen &&& ~~~ cmdArg e.words }
  | _ => s

/-- R370: a command is retired: its entry leaves the queue, its command-done entry is created, and then its keeper effect
takes place. -/
def retire (e : CmdEnt) (rc : Byte) (reply : Word) (s : State) : State :=
  let w := e.words.getD 0 0
  let s1 := modHosts s fun h =>
    { h with q := h.q.filter fun x => x.id ≠ e.id,
             head := if h.head = some e.id then none else h.head,
             loadCmd := if h.loadCmd = some e.id then none else h.loadCmd }
  let s2 := raiseEntry { kind := 1, src := 0, pay := pay (hdrOp w + 2 ^ 8 * hdrRes w + 2 ^ 16 * rc.toNat), w5 := reply,
                         cnum := e.cnum, host := some e.host } s1
  if rc = 0 then keeperEffect e s2 else s2

/-- R372: at a program change the queued entries that name a resource are retired with 0xF2. -/
def retireResources (s : State) : State :=
  (s.hosts.q.filter fun e => !e.retiring && !hdrNores (e.words.getD 0 0)).foldl (fun t e => retire e 0xF2 0 t) s

/-- A result block. -/
def getRes (s : State) (b : Nat) : ResBlk := mget {} s.hosts.resBlk b
/-- A result block changed. -/
def modRes (b : Nat) (f : ResBlk → ResBlk) (s : State) : State :=
  modHosts s fun h => { h with resBlk := mset {} h.resBlk b (f (mget {} h.resBlk b)) }

/-! Deferred effects (R124). -/

/-- R401: an EVRAISE of EV28-EV31 moves a program fault flag. -/
def setProgFlag (src : Nat) (p : BitVec 24) (s : State) : State :=
  if 28 ≤ src && src < 32 then modHosts s fun h => { h with progFlags := setBit h.progFlags (src - 28) (bit p 0) } else s

/-! Line records (R229). -/

/-- R229: word address of record slot a. -/
def recAddr (a : Nat) : Nat := 0x20000 + 128 * a
/-- R228, R229: KIND of record slot a; a slot that reads with an uncorrectable error holds no record. -/
def recKind (s : State) (a : Nat) : Nat := if rsErr s (recAddr a) 128 then 0 else fld (rsGet s (recAddr a)) 0 8
/-- R228: SEQ of record slot a. -/
def recSeq (s : State) (a : Nat) : Nat := fld (rsGet s (recAddr a + 4)) 16 16
/-- R229: the slots of the ring that hold a health record, ascending, of any line or of one. -/
def healthSlots (s : State) (br : Option Nat) : List Nat :=
  ((List.range 992).map (· + 32)).filter fun a =>
    recKind s a = 1 && match br with | some b => fld (rsGet s (recAddr a)) 8 3 = b | none => true
/-- R229, R52: the first of the slots whose SEQ no other of them exceeds. -/
def newestRecord (s : State) (as : List Nat) : Option Nat :=
  as.find? fun a => as.all fun x => !serialGt 16 (recSeq s x) (recSeq s a)
/-- R229: the slot that a new health record takes; records that exceed each other in a circle leave it open (log 16). -/
def recPlace (s : State) : Nat :=
  let as := healthSlots s none
  if as.isEmpty then 32
  else match newestRecord s as with
    | some a => if a = 1023 then 32 else a + 1
    | none => 32 + (freeVal s).toNat % 992
/-- R225: the LMU reads the fingerprint records. -/
def readFps (s : State) : State :=
  let rd (b : Fin 8) : List Word :=
    if storeUp s && recKind s b.val = 2 then rsGetN s (recAddr b.val) 128 else []
  { s with lmu := { s.lmu with fp := .ofFn rd, line := vmap s.lmu.line fun b l => { l with fpv := !(rd b).isEmpty } } }
/-- R406: VERD of the last health record of each line, as the region holds them. -/
def readVerdicts (s : State) : State :=
  { s with lmu := { s.lmu with line := vmap s.lmu.line fun b l =>
      { l with recVerd := match newestRecord s (healthSlots s (some b.val)) with
                | some a => (rsGet s (recAddr a)).extractLsb' 21 2
                | none => 0 } } }

/-- R229, R400: a record is written into its place, and its events are raised. -/
def putRecord (fp : Bool) (ws : List Word) (br verd stat : Nat) (seq : BitVec 16) (s : State) : State :=
  let b : Fin 8 := ⟨br % 8, Nat.mod_lt _ (by decide)⟩
  let s1 :=
    if !storeUp s then s
    else if fp then readFps (rsSetN (recAddr b.val) ws s)
    else
      let as := healthSlots s none
      let s0 := if !as.isEmpty && (newestRecord s as).isNone then freeTaken s else s
      modLine (rsSetN (recAddr (recPlace s)) ws s0) b fun l => { l with recVerd := BitVec.ofNat 2 verd }
  let s2 := raiseEv 100 (br + 8 * verd + 32 * stat + 128 * seq.toNat) s1
  iff (verd = 2) (raiseEv 102 br) (iff (verd = 1) (raiseEv 101 br) s2)

/-- R225: the CF field of a fingerprint record takes a calibration. -/
def putCalib (br : Nat) (cf : BitVec 16) (s : State) : State :=
  if storeUp s then
    let a := recAddr (br % 8) + 6
    readFps (rsSet a (BitVec.ofNat 32 ((rsGet s a).toNat % 2 ^ 16 + 2 ^ 16 * cf.toNat)) s)
  else s

/-- R122: WAKECLR's mask. -/
def wakeClr (m : BitVec 4) (s : State) : State :=
  let s1 := modTime s fun t =>
    { t with perFlag := t.perFlag && !bit m 0,
             alFlag := #v[t.alFlag[(0 : Fin 2)] && !bit m 1, t.alFlag[(1 : Fin 2)] && !bit m 2] }
  if bit m 3 then modPm s1 fun p => { p with fret := false } else s1

/-- R122, R124: one deferred effect takes place. -/
def applyDef (d : Deferred) (s : State) : State :=
  match d.eff with
  | .cmdDone id rc reply => match entOf s id with | some e => retire e rc reply s | none => s
  | .evRaise src p =>
    let st : Stamp := { stampNow s with frame := d.frame }
    raiseEntry { kind := 0, src := src, pay := p, stamp := some st } (setProgFlag src p s)
  | .resOpen b => modRes b.toNat (fun r => { r with valid := false, sh := [] }) s
  | .resWr b k w => modRes b.toNat (fun r => { r with sh := mset 0 r.sh k w }) s
  | .resPub b => modRes b.toNat (fun r => { r with vis := r.sh, valid := true, seq := r.seq + 1, frm := d.frame }) s
  | .rsWr a w => rsSet a w s
  | .cfgSave => requestSave s
  | .wakeClr m => wakeClr m s
  | .record fp ws br verd stat seq => putRecord fp ws br verd stat seq s
  | .calib br cf => putCalib br cf s

/-- R124: effects take place together, in issue order. -/
def applyDefs (ds : List Deferred) (s : State) : State := ds.foldl (fun t d => applyDef d t) s

/-- R124: an effect issued by SV in the current frame. -/
def defer (eff : DefEff) (s : State) : State :=
  modHosts s fun h => { h with defNow := h.defNow ++ [{ frame := s.time.frame, eff := eff }] }

/-- R124: SV retires the head command; the effect is deferred. -/
def deferDone (e : CmdEnt) (rc : Byte) (reply : Word) (s : State) : State :=
  let s1 := modHosts s fun h =>
    { h with q := h.q.map fun x => if x.id = e.id then { x with retiring := true } else x, head := none }
  defer (.cmdDone e.id rc reply) (modCore s1 fun c => { c with cmdSeen := false })

/-- R124: the commands whose retirement is among discarded effects are presented again, the first of them first. -/
def discardDefs (ds : List Deferred) (s : State) : State :=
  let ids := ds.filterMap fun d => match d.eff with | .cmdDone id _ _ => some id | _ => none
  let s1 := modHosts s fun h =>
    { h with q := h.q.map fun x => if ids.contains x.id then { x with retiring := false } else x,
             head := match ids with | id :: _ => some id | [] => h.head }
  if ds.any (fun d => d.eff = .cfgSave) then modRet s1 fun r => { r with save := { r.save with held := false } } else s1

/-- R358: host C's view ends. -/
def endHostC (s : State) : State :=
  let s1 := closeClaimsOf .c s
  { s1 with
    hosts := { s1.hosts with q := s1.hosts.q.filter (fun e => e.host != .c), evq := vset s1.hosts.evq 2 [],
                             evPos := vset s1.hosts.evPos 2 0,
                             head := match headEnt s1 with
                               | some e => if e.host == .c then none else s1.hosts.head
                               | none => s1.hosts.head }
    ports := { s1.ports with
      views := (List.range 4).foldl
        (fun m p => mset {} m (p * 4 + 2) { mget {} m (p * 4 + 2) with asm := [], chk := [] }) s1.ports.views } }

end Sys2Proof.Machine
end

