-- ==== Sys2Proof/Machine/ImageOps.lean ====
section
/-!
DEFINITION. Image sets (R383): their layout, the checks of step 1 of R129 in their order, the tables they carry, and what
step 2 places in an engine (R130).
-/

namespace Sys2Proof.Machine

/-- R397: DIE_MAP of a variant. -/
def dieMap (v : Variant) : Nat := match v with | .tf8840 => 0x0F | .tf8842 => 0x3F | .tf8844 => 0xFF

/-- R383: one section entry. -/
structure Section where
  kind : Nat
  eng : Nat
  resv : Nat
  ofs : Nat
  slen : Nat
  tgt : Nat
  deriving DecidableEq, Repr

/-- R383: word address of a bank. -/
def bankBase (i : Nat) : Nat := 0x100000 + 0x80000 * i
/-- R383: words of a bank. -/
def bankLen : Nat := 524288

/-- R383: the words of the set in a bank, as long as its LEN says. -/
def setWords (s : State) (i : Nat) : List Word := rsGetN s (bankBase i) (rsGet s (bankBase i + 2)).toNat

/-- R383: NSEC of a set. -/
def setNsec (ws : List Word) : Nat := fld (ws.getD 1 0) 16 8
/-- R383: WDOG of a set. -/
def setWdog (ws : List Word) : Nat := fld (ws.getD 3 0) 8 8

/-- R383: section entry j; a word with bits above its field shows in `resv`. -/
def sectionOf (ws : List Word) (j : Nat) : Section :=
  let w (i : Nat) : Word := ws.getD (8 + 4 * j + i) 0
  { kind := fld (w 0) 0 8, eng := fld (w 0) 8 5, resv := fld (w 0) 13 19 + fld (w 1) 24 8 + fld (w 2) 24 8 + fld (w 3) 21 11,
    ofs := fld (w 1) 0 24, slen := fld (w 2) 0 24, tgt := fld (w 3) 0 21 }
/-- R383: every section entry. -/
def sections (ws : List Word) : List Section := (List.range (setNsec ws)).map (sectionOf ws)
/-- The data of a section. -/
def sectionData (ws : List Word) (x : Section) : List Word := (ws.drop x.ofs).take x.slen
/-- The data of the first section of a type; empty where the set has none. -/
def kindData (ws : List Word) (k : Nat) : List Word :=
  match (sections ws).find? (fun x => x.kind = k) with
  | some x => sectionData ws x
  | none => []
/-- R383: the set provides an engine. -/
def setProvides (ws : List Word) (e : Nat) : Bool := (sections ws).any fun x => x.kind = 1 && x.eng = e

/-! Tables (R171, R189, R213, R233, R260, R272, R361). -/

/-- A field of a word lies within bounds. -/
def within (w : Word) (lo len min max : Nat) : Bool := min ≤ fld w lo len && fld w lo len ≤ max
/-- A slot field: 0, or an engine slot of D48. -/
def slotField (w : Word) (lo : Nat) : Bool := fld w lo 9 = 0 || 192 ≤ fld w lo 9

/-- R171: the processing table is legal. -/
def procOk (t : List Word) : Bool :=
  (List.range 16).all (fun i => fld (tword t i) 4 28 = 0 && within (tword t i) 0 3 0 6) &&
  (List.range 80).all fun k =>
    let w := tword t (16 + k)
    if k = 6 || k = 7 then w = 0
    else within w 8 7 0 96 && fld w 15 1 = 0 && fld w 21 11 = 0 && (k < 6 || fld w 20 1 = 0)

/-- R189, R188: the power table is legal. -/
def powerOk (t : List Word) : Bool :=
  (List.range 8).all (fun b =>
    let w := tword t b
    slotField w 0 && within w 9 6 0 32 && within w 15 6 1 63 && within w 21 6 1 60 && fld w 31 1 = 0) &&
  (List.range 4).all fun n =>
    let d := tword t (8 + n)
    let a := tword t (2 * n)
    let b := tword t (2 * n + 1)
    within d 0 8 25 200 && within d 8 7 10 100 && within d 16 2 0 2 && within d 18 2 0 2 && fld d 20 12 = 0 &&
    ((!bit a 30 && !bit b 30) ||
      (bit a 30 && bit b 30 && fld a 21 9 = fld b 21 9 && fld d 16 2 = fld d 18 2))

/-- R188: die n of a power table is a loop pair. -/
def loopWord (t : List Word) (n : Nat) : Bool := bit (tword t (2 * n)) 30 && bit (tword t (2 * n + 1)) 30

/-- R213: the supervision table is legal; `power` says which dies are loop pairs. -/
def supOk (power t : List Word) : Bool :=
  (List.range 8).all (fun b =>
    let p := tword t b
    let w := tword t (8 + b)
    if loopWord power (b / 2) && b % 2 = 1 then p = 0 && w = 0
    else
      within p 0 8 0 225 && within p 8 7 1 99 && within p 15 7 1 100 && within p 22 4 1 15 && fld p 27 5 = 0 &&
      within w 0 7 40 80 && within w 7 7 1 127 && within w 14 7 1 127) &&
  slotField (tword t 16) 0 && within (tword t 16) 9 7 1 50 && fld (tword t 16) 16 8 ≤ fld (tword t 16) 24 8 &&
  within (tword t 17) 0 8 1 255 && within (tword t 17) 8 8 10 255 && fld (tword t 17) 16 16 = 0

/-- R233: the converter table is legal. -/
def convOk (t : List Word) : Bool :=
  (List.range 8).all (fun i => within (tword t i) 0 7 0 120 && fld (tword t i) 9 23 = 0) &&
  fld (tword t 8) 13 19 = 0 &&
  (List.range 4).all (fun q => !bit (tword t 8) q || fld (tword t 8) (4 + 2 * q) 2 ≠ 0) &&
  slotField (tword t 9) 7 && fld (tword t 9) 16 16 = 0

/-- R260: a threshold field of comparator k, signed for S1 channel 15. -/
def cmpField (k : Nat) (w : Word) (lo : Nat) : Int :=
  if k = 31 then ((w.extractLsb' lo 12).toInt) else fld w lo 12

/-- R260: the comparator table is legal. -/
def cmpOk (t : List Word) : Bool :=
  (List.range 32).all fun k =>
    let w := tword t k
    let lo := cmpField k w 0
    let hi := cmpField k w 12
    let hys : Int := fld w 24 4
    decide (lo ≤ hi) && (fld w 28 3 = 0 || decide (lo + hys ≤ hi - hys))

/-- R361: the resource table is legal. -/
def resOk (t : List Word) : Bool := t.all fun w => fld w 6 2 = 0 && fld w 16 16 = 0

/-- R272: the wake word is legal. -/
def wakeWordOk (w : Word) : Bool := fld w 0 2 ≠ 3 && fld w 6 26 = 0

/-! Check 8: sections (R383). -/

/-- R383: SLEN of a section type, by least and greatest; none where the type has no data.  A model segment above 12,288 words is
found at step 2 (R272: ERR 7), so only its end in the bank bounds it here. -/
def kindLen : Nat → Option (Nat × Nat)
  | 1 => some (1, 8192)
  | 2 | 3 => some (1, 4096)
  | 5 => some (1, 768)
  | 6 => some (96, 96)
  | 7 => some (12, 12)
  | 8 => some (18, 18)
  | 9 => some (10, 10)
  | 10 => some (32, 32)
  | 11 => some (256, 256)
  | 12 => some (1, 1)
  | 13 => some (1, bankLen)
  | _ => none

/-- R383: one section entry is well formed in a set of `n` words. -/
def sectionOk (n nsec : Nat) (x : Section) : Bool :=
  x.resv = 0 && x.eng < 26 &&
  if x.kind = 4 then x.eng ≠ 25
  else
    match kindLen x.kind with
    | none => false
    | some (lo, hi) =>
      lo ≤ x.slen && x.slen ≤ hi && 8 + 4 * nsec ≤ x.ofs && x.ofs + x.slen + 8 ≤ n &&
      (x.kind < 4 || x.eng = 0 || (x.kind = 13 && x.eng = 25))

/-- Two sections overlap in the set. -/
def dataOverlap (x y : Section) : Bool :=
  x.kind ≠ 4 && y.kind ≠ 4 && x.ofs < y.ofs + y.slen && y.ofs < x.ofs + x.slen
/-- R383: two sections overlap in one target memory; an engine has one delay window. -/
def targetOverlap (x y : Section) : Bool :=
  x.kind = y.kind && x.eng = y.eng &&
  (x.kind = 4 || ((x.kind < 4 || x.kind = 13) && x.tgt < y.tgt + y.slen && y.tgt < x.tgt + x.slen))

/-- No two members of a list are related. -/
def pairwiseNot {α : Type} (r : α → α → Bool) : List α → Bool
  | [] => true
  | x :: xs => xs.all (fun y => !r x y) && pairwiseNot r xs

/-- How many sections have the type. -/
def kindCount (xs : List Section) (k : Nat) : Nat := (xs.filter fun x => x.kind = k).length

/-- R383: check 8: the section table and the tables it carries. -/
def sectionsOk (ws : List Word) : Bool :=
  let xs := sections ws
  let we := setProvides ws 25
  xs.all (sectionOk ws.length (setNsec ws)) && pairwiseNot dataOverlap xs && pairwiseNot targetOverlap xs &&
  setProvides ws 24 && kindCount xs 5 ≤ 1 && (List.range 6).all (fun j => kindCount xs (6 + j) = 1) &&
  kindCount xs 12 = b2n we && (we || kindCount xs 13 = 0) &&
  procOk (kindData ws 6) && powerOk (kindData ws 7) && supOk (kindData ws 7) (kindData ws 8) && convOk (kindData ws 9) &&
  cmpOk (kindData ws 10) && resOk (kindData ws 11) && (!we || wakeWordOk (tword (kindData ws 12) 0))

/-- R383: checks 2-8 of a set for bank `i`: 0, or ERR of the first failure. -/
def setCheckFrom2 (s : State) (i : Nat) (len : Nat) (ws : List Word) : Nat :=
  let w (k : Nat) : Word := ws.getD k 0
  if bankLen < len || len < 16 + 4 * fld (rsGet s (bankBase i + 1)) 16 8 then 2
  else if rsErr s (bankBase i) len || crcWords (ws.take (len - 8)) 4 ≠ w 4 then 3
  else if !tagGood s [] (bit (w 1) 24) ws then 4
  else if fld (w 1) 0 8 ≠ i || fld (w 1) 25 7 ≠ 0 || setNsec ws = 0 || setWdog ws < 2 || fld (w 3) 16 16 ≠ 0 ||
      !(w 5 = 0 && w 6 = 0 && w 7 = 0) then 2
  else if fld (w 3) 0 8 &&& (255 - dieMap s.variant) ≠ 0 then 5
  else if fld (w 1) 8 8 ≠ 1 then 6
  else if !sectionsOk ws then 2
  else 0

/-- R383: step 1 of R129: 0, or ERR of the first failure. -/
def setCheck (s : State) (i : Nat) : Nat :=
  if h : i < 2 then
    if s.ret.bankEmpty[i] || rsGet s (bankBase i) ≠ 0xA55A1701 then 1
    else setCheckFrom2 s i (rsGet s (bankBase i + 2)).toNat (setWords s i)
  else 1

/-- R389, R383: the check of a written set; there a missing magic is ERR 2. -/
def setWriteCheck (s : State) (i : Nat) : Nat :=
  if rsGet s (bankBase i) ≠ 0xA55A1701 then 2
  else setCheckFrom2 s i (rsGet s (bankBase i + 2)).toNat (setWords s i)

/-! Step 2 (R129, R130): what a set places in an engine. -/

/-- R55: words of an engine's program memory. -/
def pmLen (e : Nat) : Nat := if e = 25 then 4096 else 8192

/-- R383: step 2 of engine `e`: 0, ERR 7 for a segment beyond its memory, ERR 8 for a window beyond the SRAM (R259). -/
def engLoadCheck (ws : List Word) (e : Nat) : Nat :=
  let xs := sections ws
  let beyond (x : Section) : Bool :=
    (x.kind = 1 && x.eng = e && pmLen e < x.tgt + x.slen) ||
    ((x.kind = 2 || x.kind = 3) && x.eng = e && 4096 < x.tgt + x.slen) ||
    (e = 25 && x.kind = 13 && 12288 < x.tgt + x.slen)
  if xs.any beyond then 7
  else if xs.any fun x => x.kind = 4 && x.eng = e && 0x1FFF80 < x.tgt + x.slen then 8
  else 0

/-- R130: one segment copied into an engine. -/
def placeSegment (ws : List Word) (x : Engine) (g : Section) : Engine :=
  let d := sectionData ws g
  match g.kind with
  | 1 => { x with pm := msetAll x.pmFill x.pm g.tgt d }
  | 2 => { x with x := msetAll 0 x.x g.tgt (d.map (·.setWidth 24)) }
  | 3 => { x with y := msetAll 0 x.y g.tgt (d.map (·.setWidth 24)) }
  | 4 => { x with winBase := g.tgt, winLen := g.slen }
  | _ => x

/-- R129, R130: engine `e` as step 2 leaves it: memories filled, segments copied, registers at R58, not started. -/
def loadedEngine (ws : List Word) (e : Nat) : Engine :=
  ((sections ws).filter fun g => g.eng = e && g.kind < 5).foldl (placeSegment ws)
    { ({} : Engine) with pmFill := 0x7FFFFFFF, run := .stopped }

/-- R272: the model memory as a set leaves it. -/
def loadedModel (ws : List Word) : Map Word :=
  ((sections ws).filter fun g => g.kind = 13).foldl (fun m g => msetAll 0 m g.tgt (sectionData ws g)) []

/-- R383: every engine that the set provides is among those loaded. -/
def allLoaded (ws : List Word) (loaded : List Nat) : Bool :=
  (List.range 26).all fun e => !setProvides ws e || loaded.contains e

end Sys2Proof.Machine
end

