-- ==== Sys2Proof/Machine/LoadOps.lean ====
section
/-!
DEFINITION. Loading, starting and stopping programs (R129-R133), as the resident program, a control program and the keeper do
it; and how the resident program serves the host queues (R370) and the set it loads by itself (R388, R301).
-/

namespace Sys2Proof.Machine

/-- R133: the load status word. -/
def loadStatus (s : State) : Word :=
  let l := s.core.load
  BitVec.ofNat 32 (l.step.toNat + 8 * l.engine.toNat + 256 * l.err.toNat)

/-- The load changed. -/
def modLoad (f : LoadSt → LoadSt) (s : State) : State := modCore s fun c => { c with load := f c.load }

/-- R133: an error: the load ends with its code. -/
def loadFails (err : Nat) (s : State) : State :=
  modLoad (fun l => { l with step := 6, err := BitVec.ofNat 4 err, loaded := [] }) s

/-- R129: a load is open: steps 1-3 are under way; a set that is loaded (step 4) leaves no load open (log 27). -/
def loadOpen (s : State) : Bool :=
  s.core.load.step = 1 || s.core.load.step = 2 || s.core.load.step = 3 || s.core.load.step = 7

/-- R18: the resident program runs on a core that runs frames. -/
def residentRuns (s : State) : Bool := s.arb.coreRun && s.core.prog == .resident

/-- R129, step 1: PLBEGIN; none where it is refused. -/
def plBegin (n : Nat) (s : State) : Option State :=
  if s.core.prog == .resident && !loadOpen s && !s.core.svStart then
    some (modCore s fun c => { c with load := { step := 1, set := BitVec.ofNat 8 n } })
  else none

/-- R129, R383: the check of step 1 ends. -/
def headerDone (s : State) : State :=
  if s.core.load.step = 1 then
    match setCheck s s.core.load.set.toNat with
    | 0 => modLoad (fun l => { l with step := 2 }) s
    | e => loadFails e s
  else s

/-- The engine of a number. -/
def engOf (e : Nat) : Eng := ⟨e % 26, Nat.mod_lt _ (by decide)⟩

/-- R131: engine `e` is running, or about to. -/
def engBusy (s : State) (e : Nat) : Bool :=
  let x := getEng s (engOf e)
  engRuns x || x.run == .starting || (e = 25 && s.wake.startNext)

/-- R129 step 2, R131: PLOAD; none where it is refused.  While one engine load runs in a control program another is refused:
the load status word has one ENGINE (log 12). -/
def pLoad (e : Nat) (s : State) : Option State :=
  let l := s.core.load
  if 26 ≤ e then none
  else if s.core.prog == .resident then
    if (l.step = 2 || l.step = 3) && setProvides (setWords s l.set.toNat) e && !l.loaded.contains e then
      let s1 := modLoad (fun l => { l with step := 7, engine := BitVec.ofNat 5 e }) s
      some (if e = 25 then stopWe s1 else s1)
    else none
  else if e ≠ 24 && l.step ≠ 7 && setProvides (setWords s s.core.runSet.toNat) e && !engBusy s e then
    some (modLoad (fun l => { l with step := 7, engine := BitVec.ofNat 5 e, err := 0 }) s)
  else none

/-- R129, R130, R58: what engine `e` is after its load.  SV goes on in its ROM while the resident program loads it: it issues
instructions, and its SYS requests stand. -/
def installed (ws : List Word) (e : Nat) (s : State) : Engine :=
  let x := loadedEngine ws e
  if e = 24 && s.core.prog == .resident then
    { x with run := (getEng s sv).run, waitfDone := (getEng s sv).waitfDone, sysq := (getEng s sv).sysq }
  else x

/-- R129, R130, R272: engine `e` takes what the set holds for it. -/
def installEngine (ws : List Word) (e : Nat) (s : State) : State :=
  let x := installed ws e s
  if e = 25 then
    updateClocks (modWake s fun w => { w with we := x, loaded := true, model := loadedModel ws, word := tword (kindData ws 12) 0 })
  else
    let s1 := setEng s (engOf e) x
    if s.arb.stbyUp then
      modMirror s1 fun m => { m with dirty := (List.range 512).foldl (fun d b => insNat (e * 512 + b) d) m.dirty }
    else s1

/-- R129 step 2, R131, R133: the engine load that runs ends. -/
def engineLoadDone (s : State) : State :=
  let l := s.core.load
  if l.step = 7 then
    let e := l.engine.toNat
    let res := s.core.prog == .resident
    let ws := setWords s (if res then l.set else s.core.runSet).toNat
    match engLoadCheck ws e with
    | 0 =>
      modLoad (fun l => if res then { l with step := 3, loaded := e :: l.loaded } else { l with step := 5 })
        (installEngine ws e s)
    | c => if res then loadFails c s else modLoad (fun l => { l with step := 6, err := BitVec.ofNat 4 c }) s
  else s

/-- R129 step 3: PLEND; none where it is refused.  A set without WE stops WE (R271). -/
def plEnd (s : State) : Option State :=
  let l := s.core.load
  let ws := setWords s l.set.toNat
  if s.core.prog == .resident && (l.step = 2 || l.step = 3) && allLoaded ws l.loaded then
    let s1 := modLoad (fun l => { l with step := 4 }) s
    some (if setProvides ws 25 then s1 else updateClocks (modWake (stopWe s1) fun w => { w with loaded := false }))
  else none

/-- R80: a loaded engine is started; it begins at PC 0 at step 4 of the next boundary. -/
def startEngine (x : Engine) : Engine := { x with pc := 0, run := .starting }

/-- R129 step 4, R80, R131: PSTART; none where it is refused. -/
def pStart (e : Nat) (s : State) : Option State :=
  if s.core.prog == .resident then
    if e = 24 && s.core.load.step = 4 && !s.core.svStart && s.core.play.isNone && programsAdmitted s then
      some (modCore s fun c => { c with svStart := true })
    else none
  else if e < 24 || e = 25 then
    if !(s.core.load.step = 7 && s.core.load.engine.toNat = e) && (getEng s (engOf e)).run == .stopped && setProvides (setWords s s.core.runSet.toNat) e &&
        !(e = 25 && (s.wake.startNext || !s.wake.loaded)) then
      some (if e = 25 then modWake s fun w => { w with startNext := true } else modEng s (engOf e) startEngine)
    else none
  else none

/-- R131: PSTOP; none where it is refused. -/
def pStop (e : Nat) (s : State) : Option State :=
  if s.core.prog == .control && (e < 24 || e = 25) then
    some (if e = 25 then stopWe s
          else modEng s (engOf e) fun x => if engRuns x || x.run == .starting then { x with run := .stopped } else x)
  else none

/-! The resident program (R36, R370, R388). -/

/-- R370: the resident program retires a command. -/
def residentRetire (e : CmdEnt) (rc : Byte) (reply : Word) (s : State) : State := deferDone e rc reply s

/-- R388: the set that the resident program starts by itself. -/
def startAuto (n : Nat) (s : State) : State :=
  match plBegin n s with
  | some t => modCore t fun c => { c with auto := some n, autoOn := true }
  | none => s

/-- R388, R301: the load by itself has ended without a start: the resident program runs on. -/
def autoFails (s : State) : State :=
  match s.core.auto with
  | some n =>
    raiseEv 13 (s.core.load.err.toNat + 16 * (n % 2)) (modCore s fun c => { c with auto := none, autoOn := false })
  | none => s

/-- R364, R370: the LOADSET that the resident program is serving ends. -/
def loadsetEnds (s : State) : State :=
  match s.hosts.loadCmd with
  | some id =>
    let s1 := modHosts s fun h => { h with loadCmd := none }
    match entOf s1 id with
    | some e => if s.core.load.step = 4 then residentRetire e 0 0 s1 else residentRetire e 0xF1 (loadStatus s1) s1
    | none => s1
  | none => s

/-- R129, R364, R388: what the resident program does next after a step of the load that it serves: the next engine, PLEND,
or the end of the load. -/
def residentNext (s : State) : State :=
  if residentRuns s && (s.core.autoOn || s.hosts.loadCmd.isSome) then
    let l := s.core.load
    if l.step = 2 || l.step = 3 then
      match (List.range 26).find? fun e => setProvides (setWords s l.set.toNat) e && !l.loaded.contains e with
      | some e => (pLoad e s).getD s
      | none => let t := (plEnd s).getD s
                if t.core.autoOn then (pStart 24 t).getD t else loadsetEnds t
    else if l.step = 6 then if s.core.autoOn then autoFails s else loadsetEnds s
    else if l.step = 4 && s.core.autoOn then (pStart 24 s).getD s
    else s
  else s

/-- R364, R370: the resident program serves one command; a step that SYS refuses it is an ignored item (R123, R375), and
while it loads a set by itself it takes no step for a host (log 37). -/
def residentServe (e : CmdEnt) (s : State) : State :=
  let w := e.words.getD 0 0
  match hdrOp w with
  | 0xE0 =>
    if !cmdHasArg e.words || s.core.autoOn then residentRetire e 0xF1 (loadStatus s) s
    else match plBegin (fld (cmdArg e.words) 0 8) s with
      | some t => modHosts t fun h => { h with loadCmd := some e.id, head := some e.id }
      | none => residentRetire e 0xF1 (loadStatus s) (ignoreCore 6 0x20 s)
  | 0xE1 =>
    if s.core.autoOn then residentRetire e 0xF1 (loadStatus s) s
    else match pStart 24 s with
      | some t => residentRetire e 0 0 t
      | none => residentRetire e 0xF1 (loadStatus s) (ignoreCore 6 0x23 s)
  | 0xE2 => residentRetire e 0 (loadStatus s) s
  | 0xF0 | 0xF1 => residentRetire e 0xF2 0 s
  | 0xF2 | 0xF3 => residentRetire e 0 0 s
  | _ => residentRetire e 0xF0 0 s

/-- R36, R369: the resident program serves the queues while no LOADSET runs, at most `n` commands. -/
def residentServeAll : Nat → State → State
  | 0, s => s
  | n + 1, s =>
    if residentRuns s && s.hosts.loadCmd.isNone && !s.core.svStart then
      match headEnt s with
      | some e => residentServeAll n (residentServe e s)
      | none => s
    else s

/-- R122, R370: the running program serves the command just admitted, when it has become the head and nothing else is
presented: the resident program by R370, a control program by the result code and reply of its own rule. -/
def serveNew (op : Nat) (rc : Byte) (reply : Word) (id : Nat) (s : State) : State :=
  match headEnt s with
  | some e =>
    if e.id = id && hdrOp (e.words.getD 0 0) = op && s.hosts.loadCmd.isNone then
      if residentRuns s then if s.core.svStart then s else residentServe e s
      else if controlRuns s then deferDone e rc reply s
      else s
    else s
  | none => s

end Sys2Proof.Machine
end

