-- ==== Sys2Proof/Machine/ConvOps.lean ====
section
/-!
DEFINITION. The converter die's audio side (R233-R252): gains, the headphone jack, PDM pairs and their clocks, MICPWR, level-only
and sample mode, the recording permit and the privacy mute.
-/

namespace Sys2Proof.Machine

/-! Converter table in force (R233). -/

/-- R233: input m is powered. -/
def inputOn (s : State) (m : Nat) : Bool := bit (tword s.core.tab.conv m) 8
/-- R233: CSLOT. -/
def cslot (s : State) : Nat := fld (tword s.core.tab.conv 9) 7 9
/-- R240: the headphone output may play. -/
def jackPlays (s : State) : Bool :=
  bit (tword s.core.tab.conv 9) 4 &&
  (s.conv.jclass = 3 || (s.conv.jclass = 4 && bit (tword s.core.tab.conv 9) 6))

/-! Gains (R234, R235). -/

/-- R234: the word is an ignored item: a reserved field, an illegal gain, or a gain for an input that is not powered. -/
def gainBad (s : State) (m : Nat) (w : BitVec 24) : Bool :=
  fld w 7 16 ≠ 0 || 120 < fld w 0 7 || (bit w 23 && !inputOn s m)

/-- R234: a gain command word is taken on. -/
def takeGain (m : Fin 8) (w : BitVec 24) (s : State) : State :=
  if gainBad s m w then ignoreCore 13 0 s
  else if bit w 23 then modConv s fun c => { c with gpend := vset c.gpend m (some (w.setWidth 7)) }
  else s

/-- R235, R167: a waiting gain applies in one step, and the input's DC removal starts from zero. -/
def applyGain (m : Fin 8) (s : State) : State :=
  match s.conv.gpend[m] with
  | some g =>
    modConv s fun c =>
      { c with gain := vset c.gain m g, gpend := vset c.gpend m none,
               filt := vmod c.filt (m.castLE (by omega)) fun x => { x with dc := [] } }
  | none => s

/-- R180, R233: line output k is enabled. -/
def loOn (s : State) (k : Nat) : Bool := bit (tword s.core.tab.conv 9) k

/-- R233, R244, R246, R180: the converter table of a program takes effect: gains, pairs, rates and the mode, in level-only mode
with the microphones on D48; a line output that `was` does not name among the enabled ones passes step 2 first. -/
def startConv (was : Nat → Bool) (s : State) : State :=
  let t := s.core.tab.conv
  let w := tword t 8
  let raw := s.core.prog == .control && bit w 12 && s.ret.lc = 3 && s.conv.permit ≠ 0
  let s0 := if raw then s else modFab s fun f => { f with indom := vmap f.indom fun i d => d && i.val < 8 }
  let s1 := modConv s0 fun c =>
    { c with gain := .ofFn fun i => (tword t i.val).setWidth 7, gpend := .replicate 8 none,
             pdmEn := .ofFn fun q => bit w q.val, rawMode := raw,
             filt := vmap c.filt fun i x => if i.val < 8 && (tword t i.val).setWidth 7 ≠ c.gain.toList.getD i.val 0 then { x with dc := [] } else x,
             loWait := .ofFn fun k => if loOn s k.val && !was k.val then 1440 else c.loWait[k] }
  updateClocks ((List.finRange 4).foldl
    (fun t q => if bit w q.val then setRate q (BitVec.ofNat 2 (fld w (4 + 2 * q.val) 2)) t else t) s1)

/-! Headphone jack (R239-R241). -/

/-- R240: the class changes and is reported. -/
def setJack (k : BitVec 3) (s : State) : State :=
  if s.conv.jclass = k then s
  else
    let s1 := raiseEv 41 k.toNat (modConv s fun c => { c with jclass := k })
    if k = 2 then raiseEv 42 2 s1 else s1

/-- R240: the class of one channel's load, in milliohms. -/
def loadClass (r : Nat) : Nat :=
  if r < 8000 then 2 else if r ≤ 1000000 then 3 else if r ≤ 50000000 then 4 else 5

/-- R239: DETPOL: the level of HP_DET that means a plug. -/
def detPol (s : State) : Bool := bit (tword s.core.tab.conv 9) 5

/-- R180, R181, R241: VO powers up: the quiet charge begins, and HP_DET that reads inserted is classified again. -/
def voUp (s : State) : State :=
  let s1 := modConv s fun c => { c with vo := .up1, voPos := 0, hpWait := 240, loWait := .replicate 4 0 }
  if s.conv.hpDet == detPol s then setJack 1 s1 else s1

/-- R241, R180: VO powers down: the class becomes 0. -/
def voDown (s : State) : State := setJack 0 (modConv s fun c => { c with vo := .rest, voPos := 0 })

/-! The quiet charge (R180). -/

/-- R180, R184: QCHG. -/
def qchg (c : Conv) : Nat :=
  match c.vo with
  | .rest | .up1 => 0
  | .up2 => 1
  | .up3 | .on => 2
  | .down3 | .down2 | .down1 => 3

/-- R180: the next step of the sequence, with the place on the ramp from which it goes; step 2, up to its operating value, and
step 1, down, end by their own command (QUIET_CHARGE_DONE). -/
def voNext : VoStep → VoStep × Nat
  | .up1 => (.up2, 0)
  | .up3 => (.on, 0)
  | .down3 => (.down2, 1440)
  | .down2 => (.down1, 0)
  | v => (v, 0)

/-- R180: `n` units of 1/240 ms pass in the step in force; what is left of them passes in the next. -/
def voOn (n : Nat) (c : Conv) : Conv :=
  let go (len : Nat) : Conv :=
    if c.voPos + n < len then { c with voPos := c.voPos + n }
    else
      let m := c.voPos + n - len
      let v := voNext c.vo
      { c with vo := v.1, voPos := if v.1 = .down2 then v.2 - m else v.2 + m }
  match c.vo with
  | .up1 => go 120
  | .up2 => { c with voPos := min 1440 (c.voPos + n) }
  | .up3 => go 48
  | .down3 => go 48
  | .down2 => if n < c.voPos then { c with voPos := c.voPos - n } else { c with vo := .down1, voPos := n - c.voPos }
  | .down1 => { c with voPos := min 120 (c.voPos + n) }
  | .rest | .on => c

/-- R180, R181: `n` 48 kHz periods pass at the line and headphone outputs. -/
def outputsPass (n : Nat) (s : State) : State :=
  modConv s fun c =>
    voOn (5 * n) { c with hpWait := c.hpWait - 5 * n, loWait := vmap c.loWait fun _ x => x - 5 * n }

/-- R180: the sequence runs down: from where it stands its steps run in reverse. -/
def voReverse (c : Conv) : Conv :=
  match c.vo with
  | .on => { c with vo := .down3, voPos := 0 }
  | .up3 => { c with vo := .down3, voPos := 48 - min 48 c.voPos }
  | .up2 => { c with vo := .down2 }
  | .up1 => { c with vo := .down1, voPos := 120 - min 120 c.voPos }
  | _ => c

/-- R180: VO is to run again while its reverse sequence runs, or after it. -/
def voTurns (c : Conv) : Conv :=
  match c.vo with
  | .down3 => { c with vo := .up3, voPos := 0 }
  | .down2 => { c with vo := .up2 }
  | .down1 | .rest => { c with vo := .up1, voPos := 0 }
  | _ => c

/-! Recording permit (R247, R248). -/

/-- R248: the permit has ended: a control program in sample mode ends at the next boundary. -/
def permitEnds (s : State) : State :=
  modConv s fun c => { c with permit := 0, permitEnd := c.permitEnd || (controlRuns s && c.rawMode) }

/-- R247: the permit is written by host A in MAINTENANCE. -/
def setPermit (v : BitVec 8) (s : State) : State :=
  if v = 0 then (if s.conv.permit = 0 then s else permitEnds s)
  else modTime (modConv s fun c => { c with permit := v }) fun t => { t with permSec := 0 }

/-- R247: a minute of the permit passes. -/
def permitMinute (s : State) : State :=
  if s.conv.permit = 0 then s
  else if s.conv.permit = 1 then permitEnds s
  else modConv s fun c => { c with permit := c.permit - 1 }

/-- R249, R250, R323: the level of PRIV_LED at its land. -/
def ledLevel (s : State) : Bool :=
  s.conv.privMute ||
  (if s.pm.kaHeld then s.pads.led else s.conv.rawMode && s.time.sub.toNat < 16384)

end Sys2Proof.Machine
end

