-- ==== Sys2Proof/Machine/Excite.lean ====
section
/-!
DEFINITION. What the line measurement unit plays and how it measures (R201, R210, R211, R216, R221, R222): the excitations and
their peaks, the night sweep's multitone, and what DFT bins of the bank S0 samples give.
-/

namespace Sys2Proof.Machine

/-! Levels (R186, R201, R216). -/

/-- R186: the rated line voltage of a mode, in mV. -/
def ratedMv (mode : BitVec 2) : Nat := match mode.toNat with | 0 => 100000 | 1 => 70700 | _ => 34600
/-- R186: the probe level of a mode, in mV rms. -/
def probeMv (mode : BitVec 2) : Nat := match mode.toNat with | 0 => 1000 | 1 => 710 | _ => 350
/-- R216: the pilot's level, in mV rms. -/
def pilotMv (mode : BitVec 2) (cont : Bool) : Nat :=
  match mode.toNat with
  | 0 => if cont then 316 else 3162
  | 1 => if cont then 224 else 2236
  | _ => if cont then 110 else 1095
/-- R216: what a pilot adds to the rail need, in 10 mV; the continuity level, 20 dB lower, a tenth of it (log 45). -/
def pilotPeak (mode : BitVec 2) (cont : Bool) : Nat :=
  match mode.toNat with
  | 0 => if cont then 46 else 461
  | 1 => if cont then 33 else 326
  | _ => if cont then 16 else 160
/-- R211: the allowance of the probe tone, its peak over 0.97, in 10 mV. -/
def probePeak (mode : BitVec 2) : Nat := match mode.toNat with | 0 => 146 | 1 => 104 | _ => 51
/-- R213: f_p of a pilot code, in Hz. -/
def pilotHz (pfreq : Nat) : Nat := 19500 + 20 * pfreq

/-! The multitone (R221). -/

/-- R221: bin `k`, at 375 k / 128 Hz, lies below 40 * 500 ^ (m / 94) Hz. -/
def binBelow (k : Nat) (m : Int) : Bool := (375 * k) ^ 94 * 500 ^ (-m).toNat < 5120 ^ 94 * 500 ^ m.toNat
/-- R221: bin `k` lies in band `i`. -/
def inBand (i k : Nat) : Bool := !binBelow k (2 * i - 1) && binBelow k (2 * i + 1)
/-- R221: bin `k` lies within 100 Hz of the pilot's frequency. -/
def nearPilot (pfreq k : Nat) : Bool := (375 * k : Int) - 128 * pilotHz pfreq ≤ 12800 && 128 * (pilotHz pfreq : Int) - 375 * k ≤ 12800
/-- R221: the excited bins of band `i`. -/
def excitedBins (pfreq i : Nat) : List Nat := (List.range 8192).filter fun k => inBand i k && !nearPilot pfreq k

/-- R221: the level of band `i`, squared, under a sweep word: S = 40 + SENS, d = DIST / 2 m, TAP / 4 W. -/
def bandRaw (w : Word) (i : Nat) : BandLevel :=
  { num := fld w 14 7 ^ 2, den := fld w 7 7, e := Config.hearing i - 10 * (fld w 21 4 + 40 + fld w 0 7) }
/-- R221: a level exceeds -40 dB. -/
def aboveCap (x : BandLevel) : Bool := x.den ^ 100 * 10 ^ (-x.e - 400).toNat < x.num ^ 100 * 10 ^ (x.e + 400).toNat
/-- R221: the level of band `i`, which does not exceed -40 dB. -/
def bandLevel (w : Word) (i : Nat) : BandLevel := if aboveCap (bandRaw w i) then { num := 1, den := 10000, e := 0 } else bandRaw w i

/-- R221: the excited bins of every band, with their levels and phases. -/
def sweepLines (bridge pfreq : Nat) (w : Word) : List SweepLine :=
  (List.range 48).flatMap fun i =>
    let ks := excitedBins pfreq i
    ks.map fun k => { bin := k, level := bandLevel w i, share := ks.length, phase := Config.prs bridge k }

/-- R201, R216, R221: what an excitation plays. -/
def signalOf : Excite → Signal
  | .pilot pfreq mode cont => .sine (pilotHz pfreq) (pilotMv mode cont)
  | .sweep b pfreq w mode => .multitone (ratedMv mode) (sweepLines b pfreq w)
  | .probe mode => .sine 1000 (probeMv mode)

/-- R211: what an excitation adds to the rail need, in 10 mV. -/
def excitePeak : Excite → Nat
  | .pilot _ mode cont => pilotPeak mode cont
  | .sweep b pfreq w mode => Config.multitonePeak (signalOf (.sweep b pfreq w mode))
  | .probe mode => probePeak mode

/-- R211: what the excitations of a bridge add to its need. -/
def playingPeak (xs : List Playing) : Nat := (xs.map fun p => excitePeak p.x).sum

/-- R211: the excitations' voltage in mV, `i` switching periods after the frame began. -/
def playingWave (xs : List Playing) (i : Nat) : Int :=
  (xs.map fun p => Config.wave (signalOf p.x) (16 * p.age + i) (p.out.map fun o => 16 * o + i)).sum

/-- R211: excitations after `n` 48 kHz periods, `now` being the one to play: what stops ramps out over 1 ms, and what starts
begins there. -/
def playOnwards (n : Nat) (now : Option Excite) (xs : List Playing) : List Playing :=
  let aged := xs.map fun p => { p with age := p.age + n, out := p.out.map (· + n) }
  let kept := (aged.filter fun p => p.out.all (· < 48)).map fun p =>
    if p.out.isNone && now ≠ some p.x then { p with out := some 0 } else p
  match now with
  | some x => if kept.any fun p => p.x = x && p.out.isNone then kept else kept ++ [{ x := x }]
  | none => kept

/-! Complex bins (R201, R210, R216, R217, R225). -/

/-- The squared magnitude of a bin. -/
def mag2 (z : Int × Int) : Nat := z.1.natAbs ^ 2 + z.2.natAbs ^ 2

/-- R210: the line current I_L = I_S - j 2 pi f C_F V. -/
def lineCurrent (f : Tone) (cf : Nat) (v i : Int × Int) : Int × Int :=
  (i.1 + Config.reactive f cf v.2, i.2 - Config.reactive f cf v.1)

/-- The sum of two bins. -/
def cAdd (x y : Int × Int) : Int × Int := (x.1 + y.1, x.2 + y.2)

/-- The square root of a fraction as a whole number, at most `cap`; where it is none, which neighbour is taken is free (`up`). -/
def rootOf (up : Bool) (cap num den : Nat) : Nat :=
  if den = 0 then cap
  else
    let r := Nat.sqrt (num / den)
    min cap (if r ^ 2 * den = num then r else r + b2n up)

/-- R210, R254: |Z| in units of 1/u Ohm of a voltage and a current in the codes of bank S0, 8 Ohm to one. -/
def ohms (up : Bool) (cap u : Nat) (v i : Int × Int) : Nat := rootOf up cap ((8 * u) ^ 2 * mag2 v) (mag2 i)

/-- R254: |Z| is below n / u Ohm. -/
def zBelow (u n : Nat) (v i : Int × Int) : Bool := (8 * u) ^ 2 * mag2 v < n ^ 2 * mag2 i
/-- R254: |Z| is above n / u Ohm. -/
def zAbove (u n : Nat) (v i : Int × Int) : Bool := n ^ 2 * mag2 i < (8 * u) ^ 2 * mag2 v

/-- R216: |V| is at least half the amplitude of a sine of `mv` rms; a code is 200 V / 32768, a bin's unit 1/256 code. -/
def halfAmplitude (mv : Nat) (v : Int × Int) : Bool := 256 ^ 2 * 2 * mv ^ 2 * 32768 ^ 2 ≤ 4 * mag2 v * 200000 ^ 2

/-! Bands (R222, R226, R228). -/

/-- R222: what a sweep gives on one bin over the periods kept: the sums of V and of I_L, and the noise of the mean of I_L. -/
structure BinSum where
  v : Int × Int
  i : Int × Int
  noise : Nat

/-- R222, R210: a bin over the periods kept. -/
def binSum (cf : Nat) (ps : List EndMeas) (k : Nat) : BinSum :=
  let vs := ps.map fun p => Config.dft (.bin k) p.v
  let is := ps.map fun p => lineCurrent (.bin k) cf (Config.dft (.bin k) p.v) (Config.dft (.bin k) p.i)
  { v := vs.foldl cAdd (0, 0), i := is.foldl cAdd (0, 0), noise := Config.noise is }

/-- R222: the estimate of a band from its excited bins over `n` periods: valid when the power of the mean current is at least
20 dB above its noise; one without current is not (log 45). -/
def estimate (n : Nat) (xs : List BinSum) : Band :=
  let den := (xs.map fun x => mag2 x.i).sum
  { valid := den ≠ 0 && 100 * n ^ 2 * (xs.map (·.noise)).sum ≤ den
    re := (xs.map fun x => x.v.1 * x.i.1 + x.v.2 * x.i.2).sum
    im := (xs.map fun x => x.v.2 * x.i.1 - x.v.1 * x.i.2).sum
    den := den }

/-- R222: the 48 estimates of a direction. -/
def estimates (cf pfreq : Nat) (ps : List EndMeas) : List Band :=
  (List.range 48).map fun i => estimate ps.length ((excitedBins pfreq i).map (binSum cf ps))

/-- R228: |Z| of a band in 1/256 dB re 1 Ohm, within the field, whose least value marks a band that is not valid. -/
def bandMag (x : Band) : BitVec 16 :=
  BitVec.ofInt 16 (max (-32767) (min 32767 (Config.decibel (64 * (x.re.natAbs ^ 2 + x.im.natAbs ^ 2)) (x.den ^ 2))))
/-- R228: the phase of Z. -/
def bandPhase (x : Band) : BitVec 16 := Config.angle x.re x.im
/-- R226: Re(1/Z) in units of 10 uS. -/
def bandG (x : Band) : Rat := (100000 * x.den * x.re : Int) / (8 * (x.re ^ 2 + x.im ^ 2) : Int)

/-- R63: a fraction rounded convergently. -/
def rndRat (x : Rat) : Int := rndDiv x.num x.den

end Sys2Proof.Machine
end

