-- ==== Sys2Proof/Machine/PowerOps.lean ====
section
/-!
DEFINITION. The power stage (R185-R206): rail needs and targets, bridge states and their changes, overcurrent, SHORT and the
probe, clock-error mute, thermal and boost protection.
-/

namespace Sys2Proof.Machine

/-! The power table in force (R189). -/

/-- R189: the word of bridge b. -/
def brWord (s : State) (b : Nat) : Word := tword s.core.tab.power b
/-- R189: the word of power die n. -/
def dieWord (s : State) (n : Nat) : Word := tword s.core.tab.power (8 + n)
/-- R189: RSLOT. -/
def rslot (s : State) (b : Nat) : Nat := fld (brWord s b) 0 9
/-- R188: the bridges that the SHORT state acts on with b: itself, and the other end of its loop. -/
def ends (s : State) (b : Fin 8) : List (Fin 8) := if isLoop s b.val then [b, mate b] else [b]

/-- R307: power die n is powered. -/
def dieOn (s : State) (d : Nat) : Bool := dieFitted s d && domOn s (12 + d)
/-- A bridge whose die is powered. -/
def brUp (s : State) (b : Fin 8) : Bool := dieOn s (b.val / 2)

/-- R186: rail maximum of a mode, in 10 mV. -/
def railMax (mode : BitVec 2) : Nat := match mode.toNat with | 0 => 16000 | 1 => 11600 | _ => 5600
/-- R186: Z_SHORT of a mode, in Ohm. -/
def zShort (mode : BitVec 2) : Nat := match mode.toNat with | 0 => 16 | 1 => 8 | _ => 2
/-- R186: VFS of a mode in 0.1 V. -/
def vfs (mode : BitVec 2) : Nat := match mode.toNat with | 0 => 1414 | 1 => 1000 | _ => 490
/-- R197: the bridge contributes to the rail. -/
def contributes (x : Bridge) : Bool := x.st = 1 || x.st = 2 || x.st = 3 || x.st = 5
/-- R197: the bridge is running: its switches are not both low-side on. -/
def brActive (x : Bridge) : Bool := contributes x

/-! Excitations (R211). -/

/-- R209: the line that bridge b drives, by its end A. -/
def lineOf (s : State) (b : Fin 8) : Fin 8 := if isLoop s b.val && b.val % 2 = 1 then mate b else b
/-- R212: an end drives its line: its switches are not off for a measurement, and none of steps 1 and 2 is left. -/
def endDrives (x : Bridge) : Bool := !x.held && x.rejoin = 0
/-- R217: both ends of a loop drive. -/
def bothDrive (s : State) (b : Fin 8) : Bool := isLoop s b.val && endDrives s.bridges[b] && endDrives s.bridges[mate b]
/-- R217: the window in progress on line a is a continuity window. -/
def contNow (s : State) (a : Fin 8) : Bool :=
  let l := s.lmu.line[a]
  (l.lmode = 1 || l.lmode = 2) && bothDrive s a && l.nextCont
/-- R216, R225: the line's command plays the pilot now. -/
def pilotMode (l : Line) : Bool := l.lmode = 1 || l.lmode = 2 || (l.lmode = 4 && !l.sweepWait && l.sweepDir = 0) || l.lmode = 5

/-- R211, R212, R216, R217, R223: the excitation that bridge b is to play. -/
def exciting (s : State) (b : Fin 8) : Option Excite :=
  let x := s.bridges[b]
  let a := lineOf s b
  let l := s.lmu.line[a]
  let pf := fld (tword s.core.tab.sup a.val) 0 8
  if x.st = 5 then (if x.tone then some (.probe x.mode) else none)
  else if !(s.arb.coreRun && x.st = 2 && endDrives x) then none
  else if pilotMode l then
    if contNow s a then (if b = a then some (.pilot pf x.mode true) else none) else some (.pilot pf x.mode false)
  else if l.sweepDir ≠ 0 && l.hand = 0 then some (.sweep b.val pf (tword s.core.tab.sup (8 + a.val)) x.mode)
  else none

/-- R211: the excitations of a bridge after `n` 48 kHz periods. -/
def tonesOn (n : Nat) (s : State) : State :=
  { s with bridges := vmap s.bridges fun b x =>
      if x.st = 2 || x.st = 5 then { x with exc := playOnwards n (exciting s b) x.exc } else { x with exc := [] } }

/-! The rail target (R190). -/

/-- R190, R201, R211: a need that a bridge's words give, with what its excitations add; a bridge in PROBE needs these alone. -/
def withExc (x : Bridge) (need : Nat) : Nat := (if x.st = 5 then 0 else need) + playingPeak x.exc

/-- R190, R191: the need of a bridge at the instant at which the frame in play began. -/
def brNeed (x : Bridge) : Nat := withExc x (x.needs.headD x.need).toNat

/-- R190: the bridges of die d that contribute. -/
def contributors (s : State) (d : Fin 4) : List Bridge := ((s.bridges.toList.drop (2 * d.val)).take 2).filter contributes

/-- R190, R195: the rail target of power die d, in units of 1/u of 10 mV, from the needs `ns` of its contributors; while the guard
acts it is the rail maximum. -/
def targetOf (u : Nat) (s : State) (d : Fin 4) (ns : List Nat) : Nat :=
  let xs := contributors s d
  let top := u * xs.foldl (fun m x => min m (railMax x.mode)) 16000
  if xs.isEmpty then u * 1200
  else if (s.dies[d]).guardOn then top
  else min top (ns.foldl max (u * 1200))

/-- R190, R195: the rail target of power die d, in 10 mV. -/
def railTarget (s : State) (d : Fin 4) : Nat := targetOf 1 s d ((contributors s d).map brNeed)

/-- R190, R202, R205: the targets follow; a die whose boost has stopped or whose M clock is not valid holds its last target. -/
def updateRails (s : State) : State :=
  { s with dies := vmap s.dies fun d x => if x.bfault || !x.modOk then x else { x with target := railTarget s d } }

/-! State changes (R198). -/

/-- R204, R205, R438: die d keeps its bridges in the low-side-on state. -/
def dieHeldOff (s : State) (d : Fin 4) : Bool :=
  let x := s.dies[d]
  x.tshut || x.bfault || x.bdead || s.tap.extest

/-- R198: start-ready. -/
def startReady (s : State) (b : Fin 8) : Bool :=
  brUp s b && (s.dies[dieOf b]).modOk && !dieHeldOff s (dieOf b) && rslot s b.val ≠ 0

/-- R197: a bridge enters a state; nothing of the start, the probe or the measurement that it was in goes on. -/
def enterState (st : BitVec 4) (x : Bridge) : Bridge :=
  { x with st := st, fade := false, tone := false, held := false, rejoin := 0, exc := [], mod := [] }
/-- R206: a committed mode that waited for a start or a probe is in force. -/
def takeMode (x : Bridge) : Bridge := { x with mode := x.modeNext.getD x.mode, modeNext := none }
/-- R182: a bridge begins its soft-start. -/
def beginSoft (x : Bridge) : Bridge := { enterState 1 (takeMode x) with ssAge := 0 }
/-- R201: a bridge begins its probe; `off` is the end of a loop pair that waits with its four switches off. -/
def beginProbe (off : Bool) (x : Bridge) : Bridge :=
  { enterState 5 (takeMode x) with ssAge := 0, held := off, cooled := false, probeTrip := false, probeOk := false }
/-- R198: RUN = 0 stops a bridge. -/
def beginStop (x : Bridge) : Bridge := { x with st := 3, held := false, rejoin := 0 }
/-- R198: a bridge may leave SHORT for PROBE. -/
def probeMay (s : State) (b : Fin 8) : Bool :=
  let x := s.bridges[b]
  x.st = 4 && x.cooled && x.runBit && startReady s b

/-- R198: the state that a bridge takes now, by the conditions that hold; a loop pair probes only together, end A first (R201). -/
def brNext (s : State) (b : Fin 8) (x : Bridge) : Bridge :=
  let off := lineOf s b ≠ b
  match x.st.toNat with
  | 0 => if x.startReq && startReady s b then beginSoft x else x
  | 1 => if x.runBit then x else beginStop x
  | 2 => if x.runBit then x else beginStop x
  | 4 => if (ends s b).all (probeMay s) then beginProbe off x else x
  | 6 => if (ends s b).all fun e => (s.bridges[e]).startReq && startReady s e then beginProbe off { x with prbFail := 0 } else x
  | _ => x

/-- R198: every bridge takes its state. -/
def settleBridges (s : State) : State := updateRails { s with bridges := vmap s.bridges (brNext s) }

/-- R198: CLKMUTE and DIEOFF end: SOFTSTART when RUN = 1, otherwise OFF. -/
def brResume (x : Bridge) : Bridge := if x.runBit then beginSoft x else enterState 0 x

/-! Rail-need blocks (R191). -/

/-- R191: needs of a block, an invalid word holding the one before. -/
def needsOf : BitVec 14 → List (BitVec 24) → List (BitVec 14)
  | _, [] => []
  | n, w :: ws => let m := if bit w 23 then w.setWidth 14 else n
                  m :: needsOf m ws

/-- R191: RUN taken from sample 0. -/
def takeRun (run : Bool) (x : Bridge) : Bridge :=
  { x with runBit := run, startReq := run && (x.startReq || !x.runBit) }

/-- R191: bridge b takes on a block. -/
def takeNeeds (b : Fin 8) (ws : List (BitVec 24)) (s : State) : State :=
  let w0 := ws.getD 0 0
  modBridge s b fun x =>
    let ns := needsOf x.need ws
    let y := { x with needs := ns, need := ns.getLastD x.need }
    if bit w0 23 then takeRun (bit w0 22) y else y

/-! SHORT (R199-R201). -/

/-- R199: a bridge enters SHORT: its cool-down begins. -/
def enterShort (x : Bridge) : Bridge := { enterState 4 x with shortSeen := true, cooled := false, blank := false }

/-- R199: of trips, those no more than 950 us before the instant `t`, in ns. -/
def recentTrips (t : Nat) (win : List Nat) : List Nat := win.filter fun u => u ≤ t && t - u ≤ 950000
/-- R199: trips of the last 950 us, this one at instant `t` included, in ns. -/
def tripWin (t : Nat) (win : List Nat) : List Nat := t :: recentTrips t win

/-- R199, R400: the bridge-short event of a bridge. -/
def shortEvent (b : Fin 8) (s : State) : State :=
  raiseEv 80 (b.val + 8 * min 63 (s.bridges[b]).win.length) s

/-- R199, R206: one trip of a bridge at instant `t`, in ns; a count that it exceeds in the switching period of a clock-error mute
still enters SHORT. -/
def trip (b : Fin 8) (t : Nat) (s : State) : State :=
  let x := s.bridges[b]
  if brUp s b && (contributes x || x.st = 7) then
    let win := tripWin t x.win
    let s1 := modBridge s b fun x =>
      { x with win := win, trips := sat8 x.trips, blank := x.st ≠ 7, probeTrip := x.probeTrip || x.tone }
    if fld (brWord s b.val) 15 6 < win.length && x.st ≠ 5 then
      let es := ends s b
      let s2 := es.foldl (fun u e => modBridge u e fun y => enterShort { y with win := recentTrips t y.win }) s1
      updateRails (es.foldl (fun t e => shortEvent e t) s2)
    else raiseLimited 81 b.val b.val none s1
  else s

/-- R201: the cool-down of a bridge, or of a loop pair, is complete. -/
def cooldownEnd (b : Fin 8) (s : State) : State :=
  if (s.bridges[b]).st = 4 then
    settleBridges ((ends s b).foldl (fun t e => modBridge t e fun x => { x with cooled := true }) s)
  else s

/-- R198, R201: what a passed probe does to one bridge. -/
def probePassed (auto : Bool) (x : Bridge) : Bridge :=
  if auto then { enterState 1 x with fade := true, sgain := 0, prbFail := 0 }
  else { enterState 0 x with startReq := false, prbFail := 0 }

/-- R198, R201: what a failed probe does to one bridge. -/
def probeFailed (max n : Nat) (x : Bridge) : Bridge :=
  if max = 0 || n < max then { enterState 4 x with shortSeen := true, cooled := false, prbFail := min 3 n }
  else { enterState 6 x with startReq := false, prbFail := min 3 n }

/-- R201: |Z| at 1 kHz of the samples of a tone is at least Z_SHORT. -/
def probeClear (mode : BitVec 2) (m : EndMeas) : Bool :=
  !zBelow 1 (zShort mode) (Config.dft .probe m.v) (Config.dft .probe m.i)
/-- R201, R208: |Z| at 1 kHz in Ohm, saturating at 255. -/
def probeOhms (up : Bool) (m : EndMeas) : BitVec 8 :=
  BitVec.ofNat 8 (ohms up 255 1 (Config.dft .probe m.v) (Config.dft .probe m.i))

/-- R201: the tone at one end has ended, and its result is known. -/
def probeTake (up : Bool) (m : EndMeas) (x : Bridge) : Bridge :=
  { x with probeZ := probeOhms up m, probeOk := probeClear x.mode m && !x.probeTrip, tone := false }

/-- R198, R201: the probe of bridge b, or of its loop pair, is complete. -/
def probeVerdict (b : Fin 8) (s : State) : State :=
  let w := brWord s b.val
  let es := ends s b
  if es.all fun e => (s.bridges[e]).probeOk then
    let s2 := es.foldl (fun t e => modBridge t e (probePassed (bit w 29))) s
    settleBridges (es.foldl (fun t e => raiseEv 82 (e.val + 8 * (s.bridges[e]).probeZ.toNat) t) s2)
  else
    let n := (s.bridges[b]).prbFail + 1
    let mx := fld w 27 2
    let s2 := es.foldl (fun t e => modBridge t e (probeFailed mx n)) s
    let s3 := if mx ≠ 0 && mx ≤ n then
        es.foldl (fun t e => raiseEv 83 (e.val + 8 * (s.bridges[e]).probeZ.toNat) t) s2
      else s2
    updateRails s3

/-- R201: the probe tone ends, `m` being the samples of its end.  A loop pair is probed from each end in turn, with the other
end's four switches off: end B begins steps 1 and 2 when end A has been probed (log 47). -/
def probeEnd (b : Fin 8) (m : EndMeas) (s : State) : State :=
  let x := s.bridges[b]
  if brUp s b && x.st = 5 && x.tone then
    let s1 := freeTaken (modBridge s b (probeTake (bit (freeVal s) 0) m))
    if isLoop s b.val && b.val % 2 = 0 then
      updateRails (modBridge (modBridge s1 b fun y => { y with held := true, exc := [] }) (mate b) fun y =>
        { y with held := false, ssAge := 0, tone := false, probeTrip := false })
    else probeVerdict b s1
  else s

/-! Clock-error mute (R202, R206). -/

/-- R198, R208: the clock-error mute acts on a bridge; one in PROBE enters SHORT by it. -/
def muteBridge (x : Bridge) : Bridge :=
  if x.st = 1 || x.st = 2 || x.st = 3 then { enterState 7 x with clkSeen := true }
  else if x.st = 5 then { enterState 4 x with cooled := true, shortSeen := true, clkSeen := true }
  else x

/-- The bridges of a die changed. -/
def modDieBridges (d : Fin 4) (f : Bridge → Bridge) (s : State) : State :=
  { s with bridges := vmap s.bridges fun b x => if b.val / 2 = d.val then f x else x }

/-- R202, R40: die d declares the clock-error mute, which its clock monitor reports too; the boost holds its last target. -/
def clockMute (d : Fin 4) (s : State) : State :=
  if dieOn s d.val then
    let t := (s.dies[d]).target
    let s1 := modDieBridges d muteBridge (modDie s d fun x => { x with modOk := false })
    raiseEv 84 d.val (raiseEv 3 (9 + d.val) <| modDie s1 d fun x => { x with target := t })
  else s

/-- R46, R202: every powered die loses its link words. -/
def linksDown (s : State) : State := (List.finRange 4).foldl (fun t d => clockMute d t) s

/-- R198: the clock of die d has been valid for 10 ms; bridges leave CLKMUTE, and DIEOFF once its cause has cleared. -/
def clockValid (d : Fin 4) (s : State) : State :=
  if dieOn s d.val && s.arb.coreRun then
    let out (y : Bridge) : Bridge := if y.st = 7 || (y.st = 8 && !dieHeldOff s d) then brResume y else y
    settleBridges (modDieBridges d out (modDie s d fun x => { x with modOk := true }))
  else s

/-! Thermal (R204, R176) and boost (R205). -/

/-- R198, R206: a bridge goes to DIEOFF; SHORT and LOCKOUT are kept. -/
def toDieOff (x : Bridge) : Bridge :=
  if x.st = 4 || x.st = 6 then x else enterState 8 x

/-- R198: DIEOFF ends for the bridges of a die whose causes have cleared with its clock valid. -/
def leaveDieOff (d : Fin 4) (s : State) : State :=
  if (s.dies[d]).modOk && !dieHeldOff s d then
    settleBridges (modDieBridges d (fun y => if y.st = 8 then brResume y else y) s)
  else s

/-- R176: the step whose threshold Tj has reached; TJ is the temperature plus 64. -/
def stepOf (tj : BitVec 8) : Nat :=
  let t := tj.toNat
  if 211 ≤ t then 4 else if 207 ≤ t then 3 else if 203 ≤ t then 2 else if 199 ≤ t then 1 else 0

/-- R400: the thermal event of die d. -/
def thermalEvent (d : Fin 4) (s : State) : State :=
  let x := s.dies[d]
  raiseEv 85 (d.val + 4 * x.tstep + 32 * b2n x.twarn + 64 * b2n x.tshut + 128 * x.tj.toNat) s

/-- R204, R176: Tj has risen to a threshold. -/
def thermalRise (d : Fin 4) (tj : BitVec 8) (s : State) : State :=
  if dieOn s d.val then
    let x := s.dies[d]
    let y : Die := { x with tj := tj, twarn := x.twarn || 189 ≤ tj.toNat, tstep := max x.tstep (stepOf tj),
                            tshut := x.tshut || 214 ≤ tj.toNat }
    let s1 := modDie s d fun _ => y
    let s2 := if y.tshut && !x.tshut then updateRails (modDieBridges d toDieOff s1) else s1
    if y.twarn ≠ x.twarn || y.tstep ≠ x.tstep || y.tshut ≠ x.tshut then thermalEvent d s2 else s2
  else s

/-- R176: Tj has stayed below the fall threshold of the step for 1 s. -/
def thermalFall (d : Fin 4) (tj : BitVec 8) (s : State) : State :=
  let x := s.dies[d]
  if dieOn s d.val && 0 < x.tstep && tj.toNat < 190 + 4 * x.tstep then
    thermalEvent d (modDie s d fun x => { x with tj := tj, tstep := x.tstep - 1 })
  else s

/-- R204: Tj has stayed below 130 degrees for 1 s. -/
def thermalClear (d : Fin 4) (tj : BitVec 8) (s : State) : State :=
  let x := s.dies[d]
  if dieOn s d.val && x.tshut && tj.toNat < 194 then
    leaveDieOff d (modDie s d fun x => { x with tj := tj, tshut := false })
  else s

/-- R204: Tj has fallen below 120 degrees. -/
def twarnClear (d : Fin 4) (tj : BitVec 8) (s : State) : State :=
  let x := s.dies[d]
  if dieOn s d.val && x.twarn && tj.toNat < 184 then modDie s d fun x => { x with tj := tj, twarn := false } else s

/-- R205: a boost fault at instant `t`, in ms. -/
def boostFault (d : Fin 4) (t : Nat) (s : State) : State :=
  let x := s.dies[d]
  if dieOn s d.val && !x.bfault then
    let win := t :: x.bwin.filter fun u => u ≤ t && t - u ≤ 60000
    let s1 := modDie s d fun x => { x with bfault := true, bwin := win, bdead := x.bdead || 3 ≤ win.length }
    raiseEv 87 (d.val + 4 * min 3 win.length) (modDieBridges d toDieOff s1)
  else s

/-- R205: the boost restarts at 12 V, unless it stays stopped. -/
def boostRestart (d : Fin 4) (s : State) : State :=
  let x := s.dies[d]
  if dieOn s d.val && x.bfault && !x.bdead then
    leaveDieOff d (modDie s d fun x => { x with bfault := false, target := 1200, traj := 4800 * 1200 })
  else s

/-! Boundary scan (R438). -/

/-- R438: the TAP takes an instruction: EXTEST holds every bridge in the low-side-on state, as in DIEOFF, until it ends. -/
def setTap (t : Tap) (s : State) : State :=
  let s1 := { s with tap := t }
  if t.extest && !s.tap.extest then
    updateRails ((List.finRange 4).foldl (fun u d => if dieOn u d.val then modDieBridges d toDieOff u else u) s1)
  else if s.tap.extest && !t.extest then (List.finRange 4).foldl (fun u d => leaveDieOff d u) s1
  else s1

/-! The rail guard (R195). -/

/-- R195: 100 ms have passed without a further limit. -/
def guardEnd (d : Fin 4) (s : State) : State :=
  if (s.dies[d]).guardOn then updateRails (modDie s d fun x => { x with guardOn := false }) else s

/-! Power-up and power-down of a die (R307, R206). -/

/-- R307: a power die powers up: SHORT is kept with its cool-down complete, LOCKOUT is kept, every other bridge is OFF. -/
def dieUp (d : Fin 4) (s : State) : State :=
  let up (x : Bridge) : Bridge :=
    let keep (st : BitVec 4) : Bridge :=
      { enterState st x with startReq := false, runBit := false, needs := [], need := 0, blank := false, win := [], probeTrip := false }
    if x.st = 4 || x.st = 5 then { keep 4 with cooled := true } else if x.st = 6 then keep 6 else keep 0
  modDieBridges d up (modDie s d fun x =>
    { x with tstep := 0, twarn := false, tshut := false, ilimIn := false, guardOn := false, bfault := false, bwin := [],
             bdead := false, target := 1200, traj := 4800 * 1200, modOk := false })

/-- R307, R206: a power die powers down. -/
def dieDown (d : Fin 4) (s : State) : State :=
  modDieBridges d (fun x => if x.st = 4 || x.st = 6 then x else if x.st = 5 then enterState 4 x else enterState 0 x)
    (modDie s d fun x => { x with modOk := false, vrail := 0, target := 0, traj := 0, guardOn := false, tstep := 0 })

/-- R319: a power die that its DAWN step leaves off: its bridges are DIEOFF. -/
def dieFailed (d : Fin 4) (s : State) : State := modDieBridges d toDieOff s

/-! Modes (R186) and tables. -/

/-- R186, R189: the power table in force sets the modes, and a bridge whose RSLOT is 0 is not to run. -/
def startPower (s : State) : State :=
  settleBridges { s with
    bridges := vmap s.bridges fun b x =>
      let never := rslot s b.val = 0
      { x with mode := BitVec.ofNat 2 (fld (dieWord s (b.val / 2)) (16 + 2 * (b.val % 2)) 2), modeNext := none,
               runBit := x.runBit && !never, startReq := x.startReq && !never } }

/-- R126, R186: a committed output mode; a loop pair changes both ends.  It waits for the next probe or start of a bridge that is
in neither RUN nor the low-side-on state (R206). -/
def setMode (b : Fin 8) (m : BitVec 2) (s : State) : State :=
  updateRails ((ends s b).foldl (fun t e => modBridge t e fun x =>
    if contributes x && x.st ≠ 2 then { x with modeNext := some m } else { x with mode := m, modeNext := none }) s)

/-- R182, R201, R212: the starts of a bridge go on by the `n` periods of a frame: step 3 of a soft-start, or the tone of a probe,
begins 2.0 ms after it began. -/
def softOn (n : Nat) (x : Bridge) : Bridge :=
  if x.st = 1 then
    { x with ssAge := x.ssAge + n, fade := x.fade || 96 ≤ x.ssAge + n, sgain := if x.fade then min 480 (x.sgain + n) else 0 }
  else if x.st = 5 && !x.held then { x with ssAge := x.ssAge + n, tone := 96 ≤ x.ssAge + n }
  else { x with rejoin := x.rejoin - n }

/-- R182: the bridges' starts go on. -/
def growSoft (n : Nat) (s : State) : State := { s with bridges := vmap s.bridges fun _ x => softOn n x }

end Sys2Proof.Machine
end

