-- ==== Sys2Proof/Machine/LineOps.lean ====
section
/-!
DEFINITION. Line supervision (R209-R232): supervision commands, pilot windows and their verdicts, the sweep, break
localisation, line records and the earth test.
-/

namespace Sys2Proof.Machine

/-! The supervision table in force (R213). -/

/-- R213: the pilot word of bridge b. -/
def pilotWord (s : State) (b : Nat) : Word := tword s.core.tab.sup b
/-- R213: the sweep word of bridge b. -/
def sweepWord (s : State) (b : Nat) : Word := tword s.core.tab.sup (8 + b)
/-- R213: the general word. -/
def supGeneral (s : State) : Word := tword s.core.tab.sup 16
/-- R213: the limits word. -/
def supLimits (s : State) : Word := tword s.core.tab.sup 17
/-- R213: SSLOT. -/
def sslot (s : State) : Nat := fld (supGeneral s) 0 9

/-- R209, R188: bridge b is the odd bridge of a loop pair, and carries no line of its own. -/
def oddEnd (s : State) (b : Fin 8) : Bool := b.val % 2 = 1 && isLoop s b.val

/-! Commands (R214, R215). -/

def supOp {n : Nat} (w : BitVec n) : Nat := fld w 20 3
def supCount {n : Nat} (w : BitVec n) : Nat := fld w 16 4
def supDir {n : Nat} (w : BitVec n) : Nat := fld w 14 2

/-- R221, R222: Q of a sweep of exponent n is at least 3. -/
def sweepLongEnough (f : Fabric) (n : Nat) : Bool := 3 * 16384 ≤ flen f.f * 2 ^ n

/-- R214: the fields of a bridge's word hold no illegal value. -/
def supFieldsOk (loop : Bool) (w : BitVec 24) : Bool :=
  fld w 0 14 = 0 && supOp w < 6 &&
  (if supOp w = 2 then supCount w ≠ 0
   else if supOp w = 3 || supOp w = 4 then supCount w ≤ 6
   else supCount w = 0) &&
  (if supOp w = 3 && loop then supDir w ≠ 3 else supDir w = 0)

/-- R215: a word for bridge b is an ignored item. -/
def supBad (s : State) (b : Fin 8) (w : BitVec 24) : Bool :=
  !supFieldsOk (isLoop s b.val) w ||
  (bit w 23 && (oddEnd s b || !bridgeFitted s b.val)) ||
  ((supOp w = 4 || supOp w = 5) && !(s.ret.lc = 1 || s.ret.lc = 3)) ||
  ((supOp w = 3 || supOp w = 4) && !sweepLongEnough s.core.fab (10 + supCount w))

/-- R214, R215: a word for the earth test is an ignored item. -/
def earthBad (w : BitVec 24) : Bool :=
  !(fld w 0 14 = 0 && supOp w < 3 && (if supOp w = 2 then supCount w ≠ 0 else supCount w = 0) && supDir w = 0)

/-- The command in force for bridge b. -/
def supNow (s : State) (b : Fin 8) : BitVec 24 := s.core.fab.sup[b.castLE (by omega : 8 ≤ 9)]

/-! Held-off ends (R212). -/

/-- R212: an end is held off, or drives again, which one that was held off does after steps 1 and 2 of R182. -/
def holdEnd (off : Bool) (x : Bridge) : Bridge :=
  if off then { x with held := true, rejoin := 0 }
  else if x.held then { x with held := false, rejoin := if x.st = 2 then 96 else 0 }
  else x

/-- R212: while direction `d` is measured on a loop, the other end is held off; with d = 0 both ends drive. -/
def holdEnds (b : Fin 8) (d : Nat) (s : State) : State :=
  if isLoop s b.val then modBridge (modBridge s b (holdEnd (d = 2))) (mate b) (holdEnd (d = 1)) else s

/-- R215: the bridge, or both bridges of a loop, is in RUN. -/
def lineRuns (s : State) (b : Fin 8) : Bool := (ends s b).all fun e => (s.bridges[e]).st = 2

/-! Records (R228). -/

/-- R228: one band's word. -/
def bandWord (x : Band) : Word := bandPhase x ++ (if x.valid then bandMag x else 0x8000)
/-- R228: the 48 words of a direction; one that was not measured holds no valid band. -/
def bandWords (bs : List Band) : List Word := (List.range 48).map fun i =>
  match bs[i]? with | some x => bandWord x | none => 0x8000

/-- R224: the deviation of a band in 1/256 dB, where it is valid in both. -/
def bandDev (x : Band) (f : Word) : Option Int :=
  if x.valid && fld f 0 16 ≠ 0x8000 then some ((bandMag x).toInt - (f.setWidth 16).toInt) else none
/-- R224: the deviations of a direction; `o` is the first word of that direction in the fingerprint. -/
def devsOf (bs : List Band) (fp : List Word) (o : Nat) : List (Option Int) :=
  (List.range 48).map fun i =>
    match bs[i]?, fp[o + i]? with | some x, some f => bandDev x f | _, _ => none

/-- R228: one DEV byte, in 0.25 dB. -/
def devByte (d : Option Int) : BitVec 8 :=
  match d with
  | some v => BitVec.ofInt 8 (max (-127) (min 127 (rnd v 6)))
  | none => 0x80
/-- R228: the 12 words of a direction's deviations. -/
def devWords (ds : List (Option Int)) : List Word := wordsOf (ds.map devByte)

/-- R224: how many bands a direction compares. -/
def devCount (ds : List (Option Int)) : Nat := (ds.filterMap id).length
/-- R224: the sum of the squared deviations. -/
def devSum (ds : List (Option Int)) : Nat := ((ds.filterMap id).map fun d => d.natAbs ^ 2).sum
/-- R224: the score of a direction exceeds a threshold in 0.25 dB. -/
def scoreOver (ds : List (Option Int)) (t : Nat) : Bool := devCount ds * (64 * t) ^ 2 < devSum ds
/-- R224, R228: the score of a direction in 0.25 dB, to the nearest. -/
def scoreOf (ds : List (Option Int)) : Nat :=
  if devCount ds = 0 then 0 else (Nat.sqrt (4 * devSum ds / (4096 * devCount ds)) + 1) / 2
/-- R228: bands of a direction whose deviation exceeds BANDF. -/
def devOver (ds : List (Option Int)) (bandf : Nat) : Nat := ((ds.filterMap id).filter fun d => 64 * bandf < d.natAbs).length

/-- R226: how many of bands 20-28 are valid, and the mean of their conductances in 10 uS; with none of them, or where some Z is
zero, the spec states no mean. -/
def gMean (bs : List Band) : Nat × Option Rat :=
  let v := ((bs.drop 20).take 9).filter (·.valid)
  (v.length, if v.isEmpty || v.any (fun x => x.re = 0 && x.im = 0) then none else some ((v.map bandG).sum / v.length))

/-- R226: what break localisation gives. -/
structure BreakRes where
  alpha : Nat := 2047
  brkf : Bool := false
  loss : Bool := false
  gain : Bool := false
  na : Nat := 0
  nb : Nat := 0

/-- R226, R228: a number in a field of `w` bits; one that does not fit is the free value `fv` (log 16). -/
def fitField (w fv : Nat) (n : Int) : Nat := if 0 ≤ n && n < 2 ^ w then n.toNat else fv % 2 ^ w

/-- R226: a break localisation of which the spec states no result (log 16). -/
def breakFree (fv nspk : Nat) : BreakRes :=
  { alpha := fv % 2048, brkf := fv.testBit 11, loss := fv.testBit 12, gain := fv.testBit 13,
    na := if nspk = 0 then 0 else fv / 2 ^ 14 % 128, nb := if nspk = 0 then 0 else fv / 2 ^ 21 % 128 }

/-- R226: break localisation from the two ends' conductances `ga` and `gb` and the fingerprint's `gf`. -/
def breakAt (fv brk nspk : Nat) (ga gb gf : Rat) : BreakRes :=
  let rA := ga / gf
  let rB := gb / gf
  let low : Rat := 1 - brk / 100
  let intact := low ≤ rA && low ≤ rB
  let count (r : Rat) (k : Nat) : Nat := if nspk = 0 then 0 else fitField 7 (fv / 2 ^ k) (rndRat (nspk * r))
  { alpha := if intact then 1024
             else if ga + gb = 0 then 2047 else fitField 11 fv (min 1024 (rndRat (1024 * ga / (ga + gb))))
    brkf := !intact
    loss := !intact && rA + rB < low
    gain := 1 + (brk : Rat) / 100 < rA + rB
    na := count rA 14, nb := count rB 21 }

/-- R226: break localisation from both directions; `gf2` is the sum of the fingerprint's two values. -/
def breakOf (fv brk nspk gf2 : Nat) (a b : Nat × Option Rat) : BreakRes :=
  if a.1 < 5 || b.1 < 5 then {}
  else match a.2, b.2 with
    | some ga, some gb => if gf2 = 0 then breakFree fv nspk else breakAt fv brk nspk ga gb (gf2 / 2)
    | _, _ => breakFree fv nspk

/-- R226, R228: a recorded conductance, saturating; one of which the spec states no mean is the free value `fv` (log 16). -/
def gWord (fv : Nat) (g : Nat × Option Rat) : Nat :=
  match g.2 with | some x => (max 0 (min 65535 (rndRat x))).toNat | none => fv % 65536

/-- R228: words 0-4 of a record. -/
def recHead (s : State) (b : Fin 8) (kind stat dir nexp verd cause : Nat) (k : BreakRes) : List Word :=
  [BitVec.ofNat 32 (kind + 2 ^ 8 * b.val + 2 ^ 11 * b2n (isLoop s b.val) + 2 ^ 12 * stat + 2 ^ 14 * dir + 2 ^ 16 * nexp +
     2 ^ 21 * verd + 2 ^ 23 * b2n k.brkf + 2 ^ 24 * b2n k.loss + 2 ^ 25 * b2n k.gain + 2 ^ 26 * cause),
   s.time.frame, s.time.sec.setWidth 32, (s.time.sec >>> 32).setWidth 32,
   BitVec.ofNat 32 (s.time.sub.toNat + 2 ^ 16 * s.lmu.seq.toNat)]

/-- R229: a record is written as a deferred effect; it takes the counter's value. -/
def issueRecord (fp : Bool) (b : Fin 8) (verd stat : Nat) (ws : List Word) (s : State) : State :=
  let s1 := defer (.record fp ws b.val verd stat s.lmu.seq) s
  { s1 with lmu := { s1.lmu with seq := s1.lmu.seq + 1 } }

/-- R224, R228: the body of a record: words 5-127 with the comparison of what was measured. -/
structure RecBody where
  stat : Nat
  verd : Nat
  brk : BreakRes
  words : List Word

/-- R224-R228: a sweep's record from its two directions; an abandoned sweep carries no verdict. -/
def sweepBody (s : State) (b : Fin 8) (dir : Nat) (abandoned : Bool) : RecBody :=
  let l := s.lmu.line[b]
  let fp := s.lmu.fp[b]
  let fv := (freeVal s).toNat
  let loop := isLoop s b.val
  let dA := devsOf l.resA fp 8
  let dB := devsOf l.resB fp 56
  let useA := !(loop && dir = 2)
  let useB := loop && dir ≠ 1
  let ds := (if useA then [(dA, l.keptA)] else []) ++ (if useB then [(dB, l.keptB)] else [])
  let concl := ds.filter fun d => 40 ≤ devCount d.1 && d.2
  let gA := gMean l.resA
  let gB := gMean l.resB
  let f7 := fp.getD 7 0
  let k := if loop && dir = 0 && !abandoned then
      breakOf fv (fld (supGeneral s) 9 7) (fld (sweepWord s b.val) 25 7) (fld f7 0 16 + fld f7 16 16) gA gB
    else {}
  let exceeds (t : Nat) : Bool := ds.any fun d => scoreOver d.1 t
  let bandf := fld (supLimits s) 0 8
  let nb := (ds.map fun d => devOver d.1 bandf).sum
  let verd :=
    if abandoned || concl.isEmpty || fp.isEmpty then 3
    else if exceeds (fld (supGeneral s) 24 8) || nb ≠ 0 || k.brkf then 2
    else if exceeds (fld (supGeneral s) 16 8) then 1
    else 0
  let score := ds.foldl (fun m d => max m (scoreOf d.1)) 0
  let nval := match ds with
    | [] => 0
    | d :: rest => rest.foldl (fun m x => min m (devCount x.1)) (devCount d.1)
  let w5 := BitVec.ofNat 32 (min 65535 score + 2 ^ 16 * nval + 2 ^ 24 * nb)
  let w6 := BitVec.ofNat 32 (k.alpha + 2 ^ 11 * k.na + 2 ^ 18 * k.nb)
  let w7 := BitVec.ofNat 32 ((if useA then gWord (fv / 2 ^ 28) gA else 0) +
    2 ^ 16 * (if useB then gWord (fv / 2 ^ 44) gB else 0))
  { stat := if abandoned then 2 else if concl.isEmpty then 1 else 0
    verd := verd, brk := k
    words := [w5, w6, w7] ++ bandWords l.resA ++ (if loop then bandWords l.resB else List.replicate 48 0) ++
      devWords dA ++ devWords (if loop then dB else List.replicate 48 none) }

/-- R228, R229: a health record is formed at the end of a sweep. -/
def healthRecord (b : Fin 8) (abandoned : Bool) (cause : Nat) (s : State) : State :=
  let w := supNow s b
  let r := sweepBody s b (supDir w) abandoned
  freeTaken (issueRecord false b r.verd r.stat
    (recHead s b 1 r.stat (supDir w) (10 + supCount w) r.verd cause r.brk ++ r.words) s)

/-- R225, R228: a fingerprint record is formed at the end of a capture; ZPREF is the mean |Z|, rounded to a free
neighbour, and with no valid window free (log 16). -/
def fingerprintRecord (b : Fin 8) (s : State) : State :=
  let l := s.lmu.line[b]
  let loop := isLoop s b.val
  let fv := (freeVal s).toNat
  let w := supNow s b
  let stat := b2n (!(l.keptA && (!loop || l.keptB)))
  let zp := if l.nLoad = 0 then fv % 65536
    else min 65535 ((l.sumZ / (1024 * l.nLoad)).toNat + (if l.sumZ % (1024 * l.nLoad) = 0 then 0 else fv / 2 ^ 48 % 2))
  let gA := gMean l.resA
  let gB := gMean l.resB
  let nv (bs : List Band) : Nat := (bs.filter (·.valid)).length
  let w5 := BitVec.ofNat 32 (2 ^ 16 * (if loop then min (nv l.resA) (nv l.resB) else nv l.resA))
  let cf := fld (rsGet s (recAddr b.val + 6)) 16 16
  let w6 := BitVec.ofNat 32 (zp + 2 ^ 16 * cf)
  let w7 := BitVec.ofNat 32 (gWord (fv / 2 ^ 16) gA + 2 ^ 16 * (if loop then gWord (fv / 2 ^ 32) gB else 0))
  freeTaken (issueRecord true b 3 stat
    (recHead s b 2 stat 0 (10 + supCount w) 3 0 {} ++ [w5, w6, w7] ++ bandWords l.resA ++
      (if loop then bandWords l.resB else List.replicate 48 0) ++ devWords (List.replicate 96 none)) s)

/-! Beginning and ending (R214, R215, R230). -/

/-- R214: a line with its measurement ended. -/
def lineIdle (l : Line) : Line :=
  { l with lmode := 0, winLeft := 0, sweepWait := false, sweepDir := 0, hand := 0, nextCont := false }

/-- R230: what bridge b measures ends; a running sweep leaves an abandoned record. -/
def lineStop (b : Fin 8) (cause : Nat) (s : State) : State :=
  let l := s.lmu.line[b]
  let s1 := if l.sweepDir ≠ 0 then healthRecord b true cause s else s
  holdEnds b 0 (modLine s1 b lineIdle)

/-- R218, R223, R225: a command starts from its beginning. -/
def lineBegin (b : Fin 8) (w : BitVec 24) (s : State) : State :=
  let op := supOp w
  modLine s b fun l =>
    { l with
      lmode := BitVec.ofNat 3 op, loadFail := 0, loadPass := 0, contFail := 0, contPass := 0
      winLeft := if op = 2 then supCount w else if op = 4 || op = 5 then 20 else 0
      nLoad := 0, fLoad := 0, nCont := 0, fCont := 0, nextCont := false, verdictWin := false, sumZ := 0
      spoilt := false, hand := 0, sweepWait := op = 3 || op = 4, sweepDir := 0, resA := [], resB := [], keptA := true, keptB := true }

/-- R214: the command in force is replaced. -/
def setSup (i : Fin 9) (w : BitVec 24) (s : State) : State := modFab s fun f => { f with sup := vset f.sup i w }

/-- R214, R215: a word in bridge b's sample. -/
def takeSup (b : Fin 8) (w : BitVec 24) (s : State) : State :=
  if supBad s b w then ignoreCore (if bridgeFitted s b.val then 13 else 11) (supOp w) s
  else if bit w 23 && w ≠ supNow s b then lineBegin b w (setSup (b.castLE (by omega)) w (lineStop b 2 s))
  else s

/-- R227: the earth tests stop. -/
def earthStop (s : State) : State :=
  { s with lmu := { s.lmu with earth := { s.lmu.earth with mode := 0, run := false, left := 0 } } }
/-- R227: an earth command starts. -/
def earthBegin (w : BitVec 24) (s : State) : State :=
  { s with lmu := { s.lmu with earth :=
      { s.lmu.earth with mode := supOp w, run := supOp w ≠ 0, left := supCount w, fails := 0, passes := 0 } } }
/-- R214, R215: a word in sample 8. -/
def takeEarth (w : BitVec 24) (s : State) : State :=
  if earthBad w then ignoreCore 13 (supOp w) s
  else if bit w 23 && w ≠ s.core.fab.sup[(8 : Fin 9)] then earthBegin w (setSup 8 w s)
  else s

/-- R214: the block of SSLOT is taken on; a word above sample 8 must be 0. -/
def takeSupBlock (ws : List Sample) (s : State) : State :=
  let s1 := (List.finRange 8).foldl (fun t b => takeSup b (ws.getD b.val 0) t) s
  let s2 := takeEarth (ws.getD 8 0) s1
  (ws.drop 9).foldl (fun t w => if w = 0 then t else ignoreCore 13 (supOp w) t) s2

/-! Verdicts (R217-R219). -/

/-- R218: a load fault is declared or cleared. -/
def setLoadFault (b : Fin 8) (on high : Bool) (s : State) : State :=
  if (s.lmu.line[b]).lfault = on then s
  else
    let s1 := modLine s b fun l => { l with lfault := on, lhigh := if on then high else l.lhigh, seen := l.seen || on }
    raiseEv 96 (b.val + 8 * b2n on + 16 * b2n (s1.lmu.line[b]).lhigh) s1
/-- R218: a continuity fault is declared or cleared. -/
def setBreak (b : Fin 8) (on : Bool) (s : State) : State :=
  if (s.lmu.line[b]).brk = on then s
  else raiseEv 97 (b.val + 8 * b2n on) (modLine s b fun l => { l with brk := on, seen := l.seen || on })
/-- R219: a supervision gap is declared or cleared. -/
def setGap (b : Fin 8) (on : Bool) (s : State) : State :=
  if (s.lmu.line[b]).gap = on then s
  else raiseEv 98 (b.val + 8 * b2n on) (modLine s b fun l => { l with gap := on, seen := l.seen || on })

/-- R213: SUP of the line of bridge b. -/
def supervised (s : State) (b : Fin 8) : Bool := bit (pilotWord s b.val) 26 && bridgeFitted s b.val && !oddEnd s b
/-- R219: the gap rule declares a gap. -/
def declareGap (b : Fin 8) (s : State) : State := if supervised s b then setGap b true s else s

/-- R217: ZPREF; none without a fingerprint. -/
def zpref (s : State) (b : Fin 8) : Option Nat := match s.lmu.fp[b] with | [] => none | ws => some (fld (ws.getD 6 0) 0 16)

/-- R217: a load window with voltage `v` and current `i` fails: low and high; ZPREF `zp` is in 0.1 Ohm. -/
def windowFails (s : State) (b : Fin 8) (v i : Int × Int) (zp : Nat) : Bool × Bool :=
  let w := pilotWord s b.val
  (zBelow 1000 (zp * (100 - fld w 8 7)) v i, zAbove 1000 (zp * (100 + fld w 15 7)) v i)

/-- R218: a verdict of continuous running on one kind of window: declare at the PERS-th failing one in a row, clear at the
PERS-th passing one. -/
def persVerdict (pers : Nat) (fails passes : Nat) : Option Bool :=
  if fails = pers then some true else if passes = pers then some false else none

/-- R232: ZP takes |Z| in 0.1 Ohm. -/
def zpOf (up : Bool) (v i : Int × Int) : BitVec 16 := BitVec.ofNat 16 (ohms up 65535 10 v i)

/-- R217, R218: a valid load window of a running command; `up` is the free neighbour of a rounding (log 45). -/
def loadWindow (b : Fin 8) (up : Bool) (v i : Int × Int) (s : State) : State :=
  let s0 := modLine s b fun l => { l with zp := zpOf up v i }
  match zpref s b with
  | none => s0
  | some zp =>
    let f := windowFails s b v i zp
    let fail := f.1 || f.2
    let s1 := setGap b false (modLine s0 b fun l =>
      { l with loadFail := if fail then l.loadFail + 1 else 0, loadPass := if fail then 0 else l.loadPass + 1,
               nLoad := l.nLoad + 1, fLoad := l.fLoad + b2n fail, lastHigh := if fail then f.2 else l.lastHigh,
               verdictWin := true })
    let l := s1.lmu.line[b]
    if l.lmode = 1 then
      match persVerdict (fld (pilotWord s b.val) 22 4) l.loadFail l.loadPass with
      | some on => setLoadFault b on f.2 s1
      | none => s1
    else s1

/-- R217, R219, R225: a valid load window of a capture; |Z| is summed in 0.1 Ohm / 1024. -/
def captureWindow (b : Fin 8) (up : Bool) (v i : Int × Int) (s : State) : State :=
  let s1 := modLine s b fun l =>
    { l with zp := zpOf up v i, nLoad := l.nLoad + 1, sumZ := l.sumZ + ohms up (65535 * 1024) 10240 v i }
  if (zpref s b).isSome then setGap b false s1 else s1

/-- R225: a valid window of a calibration: Im(I_S / V) / (2 pi f_p). -/
def calibWindow (b : Fin 8) (f : Tone) (v i : Int × Int) (s : State) : State :=
  modLine s b fun l =>
    { l with nLoad := l.nLoad + 1, sumZ := l.sumZ + Config.capacitance f (i.2 * v.1 - i.1 * v.2) (mag2 v) }

/-- R217: the ratio c of two currents is below 0.5, and c in 1/64; with no current at either end both are free (log 16). -/
def contRatio (fv : Nat) (iA iB : Int × Int) : Bool × Nat :=
  if mag2 iA = 0 && mag2 iB = 0 then (fv.testBit 1, fv / 4 % 128)
  else (4 * mag2 iB < mag2 iA, rootOf (fv.testBit 0) 127 (4096 * mag2 iB) (mag2 iA))

/-- R217, R218: a valid continuity window with the line currents of ends A and B. -/
def contWindow (b : Fin 8) (fv : Nat) (iA iB : Int × Int) (s : State) : State :=
  let c := contRatio fv iA iB
  let s1 := setGap b false (modLine s b fun l =>
    { l with cont := BitVec.ofNat 7 c.2, contFail := if c.1 then l.contFail + 1 else 0,
             contPass := if c.1 then 0 else l.contPass + 1, nCont := l.nCont + 1, fCont := l.fCont + b2n c.1,
             verdictWin := true })
  let l := s1.lmu.line[b]
  if l.lmode = 1 then
    match persVerdict (fld (pilotWord s b.val) 22 4) l.contFail l.contPass with
    | some on => setBreak b on s1
    | none => s1
  else s1

/-- R218, R219: a counted run ends: each kind of window with a valid one gives its verdict. -/
def countedEnd (b : Fin 8) (s : State) : State :=
  let l := s.lmu.line[b]
  let s1 := if l.nLoad = 0 then s else setLoadFault b (l.nLoad ≤ 2 * l.fLoad) l.lastHigh s
  let s2 := if l.nCont = 0 then s1 else setBreak b (l.nCont ≤ 2 * l.fCont) s1
  modLine (if l.verdictWin then s2 else declareGap b s2) b lineIdle

/-- R225: a calibration ends with the mean of its valid windows. -/
def calibrationEnd (b : Fin 8) (s : State) : State :=
  let l := s.lmu.line[b]
  let s1 := modLine s b lineIdle
  let cf := if l.nLoad = 0 then 0 else rndDiv l.sumZ l.nLoad
  if 1500 ≤ cf && cf ≤ 3500 then defer (.calib b.val (BitVec.ofInt 16 cf)) s1 else raiseEv 102 (b.val + 8) s1

/-- R210: C_F of a line in 0.1 nF: from its fingerprint record, and 235 nF where that holds no calibration. -/
def lineCf (s : State) (b : Fin 8) : Nat :=
  match s.lmu.fp[b] with
  | [] => 2350
  | ws => let c := fld (ws.getD 6 0) 16 16
          if c = 0 then 2350 else c

/-- R216, R222, R230: since the last boundary an end of the line has tripped, or its rail has limited it. -/
def lineHit (s : State) (b : Fin 8) : Bool := (ends s b).any fun e => (s.bridges[e]).trips ≠ 0 || (s.bridges[e]).railClip

/-- R213: the pilot of a line as a tone. -/
def pilotTone (s : State) (b : Fin 8) : Tone := .pilot (pilotHz (fld (pilotWord s b.val) 0 8))

/-- R217: V and the line current of a load window: the currents of both driving ends together, or those of the driving end. -/
def loadBins (s : State) (b : Fin 8) (m : PilotMeas) : (Int × Int) × (Int × Int) :=
  let f := pilotTone s b
  let bins (e : EndMeas) : (Int × Int) × (Int × Int) :=
    let v := Config.dft f e.v
    (v, lineCurrent f (lineCf s b) v (Config.dft f e.i))
  let a := bins m.a
  if bothDrive s b then (a.1, cAdd a.2 (bins m.b).2)
  else if isLoop s b.val && !endDrives s.bridges[b] then bins m.b
  else a

/-- R217: the line currents of both ends in a continuity window. -/
def contBins (s : State) (b : Fin 8) (m : PilotMeas) : (Int × Int) × (Int × Int) :=
  let f := pilotTone s b
  let cur (e : EndMeas) : Int × Int := lineCurrent f (lineCf s b) (Config.dft f e.v) (Config.dft f e.i)
  (cur m.a, cur m.b)

/-- R216: a pilot window is valid. -/
def windowValid (s : State) (b : Fin 8) (m : PilotMeas) : Bool :=
  !(s.lmu.line[b]).spoilt && !lineHit s b && lineRuns s b &&
  halfAmplitude (pilotMv (s.bridges[b]).mode (contNow s b)) (if contNow s b then Config.dft (pilotTone s b) m.a.v else (loadBins s b m).1)

/-- R217, R225: what a valid window brings; its roundings and an unstated ratio are free. -/
def windowTake (b : Fin 8) (m : PilotMeas) (s : State) : State :=
  let fv := (freeVal s).toNat
  let up := fv.testBit 0
  let z := loadBins s b m
  let mode := (s.lmu.line[b]).lmode.toNat
  freeTaken (
    if mode = 4 then captureWindow b up z.1 z.2 s
    else if mode = 5 then calibWindow b (pilotTone s b) z.1 (Config.dft (pilotTone s b) m.a.i) s
    else if contNow s b then let c := contBins s b m
                             contWindow b fv c.1 c.2 s
    else loadWindow b up z.1 z.2 s)

/-- R216-R218, R225: a pilot window of bridge b ends. -/
def windowEnd (b : Fin 8) (m : PilotMeas) (s : State) : State :=
  let l := s.lmu.line[b]
  let mode := l.lmode.toNat
  if !(pilotMode l && s.arb.coreRun) then s
  else
    let s1 := if windowValid s b m then windowTake b m s else s
    let s2 := modLine s1 b fun l =>
      { l with nextCont := (mode = 1 || mode = 2) && bothDrive s b && !contNow s b, winLeft := l.winLeft - 1, spoilt := false }
    if mode ≠ 1 && l.winLeft ≤ 1 then
      if mode = 2 then countedEnd b s2
      else if mode = 5 then calibrationEnd b s2
      else modLine (fingerprintRecord b s2) b lineIdle
    else s2

/-! The sweep (R222, R223). -/

/-- R223: a direction begins: its excitation ramps in, and one period settles. -/
def sweepFrom (b : Fin 8) (d : Nat) (s : State) : State :=
  holdEnds b d (modLine s b fun l =>
    { l with sweepWait := false, sweepDir := d, hand := 0, sweepAge := 0, intAge := 0, integ := false, badPer := [] })

/-- R215, R223: a waiting sweep starts once its bridges are in RUN. -/
def sweepStart (b : Fin 8) (s : State) : State :=
  let l := s.lmu.line[b]
  if l.sweepWait && lineRuns s b then sweepFrom b (if l.lmode = 3 && supDir (supNow s b) = 2 then 2 else 1) s else s

/-- R223, R225: the sweep of bridge b has its directions: the record, or the load windows of a capture. -/
def sweepDone (b : Fin 8) (s : State) : State :=
  let s1 := holdEnds b 0 s
  if (s.lmu.line[b]).lmode = 4 then modLine s1 b fun l => { l with sweepDir := 0, hand := 0, spoilt := false }
  else modLine (healthRecord b false 0 s1) b lineIdle

/-- R223, R225: the sweep of a loop runs from both ends. -/
def bothWays (s : State) (b : Fin 8) : Bool :=
  isLoop s b.val && ((s.lmu.line[b]).lmode = 4 || supDir (supNow s b) = 0)

/-- R212, R223: the hand-over after a direction begins: the end held off runs steps 1 and 2 of R182. -/
def handBegins (b : Fin 8) (s : State) : State :=
  modLine (modBridge (modBridge s b (holdEnd false)) (mate b) (holdEnd false)) b fun l => { l with hand := 96, integ := false }

/-- R223: the hand-over is complete: the other direction begins, or the sweep is done. -/
def handDone (b : Fin 8) (s : State) : State := if (s.lmu.line[b]).sweepDir = 1 then sweepFrom b 2 s else sweepDone b s

/-- R222: Q whole periods of a sweep. -/
def sweepQ (s : State) (b : Fin 8) : Nat := flen s.core.fab.f * 2 ^ (10 + supCount (supNow s b)) / 16384

/-- R222: the periods of a direction that enter the average. -/
def keptPeriods (q : Nat) (l : Line) (m : SweepMeas) : List EndMeas :=
  (((m.periods.take q).zipIdx).filter fun p => !l.badPer.contains p.2).map (·.1)

/-- R222, R230: what a direction has given. -/
def sweepTake (b : Fin 8) (m : SweepMeas) (s : State) : State :=
  let l := s.lmu.line[b]
  let q := sweepQ s b
  let ps := keptPeriods q l m
  let bs := estimates (lineCf s b) (fld (pilotWord s b.val) 0 8) ps
  modLine s b fun l =>
    if l.sweepDir = 1 then { l with resA := bs, keptA := q ≤ 2 * ps.length } else { l with resB := bs, keptB := q ≤ 2 * ps.length }

/-- R222, R223: a direction has been integrated. -/
def sweepEnd (b : Fin 8) (m : SweepMeas) (s : State) : State :=
  let l := s.lmu.line[b]
  if l.sweepDir ≠ 0 && l.hand = 0 && l.integ && 16384 * sweepQ s b ≤ l.intAge then
    let s1 := sweepTake b m s
    if bothWays s b then handBegins b s1 else sweepDone b s1
  else s

/-- R223: a line's measurement after a frame of `n` 48 kHz periods; `hit` says that a trip or a limit by the rail fell into it, and
`runs` that its bridges are in RUN. -/
def lineOn (n : Nat) (hit runs : Bool) (l : Line) : Line :=
  if l.hand ≠ 0 then { l with hand := l.hand - n }
  else if l.sweepDir = 0 then { l with spoilt := l.spoilt || (pilotMode l && (hit || !runs)) }
  else if l.integ then
    let bad := [l.intAge / 16384, (l.intAge + n - 1) / 16384]
    { l with intAge := l.intAge + n, badPer := if hit then bad.foldl (fun d p => insNat p d) l.badPer else l.badPer }
  else { l with sweepAge := l.sweepAge + n, integ := 48 + 16384 ≤ l.sweepAge + n }

/-! The earth test (R227). -/

/-- R227, R254: R_leak in kOhm of a difference `d` of mean currents, in codes of 4.0 mA / 32768: 5.00 V over it, less 100. -/
def leakOhms (d : Rat) : Rat := 40960 / d - 100

/-- R227: RLEAK of a test, to the nearest; with no difference of currents it is free (log 16). -/
def leakOf (fv : Nat) (d : Rat) : Nat := if d = 0 then fv % 256 else (max 0 (min 255 (rndRat (leakOhms d)))).toNat

/-- R227: R_leak is below REF. -/
def leakLow (fv ref : Nat) (d : Rat) : Bool := if d = 0 then fv.testBit 8 else leakOhms d < ref

/-- R227: the mean of earth channel samples, in codes; no samples count as none. -/
def meanCode (xs : List (BitVec 16)) : Rat := ((xs.map (·.toInt)).sum : Int) / (xs.length : Nat)

/-- R227: the earth fault is declared or cleared. -/
def setEarth (on : Bool) (s : State) : State :=
  if s.lmu.earth.fault = on then s
  else
    raiseEv 99 (b2n on + 2 * b2n s.lmu.earth.high)
      { s with lmu := { s.lmu with earth := { s.lmu.earth with fault := on, seen := s.lmu.earth.seen || on } } }

/-- R227: an earth test ends. -/
def earthEnd (m : EarthMeas) (s : State) : State :=
  let e := s.lmu.earth
  if e.mode = 0 || !s.arb.coreRun then s
  else
    let fv := (freeVal s).toNat
    let p := meanCode m.plus
    let n := meanCode m.minus
    let d := p - n
    let hi := 16384 < p + n || p + n < -16384
    let fail := leakLow fv (fld (supLimits s) 8 8) d || hi
    let e1 : Earth :=
      { e with rleak := BitVec.ofNat 8 (leakOf fv d), count := sat8 e.count, high := if fail then hi else e.high,
               fails := if fail then e.fails + 1 else 0, passes := if fail then 0 else e.passes + 1, left := e.left - 1 }
    let s0 := if d = 0 then freeTaken s else s
    let s1 := { s0 with lmu := { s0.lmu with earth := e1 } }
    if e.mode = 1 then if 2 ≤ e1.fails then setEarth true s1 else if 2 ≤ e1.passes then setEarth false s1 else s1
    else if e.left ≤ 1 then earthStop (setEarth fail s1)
    else s1

/-! What the boundary and other causes do to the lines (R215, R230). -/

/-- R229: the LMU sets its sequence counter when a control program starts. -/
def startSeq (s : State) : State :=
  let hs := healthSlots s none
  let fps := (List.range 8).filter fun b => recKind s b = 2
  let n :=
    if !hs.isEmpty then
      match newestRecord s hs with
      | some a => recSeq s a + 1
      | none => (freeVal s).toNat
    else if fps.isEmpty then 0
    else fps.foldl (fun m b => max m (recSeq s b)) 0 + 1
  let s1 := if !hs.isEmpty && (newestRecord s hs).isNone then freeTaken s else s
  { s1 with lmu := { s1.lmu with seq := BitVec.ofNat 16 n } }

/-- R223, R230: a line at a boundary, `n` 48 kHz periods after the one before: a sweep whose bridges have left RUN is abandoned,
a hand-over may be complete, and a waiting sweep starts. -/
def lineNext (n : Nat) (b : Fin 8) (s : State) : State :=
  let l := s.lmu.line[b]
  let s1 := modLine s b (lineOn n (lineHit s b) (lineRuns s b))
  if l.sweepDir ≠ 0 && !lineRuns s b then lineStop b 1 s1
  else if l.hand ≠ 0 && l.hand ≤ n then handDone b s1
  else sweepStart b s1

/-- R223, R230: the lines at a boundary. -/
def lineBoundary (n : Nat) (s : State) : State := (List.finRange 8).foldl (fun t b => lineNext n b t) s

/-- R230: all commands end, and none is in force. -/
def lineEndAll (cause : Nat) (s : State) : State :=
  let s1 := (List.finRange 8).foldl (fun t b => lineStop b cause t) s
  modFab (earthStop s1) fun f => { f with sup := .replicate 9 0 }

/-- R230: a staged change commits on bridge b. -/
def lineStaged (b : Fin 8) (s : State) : State :=
  if (s.lmu.line[b]).sweepDir ≠ 0 then lineStop b 3 s
  else modLine s b fun l => { l with loadFail := 0, loadPass := 0, contFail := 0, contPass := 0, spoilt := true }

/-- R230, R311: the LMU stops for NIGHT: sweeps are abandoned. -/
def lineNight (s : State) : State :=
  (List.finRange 8).foldl (fun t b => if (t.lmu.line[b]).sweepDir ≠ 0 || (t.lmu.line[b]).sweepWait then lineStop b 4 t else t) s
/-- R311: a sweep runs, so that the handshake finds a record to be formed. -/
def sweepRuns (s : State) : Bool := s.lmu.line.any fun l => l.sweepDir ≠ 0

/-- R307, R230: after NIGHT the measurements that were running start again. -/
def lineResume (s : State) : State :=
  let s1 := (List.finRange 8).foldl
    (fun t b => if (t.lmu.line[b]).lmode ≠ 0 then lineBegin b (supNow t b) t else t) s
  if s1.lmu.earth.mode = 0 then s1 else earthBegin s1.core.fab.sup[(8 : Fin 9)] s1

/-- R230: after a takeover every command in force starts from its beginning, and no record is formed. -/
def lineTakeover (s : State) : State :=
  let s1 := (List.finRange 8).foldl
    (fun t b => if bit (supNow t b) 23 then holdEnds b 0 (lineBegin b (supNow t b) t) else holdEnds b 0 (modLine t b lineIdle)) s
  let w := s1.core.fab.sup[(8 : Fin 9)]
  if bit w 23 then earthBegin w s1 else earthStop s1

/-! Registers (R232). -/

/-- R232: LINE_STATUSb; for the odd bridge of a loop only LMODE, that of the line which it drives as end B. -/
def lineStatus (s : State) (b : Fin 8) : Word :=
  let l := s.lmu.line[b]
  let lm := if (s.bridges[b]).held && (s.bridges[b]).st = 2 then 6 else (s.lmu.line[lineOf s b]).lmode.toNat
  if oddEnd s b then BitVec.ofNat 32 lm
  else
    BitVec.ofNat 32 (lm + 8 * b2n l.lfault + 16 * b2n l.lhigh + 32 * b2n l.brk + 64 * b2n l.gap + 128 * b2n l.seen +
      2 ^ 8 * l.zp.toNat + 2 ^ 24 * l.cont.toNat + 2 ^ 31 * b2n l.fpv)

/-- R232: EARTH_STATUS. -/
def earthStatus (s : State) : Word :=
  let e := s.lmu.earth
  BitVec.ofNat 32 (b2n e.fault + 2 * b2n e.high + 4 * b2n e.seen + 8 * b2n e.run + 2 ^ 8 * e.rleak.toNat + 2 ^ 16 * e.count.toNat)

end Sys2Proof.Machine
end

