-- ==== Sys2Proof/Machine/SadcOps.lean ====
section
/-!
DEFINITION. The supervision ADC (R254-R270): scans and their publication, the scan mirror, window comparators and the contact
decoder.
-/

namespace Sys2Proof.Machine

/-! Register words (R270). -/

/-- R270: SADC_HDRb. -/
def bankHdr (k : Bank) : Word := BitVec.ofNat 32 (k.seq.toNat + 2 ^ 16 * b2n k.valid + 2 ^ 17 * b2n k.nscan)
/-- R270: SADC_Sb_c; VALUE2 is that of S1 channel 14. -/
def bankWord (k : Bank) (c : Nat) : Word :=
  BitVec.ofNat 32 ((k.vals.toList.getD c 0).toNat + if c = 14 then 2 ^ 16 * k.val2.toNat else 0)
/-- R270: CONTACT_STATUS. -/
def contactStatus (d : Sadc) : Word :=
  BitVec.ofNat 32 ((List.finRange 8).foldl (fun n i => n + d.con[i].st.toNat * 8 ^ i.val) 0 +
    2 ^ 24 * b2n d.evac + 2 ^ 25 * b2n d.alert + 2 ^ 26 * d.sent.toNat)

/-! Scan mirror (R259). -/

/-- R259: the first 39 words of the scan mirror; the others are 0. -/
def mirrorWords (d : Sadc) : List Word :=
  [bankHdr d.s0, d.s0.frm] ++ (List.range 16).map (bankWord d.s0) ++
  [bankHdr d.s1, d.s1.frm] ++ (List.range 16).map (bankWord d.s1) ++ [d.below, d.above, contactStatus d]

/-- R259, R269: the running core writes the scan mirror while its converter link carries valid words; otherwise it holds the
last values with VALID = 0. -/
def writeScanMirror (s : State) : State :=
  if !s.arb.coreRun then s
  else if s.conv.linkOk then modCore s fun c => { c with sram := msetAll 0 c.sram 0x1FFF80 (mirrorWords s.sadc) }
  else
    let off (m : Map Word) (a : Nat) : Map Word := mset 0 m a (mget 0 m a &&& ~~~ 0x10000#32)
    modCore s fun c => { c with sram := off (off c.sram 0x1FFF80) 0x1FFF92 }

/-! Comparators (R260-R262). -/

/-- R260: PERS of comparator k. -/
def cmpPers (w : Word) : Nat := fld w 28 3
/-- R254, R260: comparator k's channel value; channel 15 of S1 is signed, channel 14 takes the lesser of its two sensors. -/
def cmpValue (d : Sadc) (k : Nat) : Int :=
  let b := if k < 16 then d.s0 else d.s1
  let v := b.vals.toList.getD (k % 16) 0
  if k = 31 then v.toInt else if k = 30 then min v.toNat b.val2.toNat else v.toNat
/-- R254, R3: the channel of comparator k belongs to a bridge or rail that the variant has. -/
def cmpApplies (s : State) (k : Nat) : Bool :=
  if k < 16 then bridgeFitted s (k / 2) else if 26 ≤ k && k < 30 then dieFitted s (k - 26) else true

/-- R261: the state of a comparator in CMP_BELOW and CMP_ABOVE. -/
inductive Side3 | inBand | below | above
  deriving DecidableEq, Repr

/-- R261: where comparator k stands. -/
def cmpSide (d : Sadc) (k : Nat) : Side3 := if bit d.below k then .below else if bit d.above k then .above else .inBand

/-- R261: comparator k leaves its band, which CMP_SEEN tells, or changes sides. -/
def cmpLeave (k : Fin 32) (seen up : Bool) (v : Int) (s : State) : State :=
  let s1 := modSadc s fun d =>
    { d with below := setBit d.below k.val (!up), above := setBit d.above k.val up,
             seen := if seen then setBit d.seen k.val true else d.seen, cmp := vset d.cmp k {} }
  raiseEv (48 + k.val) ((v % 2 ^ 16).toNat + 2 ^ 16 * b2n up) s1

/-- R261: comparator k returns. -/
def cmpReturn (k : Fin 32) (s : State) : State :=
  modSadc s fun d =>
    { d with below := setBit d.below k.val false, above := setBit d.above k.val false, cmp := vset d.cmp k {} }

/-- R261: comparator k evaluates the scan just published. -/
def cmpEval (k : Fin 32) (s : State) : State :=
  let w := tword s.sadc.tab k.val
  let p := cmpPers w
  if p = 0 || !cmpApplies s k.val then s
  else
    let v := cmpValue s.sadc k.val
    let tl := 16 * cmpField k.val w 0
    let th := 16 * cmpField k.val w 12
    let hys : Int := 16 * fld w 24 4
    let up := decide (th < v)
    let out := up || decide (v < tl)
    let c := s.sadc.cmp[k]
    match cmpSide s.sadc k.val with
    | .inBand =>
      if out then
        if p ≤ c.lowCnt + 1 then cmpLeave k true up v s
        else modSadc s fun d => { d with cmp := vset d.cmp k { lowCnt := c.lowCnt + 1, backCnt := 0 } }
      else modSadc s fun d => { d with cmp := vset d.cmp k {} }
    | side =>
      let cross := if side = .below then up else out && !up
      let back := decide (tl + hys ≤ v) && decide (v ≤ th - hys)
      if cross && p ≤ c.lowCnt + 1 then cmpLeave k false up v s
      else if back && p ≤ c.backCnt + 1 then cmpReturn k s
      else modSadc s fun d =>
        { d with cmp := vset d.cmp k { lowCnt := if cross then c.lowCnt + 1 else 0,
                                       backCnt := if back then c.backCnt + 1 else 0 } }

/-- R260: the comparator table of a control program takes effect: the comparators are in band. -/
def startCmp (t : List Word) (s : State) : State :=
  modSadc s fun d => { d with tab := t, below := 0, above := 0, cmp := .replicate 32 {} }

/-- R262: some CMP_SEEN bit whose comparator has WAKE = 1 is set. -/
def cmpWakes (s : State) : Bool := anyBelow 32 fun k => bit s.sadc.seen k && bit (tword s.sadc.tab k) 31

/-! Contact inputs (R264, R265). -/

/-- R264: the band of a ratio in 1/65,536; none lies in no band. -/
def contactBand (v : Nat) : Option (BitVec 3) :=
  if 4 * 65536 ≤ 10 * v && 10 * v ≤ 6 * 65536 then some 0
  else if 65536 ≤ 8 * v && 10 * v ≤ 3 * 65536 then some 1
  else if 85 * 65536 < 100 * v then some 2
  else if v < 4096 then some 3
  else none

/-- R264: one published value decoded. -/
def contactNext (v : Nat) (c : Contact) : Contact :=
  match contactBand v with
  | some b =>
    let n := if c.cand = some b then c.cnt + 1 else 1
    if 3 ≤ n then { st := b, cand := some b, cnt := 3, none_ := 0 }
    else { c with cand := some b, cnt := n, none_ := 0 }
  | none =>
    let n := min 8 (c.none_ + 1)
    { c with st := if 8 ≤ n then 4 else c.st, cand := none, cnt := 0, none_ := n }

/-- R37, R387: EVAC_IN becomes asserted while the resident program runs; playback under way goes on. -/
def evacRise (s : State) : State :=
  if residentRuns s then
    match s.core.play with
    | some p => if p.stopAfter then evacStart s else s
    | none => evacStart s
  else s

/-- R264, R265: contact input i decodes its channel. -/
def contactEval (i : Fin 8) (s : State) : State :=
  let c := s.sadc.con[i]
  let c1 := contactNext (s.sadc.s1.vals.toList.getD i.val 0).toNat c
  let s1 := modSadc s fun d => { d with con := vset d.con i c1 }
  if c1.st = c.st then s1
  else
    let s2 := raiseEv 9 (i.val + 8 * c1.st.toNat) s1
    if i.val = 0 then
      let s3 := modSadc s2 fun d => { d with evac := c1.st = 1 }
      if c1.st = 1 then evacRise (setTap {} s3) else s3
    else if i.val = 1 then modSadc s2 fun d => { d with alert := c1.st = 1 }
    else s2

/-! Scans (R255-R258, R268). -/

/-- R257, R258: a bank at a boundary: the scan of the frame that ended waits for publication, unless it is bad. -/
def bankBoundary (lock : Bool) (tag : Word) (k : Bank) : Bank :=
  { k with valid := false, due := !k.bad, scanF := tag, bad := !lock }

/-- R255, R257: both banks at a boundary, with FRAME already advanced, while VS is powered. -/
def scanBoundary (s : State) : State :=
  if domOn s 11 then
    modSadc s fun d =>
      { d with s0 := bankBoundary s.clk.sadcLock d.tag d.s0, s1 := bankBoundary s.clk.sadcLock d.tag d.s1,
               tag := s.time.frame }
  else s

/-- R258: the scans in progress contain conversions made without lock, or while VS was powering up. -/
def spoilScans (s : State) : State :=
  modSadc s fun d => { d with s0 := { d.s0 with bad := true }, s1 := { d.s1 with bad := true } }

/-- The conversions of a channel in a scan. -/
def convsOf (m : ScanMeas) (c : Nat) : List (BitVec 16) := m.convs.getD c []
/-- R256: the value of a channel of S0: the largest magnitude, unsigned. -/
def peakOf (xs : List (BitVec 16)) : BitVec 16 := BitVec.ofNat 16 (xs.foldl (fun n x => max n x.toInt.natAbs) 0)
/-- R256, R268: the value of channel `c` of S1: the mean, rounded by rnd; that of channel 15 is signed. -/
def meanOf (c : Nat) (xs : List (BitVec 16)) : BitVec 16 :=
  BitVec.ofInt 16 (rndDiv (xs.foldl (fun n x => n + if c = 15 then x.toInt else x.toNat) 0) xs.length)

/-- R256, R257: bank S0 takes its values; absent bridges read 0. -/
def takeS0 (s : State) (m : ScanMeas) (frm : Word) (k : Bank) : Bank :=
  { k with seq := k.seq + 1, valid := true, nscan := false, frm := frm, due := false,
           vals := .ofFn fun c => if bridgeFitted s (c.val / 2) then peakOf (convsOf m c.val) else 0 }

/-- R256, R257: bank S1 takes its values; absent rails read 0, and channel 14 alternates between its two sensors. -/
def takeS1 (s : State) (night : Bool) (m : ScanMeas) (frm : Word) (k : Bank) : Bank :=
  let odd := bit (k.seq + 1) 0
  let val (c : Fin 16) : BitVec 16 :=
    if 10 ≤ c.val && c.val < 14 && !dieFitted s (c.val - 10) then 0
    else if c.val = 14 && odd then k.vals[c]
    else meanOf c.val (convsOf m c.val)
  { k with seq := k.seq + 1, valid := true, nscan := night, frm := frm, due := false, vals := .ofFn val,
           val2 := if odd then meanOf 14 (convsOf m 14) else k.val2 }

/-- R261, R264: the comparators of bank S1 and the contact inputs evaluate. -/
def evalS1 (s : State) : State :=
  (List.finRange 8).foldl (fun t i => contactEval i t)
    ((List.finRange 32).foldl (fun t k => if 16 ≤ k.val then cmpEval k t else t) s)
/-- R261: the comparators of bank S0 evaluate. -/
def evalS0 (s : State) : State := (List.finRange 32).foldl (fun t k => if k.val < 16 then cmpEval k t else t) s

/-- R257: a bank publishes the scan that waits. -/
def scanPublish (bank1 : Bool) (m : ScanMeas) (s : State) : State :=
  if bank1 then
    if s.sadc.s1.due then
      writeScanMirror (evalS1 (modSadc s fun d => { d with s1 := takeS1 s false m d.s1.scanF d.s1 }))
    else s
  else if s.sadc.s0.due then
    writeScanMirror (evalS0 (modSadc s fun d => { d with s0 := takeS0 s m d.s0.scanF d.s0 }))
  else s

/-- R268: a NIGHT scan; it fails in its first step when KF, to which its clock locks, is not locked (log 15). -/
def nightScan (m : ScanMeas) (s : State) : State :=
  if s.pm.st = 2 && !domOn s 11 && s.clk.kfLock then
    evalS1 (modSadc s fun d => { d with s1 := takeS1 s true m s.time.frame d.s1 })
  else s

/-- R266: a sentinel sees its land outside, or again inside, its range. -/
def sentinel (n : Fin 2) (on : Bool) (s : State) : State :=
  modSadc s fun d => { d with sent := setBit d.sent n.val on }

end Sys2Proof.Machine
end

