-- ==== Sys2Proof/Machine/WakeOps.lean ====
section
/-!
DEFINITION. Acoustic wake (R271-R284): the pre-roll and stamp rings, the mailbox, candidates and their deferrals, detections and
captures.
-/

namespace Sys2Proof.Machine

/-! Rings (R274, R275). -/

/-- R274: the place of a block in the rings. -/
def ringIx (n : Nat) : Nat := n % 2048
/-- R274: the number of the newest complete block; counts are modulo 2^24. -/
def newestBlock (s : State) : Nat := (s.wake.b - 1).toNat

/-- R274: two samples in one word. -/
def packPairs : List (BitVec 16) → List Word
  | a :: b :: rest => (b ++ a : BitVec 32) :: packPairs rest
  | _ => []

/-- R272, R273: WSRC. -/
def wsrc (s : State) : Nat := fld s.wake.word 0 2

/-- R273: what the decimator takes of the two channels of pair 0: a, b, or their sum. -/
def feedTaken (src : Nat) (x : BitVec 16 × BitVec 16) : Int :=
  if src = 0 then x.1.toInt else if src = 1 then x.2.toInt else x.1.toInt + x.2.toInt

/-- R273: which of the block's `n` samples the decimator wrote, from its turns since the block began; at which sample a turn came
no command tells, so that each place is a free number. -/
def feedMask (n : Nat) : Nat → Nat → List Bool → List Bool
  | _, _, [] => []
  | k, _, [b] => List.replicate (n - k) b
  | k, c, b :: bs =>
    let m := (Config.freeWord c).toNat % (n - k + 1)
    List.replicate m b ++ feedMask n (k + m) (c + 1) bs

/-- R273: the block that the decimator delivers: its filters' output where it wrote samples, zeros elsewhere (log 42). -/
def feedSamples (s : State) (xs : List (BitVec 16 × BitVec 16)) : List Int × List (BitVec 16) :=
  let mask := feedMask 16 0 s.freeCtr s.wake.runs
  let ins := (List.range 16).map fun i => if mask.getD i false then feedTaken (wsrc s) (xs.getD i (0, 0)) else 0
  let r := runStage (.wakeFeed (wsrc s)) 16 s.wake.feed ins
  (r.1, (List.range 16).map fun i => if mask.getD i false then BitVec.ofInt 16 (max (-32768) (min 32767 (r.2.getD i 0))) else 0)

/-- R275: the marks of the block that ends: PRIV, GAP, MPF. -/
def blockMarks (s : State) : BitVec 3 :=
  BitVec.ofNat 3 (b2n s.wake.privNext + 2 * b2n s.wake.gapNext + 4 * b2n s.wake.mpfNext)

/-- R274, R281: the block that ends enters the rings, with its stamp and its marks, and the next one begins as things stand. -/
def storeBlock (xs : List (BitVec 16 × BitVec 16)) (s : State) : State :=
  let n := s.wake.b.toNat
  let k := ringIx n
  let r := feedSamples s xs
  let s1 := modWake s fun w =>
    { w with b := w.b + 1, pre := msetAll 0 w.pre (8 * k) (packPairs r.2), feed := r.1,
             stamps := mset {} w.stamps k (stampNow s), marks := mset 0 w.marks k (blockMarks s),
             privNext := false, gapNext := false, mpfNext := false, runs := [] }
  noteFeed { s1 with freeCtr := s.freeCtr + s.wake.runs.length }

/-! Mailbox (R275, R276). -/

/-- A word of WE's X memory. -/
def weX (s : State) (a : Nat) : Sample := mget 0 s.wake.we.x a
/-- A word written by the keeper into WE's X memory. -/
def weXSet (a : Nat) (v : Sample) (s : State) : State :=
  modWake s fun w => { w with we := { w.we with x := mset 0 w.we.x a v } }

/-- R277: a deferral is in force. -/
def deferring (s : State) : Bool := candDefers s && (s.wake.nightAsk || s.conv.pend0.isSome)

/-- R275: WSTAT for the newest block. -/
def wstat (s : State) : Sample :=
  let m := mget 0 s.wake.marks (ringIx (newestBlock s))
  BitVec.ofNat 24 (m.toNat + 8 * pdm0Rate s.conv + 32 * (s.pm.st.toNat % 4) + 128 * b2n (deferring s) +
    256 * b2n s.wake.det)

/-! Detections (R279). -/

/-- R279: the start block, and whether it was clipped to the ring. -/
def startBlock (start b : Nat) : Nat × Bool :=
  if serialGt 24 start b || 2047 < (b + 2 ^ 24 - start) % 2 ^ 24 then ((b + 2 ^ 24 - 2047) % 2 ^ 24, true)
  else (start, false)

/-- R281: the marks of any block from `a` to `b`. -/
def marksFrom (s : State) (a b : Nat) : BitVec 3 :=
  (List.range ((b + 2 ^ 24 - a) % 2 ^ 24 + 1)).foldl (fun m i => m ||| mget 0 s.wake.marks (ringIx (a + i))) 0

/-- R279, R284: a report that is not discarded. -/
def detect (cls score start : Nat) (s : State) : State :=
  let b := newestBlock s
  let q := startBlock start b
  let st := mget {} s.wake.stamps (ringIx q.1)
  let rec_ := BitVec.ofNat 32 (cls + 16 * score + 2 ^ 12 * b2n q.2 + 2 ^ 13 * (marksFrom s q.1 b).toNat +
    2 ^ 16 * (s.pm.st.toNat % 4))
  let s1 :=
    if s.wake.det then modWake s fun w => { w with dcount := if w.dcount = 15 then 15 else w.dcount + 1 }
    else
      modWake s fun w =>
        { w with det := true, wrec := rec_, recFrm := st.frame, recLo := st.utLo, recSub := st.utSub }
  raiseEntry { kind := 0, src := 104, pay := pay (cls + 16 * score), stamp := some st } s1

/-- R276: a REPORT word is acted on: a refused or masked class is discarded and counted. -/
def actReport (r start : Sample) (s : State) : State :=
  if bit r 23 then
    let cls := fld r 16 4
    if 4 ≤ cls || !bit s.wake.word (2 + cls) then modWake s fun w => { w with disc := sat8 w.disc }
    else detect cls (fld r 8 8) start.toNat s
  else s

/-! Candidates (R277, R278). -/

/-- R277: the 1.5 s have passed with the candidate held: it is told, and a deferral in force ends. -/
def candTimeout (s : State) : State :=
  let s1 := modWake s fun w => { w with candAge := max w.candAge 1500 }
  releaseRate (if s.wake.cand && !s.conv.privMute then raiseEv 105 0 (modWake s1 fun w => { w with cto := true }) else s1)

/-- R277: one strobe of keeper time. -/
def ageCandidate (s : State) : State :=
  let s1 := modWake s fun w =>
    { w with candAge := if w.candAge < 1500 then w.candAge + 1 else w.candAge,
             sinceEnd := if w.cand || 100 ≤ w.sinceEnd then w.sinceEnd else w.sinceEnd + 1 }
  if s.wake.cand && s.wake.candAge = 1499 then candTimeout s1 else s1

/-- R277: CAND as read at a strobe; the keeper treats it as 0 under PRIV_MUTE (R278). -/
def actCand (c : Bool) (s : State) : State :=
  if c && !s.conv.privMute then
    if s.wake.cand then s
    else modWake s fun w => { w with cand := true, candAge := if w.sinceEnd < 100 then w.candAge else 0 }
  else endCandidate s

/-! The strobe (R276, R57). -/

/-- R57, R30: WE has not executed WAITF since its release. -/
def weOverran (x : Engine) : Bool := (x.run == .running) && !x.waitfDone

/-- R276: steps 1 and 2: the mailbox is read and acted on, or WE has overrun. -/
def readMailbox (s : State) : State :=
  let x := s.wake.we
  if engRuns x then
    if x.waitfDone then
      let c := bit (weX s 0xFF1) 23
      let s1 := actReport (weX s 0xFF0) (weX s 0xFF2) s
      actCand c (weXSet 0xFF0 0 s1)
    else
      raiseLimited 16 25 25 none (modWake s fun w => { w with we := { w.we with overruns := w.we.overruns + 1 } })
  else s

/-- R276, R80: WE is released from WAITF, and one that PSTART has started begins at PC 0. -/
def releaseWe (s : State) : State :=
  modWake s fun w =>
    if w.startNext then
      { w with startNext := false, we := { w.we with pc := 0, run := .running, waitfDone := false } }
    else if w.we.run == .waitF then { w with we := { w.we with run := .running, waitfDone := false } }
    else w

/-- R276: one wake block strobe. -/
def wakeStrobe (xs : List (BitVec 16 × BitVec 16)) (s : State) : State :=
  if s.wake.loaded then
    let s1 := readMailbox (ageCandidate (storeBlock xs s))
    let s2 := weXSet 0xFFF (BitVec.ofNat 24 (newestBlock s1)) (weXSet 0xFFE (wstat s1) s1)
    releaseWe s2
  else noteFeed (modWake s fun w =>
    { w with b := w.b + 1, privNext := false, gapNext := false, mpfNext := false, runs := [], feed := [] })

/-! Captures (R282). -/

/-- R282: the words of the 2.0 s that end with the newest complete block. -/
def captureWords (s : State) : List Word :=
  let n := newestBlock s
  (List.range 2000).flatMap fun i =>
    mgetN 0 s.wake.pre (8 * ringIx (n + 2 ^ 24 - 1999 + i)) 8

/-- R282: the reason why a capture request is ignored, in the order of its checks. -/
def captureBad (s : State) : Option Nat :=
  if s.ret.lc ≠ 3 || s.conv.permit = 0 then some 4
  else if s.wake.capBusy then some 14
  else if s.conv.privMute then some 15
  else none

/-- R282: the capture copies; the earlier capture is gone. -/
def startCapture (s : State) : State :=
  modWake s fun w => { w with capBusy := true, capDone := false, cap := msetAll 0 [] 0 (captureWords s) }

/-- R422: the capture completes: the read position of every view returns to 0. -/
def captureDone (s : State) : State :=
  if s.wake.capBusy then
    let s1 := modWake s fun w => { w with capBusy := false, capDone := true }
    let zero (m : Map PView) (k : Nat) : Map PView := mset {} m k { mget {} m k with cap := 0 }
    modPorts s1 fun p => { p with views := (List.range 16).foldl zero p.views }
  else s

/-- R393: captures and the permit are wiped. -/
def wipeCaptures (s : State) : State :=
  let s1 := if s.conv.permit = 0 then s else permitEnds s
  modWake s1 fun w => { w with cap := [], capDone := false, capBusy := false }

end Sys2Proof.Machine
end

