-- ==== Sys2Proof/Machine/ProgOps.lean ====
section
/-!
DEFINITION. Program changes (R36, R129, R132, R172, R372): the control program starts, the control program ends, and the
resident program starts from its beginning on a core that holds nothing.
-/

namespace Sys2Proof.Machine

/-- R36, R171, R189, R233: the tables that the resident program uses. -/
def resTables (s : State) : Tables := { power := s.ret.power }

/-- R129, R383: the tables that an image set carries. -/
def setTables (ws : List Word) : Tables :=
  { proc := kindData ws 6, power := kindData ws 7, sup := kindData ws 8, conv := kindData ws 9, res := kindData ws 11,
    wdog := setWdog ws }

/-- R38: no valid control program runs, so that no copy is made and STBY_STALE reads 0 unless a fill runs. -/
def noCopies (s : State) : State :=
  modArb (modMirror s fun m => { m with last := none, fly := none, flyBad := false, dirty := [], flyDirty := [], jnl := [],
                                        flyJnl := [], overload := 0 }) fun a => { a with stale := false }

/-- R36, R37: the tables and settings of the resident program take effect; the comparator states go on (R260, R269). -/
def residentTables (s : State) : State :=
  startConv (loOn s) (startPower (modSadc (modCore s fun c => { c with tab := resTables s }) fun d => { d with tab := s.ret.cmp }))

/-- R37, R38: the resident program begins; EVAC_IN asserted starts message 0. -/
def residentBegins (s : State) : State := if s.sadc.evac then evacStart s else s

/-- R83: SV as a program that has just been released leaves it. -/
def svFresh (run : EngRun) (x : Engine) : Engine := { x with pc := 0, run := run, waitfDone := false }

/-- R132, R230, R372: the control program has ended and SV resumes the resident program; its D16SEM ends with it (log 13). -/
def controlEnds (s : State) : State :=
  let s1 := retireResources (lineEndAll 5 s)
  let s2 := fadeRoutes (modCore s1 fun c =>
    { c with prog := .resident, svStop := false, auto := none, autoOn := false, cmdSeen := false, wdog := 0,
             eng := vmod c.eng 24 fun x => { x with run := .running, waitfDone := false, dq := [], fq := [], sysq := [], sigq := [] },
             fab := { c.fab with d16Sem := none, lookA := 48 } })
  residentBegins (noCopies (residentTables s2))

/-- R172: every Ceiling limiter starts anew. -/
def limitersAnew (f : Fabric) : Fabric :=
  { f with sinks := (f.sinks.map fun x => (x.1, { x.2 with win := [], gain := 16777216 })).filter fun x => x.2 ≠ {} }

/-- R167, R172: every input filter starts from zero. -/
def filtersAnew (s : State) : State :=
  modWake (modConv s fun c => { c with filt := vmap c.filt fun _ x => { x with dc := [], hp := [], dec := [], lev := [], bad := true } })
    fun w => { w with feed := [] }

/-- R132: the fill that a control program's start begins. -/
def startFill (s : State) : State :=
  if s.arb.stbyUp then modMirror s fun m => { m with fill := match m.fill with | some .all => some .all | _ => some .xy } else s

/-- R81, R129, R136, R148, R172, R260, R361, R372: the control program starts at a boundary, with no D16SEM of one before
(log 13). -/
def controlStarts (s : State) : State :=
  let n := s.core.load.set
  let ws := setWords s n.toNat
  let s1 := retireResources s
  let s2 := modHosts s1 fun h => { h with claims := [] }
  let s3 := modCore s2 fun c =>
    { c with prog := .control, svStart := false, svStop := false, runSet := n, auto := none, autoOn := false, play := none,
             load := { c.load with step := 5 }, sems := .replicate 32 0, wdog := 0, tab := setTables ws, cmdSeen := false,
             eng := vmod c.eng 24 (svFresh .starting),
             fab := limitersAnew { c.fab with d16Phase := 0, d16Sem := none, lookA := 48, sup := .replicate 9 0 } }
  let s4 := startConv (loOn s) (startPower (startCmp (kindData ws 10) (filtersAnew s3)))
  let s5 := startFill (noCopies (readFps (startSeq s4)))
  fabApply true (parseList ((kindData ws 5).map (·.setWidth 24))) s5

/-- R301, R310, R317: a core die that holds nothing starts the resident program; the frame length and the rate of D48 are the
device's (R29, R137); `auto` is the set that it loads by itself. -/
def coldCore (auto : Option Nat) (s : State) : State :=
  let s1 := if s.core.prog == .control then retireResources s else s
  let e : Vector Engine 25 := vmod ({} : CoreSt).eng 24 (svFresh .running)
  let s2 := { s1 with core := { ({} : CoreSt) with eng := e, fab := { f := s.core.fab.f, r96 := s.core.fab.r96 } } }
  let s3 := (List.finRange 8).foldl (fun t b => holdEnds b 0 (modLine t b lineIdle)) s2
  let s4 := residentBegins (noCopies (residentTables (earthStop s3)))
  match auto with
  | some n => startAuto n s4
  | none => s4

/-- R301: the set that the resident program loads again after a cold resume of a core under a control program. -/
def reload (s : State) : Option Nat := if s.core.prog == .control then some s.core.runSet.toNat else s.core.auto

end Sys2Proof.Machine
end

