-- ==== Sys2Proof/Machine/PmOps.lean ====
section
/-!
DEFINITION. The power manager (R307-R330): domains, pad holds, wake sources, the entry handshake with its abort, and the DAWN
sequence with its retries and failures.
-/

namespace Sys2Proof.Machine

/-! Domains (R307). -/

/-- A domain's power bit set. -/
def setDom (k : Nat) (v : Bool) (s : State) : State := modPm s fun p => { p with on := setBit p.on k v }
/-- R307: domains CORE, ENG and MEM of a side. -/
def coreDom (x : Side) : Nat := 3 + 3 * (sideIx x).val
def engDom (x : Side) : Nat := 4 + 3 * (sideIx x).val
def memDom (x : Side) : Nat := 5 + 3 * (sideIx x).val

/-- R307: a core side loses its power, retention included. -/
def sideOff (x : Side) (s : State) : State :=
  let off (w : BitVec 16) : BitVec 16 := setBit (setBit (setBit w (coreDom x) false) (engDom x) false) (memDom x) false
  let s1 := modPm s fun p =>
    { p with on := off p.on, ret := setBit p.ret (memDom x) false, checkOk := p.checkOk && x ≠ s.arb.active }
  modClk s1 fun c =>
    { c with xo := vset c.xo (sideIx x) false, fl := vset c.fl (sideIx x) false, el := vset c.el (sideIx x) false }

/-- R305, R304: an accepted takeover command that something other than its acknowledgement ends is an ignored item. -/
def dropTake (s : State) : State :=
  if s.arb.take.isSome then ignore 0 14 s.arb.takePort.toNat 0x0343 (modArb s fun a => { a with take := none }) else s

/-- R288, R46: the standby core die is powered down; what the mirror link held for it is gone. -/
def standbyDown (s : State) : State :=
  let s1 := sideOff (other s.arb.active) (dropTake s)
  modMirror (modArb s1 fun a => { a with stbyUp := false }) fun m =>
    { m with fill := none, last := none, fly := none, flyBad := false, dirty := [], flyDirty := [], jnl := [], flyJnl := [],
             overload := 0 }

/-! Class H pads (R323, R324, R432). -/

/-- R432: the source of LRLYb. -/
def lrlySource (s : State) (b : Fin 8) : Bool :=
  let st := (s.bridges[b]).st
  bridgeFitted s b.val && st ≠ 4 && st ≠ 6 && st ≠ 8
/-- R432: the source of AMP_ENn. -/
def ampSource (s : State) (d : Fin 4) : Bool :=
  dieFitted s d.val && anyBelow 8 fun b => b / 2 = d.val && contributes (s.bridges.toList.getD b {})

/-- The relay and enable levels of every land. -/
def lrlyAll (s : State) : BitVec 8 := (List.finRange 8).foldl (fun w b => setBit w b.val (lrlySource s b)) 0
def ampAll (s : State) : BitVec 4 := (List.finRange 4).foldl (fun w d => setBit w d.val (ampSource s d)) 0

/-- R323: the hold latches of die d's pads capture before the die is powered down. -/
def capturePads (d : Fin 4) (s : State) : State :=
  let one (w : BitVec 8) (b : Fin 8) : BitVec 8 := if b.val / 2 = d.val then setBit w b.val (lrlySource s b) else w
  if s.pm.held then s
  else
    modPm { s with pads := { s.pads with lrly := (List.finRange 8).foldl one s.pads.lrly,
                                         amp := setBit s.pads.amp d.val (ampSource s d) } } fun p => { p with held := true }

/-- R323: the latches of FAULT0-FAULT3, ATTN_A and PRIV_LED capture as NIGHT begins. -/
def captureKa (s : State) : State :=
  let s1 := { s with pads := { s.pads with led := ledLevel s } }
  modPm s1 fun p => { p with held := true, kaHeld := true }

/-- R324: every hold is released. -/
def releaseHolds (s : State) : State :=
  let s1 := modPm s fun p => { p with held := false, kaHeld := false }
  { s1 with pads := { s1.pads with lrly := lrlyAll s1, amp := ampAll s1, led := ledLevel s1, f0held := none } }

/-- R324: holds are released at the first boundary at which SV has executed WDOG. -/
def holdsBoundary (s : State) : State :=
  if s.pm.held && s.arb.coreRun && s.pm.wdogSince && s.pm.entry.isNone && s.pm.back.isNone then releaseHolds s else s

/-- R319: FAULT0 is forced to its asserted level in its hold latch, which keeps the level it held. -/
def forceFault0 (s : State) : State :=
  if s.pads.f0held.isSome then s
  else { s with pads := { s.pads with fault := setBit s.pads.fault 0 true, f0held := some (bit s.pads.fault 0) } }

/-- R319: FAIL is cleared: FAULT0 takes the level that its hold latch kept, while the hold lasts. -/
def unforceFault0 (s : State) : State :=
  match s.pads.f0held with
  | some v =>
    let s1 := { s with pads := { s.pads with f0held := none } }
    if s.pm.kaHeld then { s1 with pads := { s1.pads with fault := setBit s1.pads.fault 0 v } } else s1
  | none => s

/-! Port P (R331, R349). -/

/-- R349, R356, R347: a transfer or bus clear of port P ends with a result; its STOP lets changed settings take effect. -/
def pcEnds (result : Nat) (s : State) : State :=
  let c := s.ports.pc
  let s1 := modTw s .p fun t => if t.phase = .idle then { t with use := t.cfg } else t
  raiseEv 114 (result + 8 * c.index.toNat)
    (modPorts s1 fun p => { p with pc := { c with busy := false, result := BitVec.ofNat 3 result, losses := 0, retry := false } })

/-- R349, R331: the active core die that port P stands on stops or changes. -/
def portPStops (s : State) : State :=
  let s1 := if s.ports.pc.busy then pcEnds 7 s else s
  modTw s1 .p fun t => { t with phase := .idle, view := none }

/-! Single domains stopping and starting (R44, R180, R268, R307). -/

/-- R44: VA stops: pairs 1-3 stop, and pair 0 takes 0.768 MHz for a loaded WE, or stops. -/
def vaStop (s : State) : State :=
  let s1 := modConv s fun c => { c with dayRate := c.pdmRate }
  setRate 3 0 (setRate 2 0 (setRate 1 0 (setRate 0 (if s.wake.loaded then 1 else 0) s1)))
/-- R44: each enabled pair returns to the rate it had. -/
def vaReturn (s : State) : State :=
  updateClocks ((List.finRange 4).foldl (fun t q => if t.conv.pdmEn[q] then setRate q t.conv.dayRate[q] t else t) s)

/-- A domain of steps 1, 7 and 8 comes up. -/
def domUp (k : Nat) (s : State) : State :=
  let s1 := setDom k true s
  if k = 9 then vaReturn s1
  else if k = 10 then voUp s1
  else if k = 11 then spoilScans (modClk s1 fun c => { c with sadcLock := true, sadcCore := s.arb.coreRun })
  else if h : 12 ≤ k ∧ k < 16 then dieUp ⟨k - 12, by omega⟩ s1
  else s1

/-- A domain goes down. -/
def domDown (k : Nat) (s : State) : State :=
  let f (t : State) : State :=
    if k = 9 then vaStop t
    else if k = 10 then voDown t
    else if k = 11 then
      modClk (writeScanMirror (modSadc t fun d =>
        { d with s0 := { d.s0 with valid := false, due := false }, s1 := { d.s1 with due := false } }))
        fun c => { c with sadcLock := false, sadcCore := false }
    else if h : 12 ≤ k ∧ k < 16 then dieDown ⟨k - 12, by omega⟩ (capturePads ⟨k - 12, by omega⟩ t)
    else t
  let s1 := setDom k false (f s)
  if k = 9 then updateClocks s1 else s1

/-- R308: the power manager keeps the TDM ports stopped, or lets them run; their receive slots fade (R159). -/
def tdmHalt (on : Bool) (s : State) : State := modPm s fun p => { p with tdmHalt := on }
/-- R308: the TDM ports are stopped, their receive slots being zero. -/
def tdmStop (s : State) : State :=
  modFab (tdmHalt true s) fun f => { f with tdm := vmap f.tdm fun _ t => tdmNext true { t with st := 0, rxGain := 0, rateMeas := 0 } }
/-- R159: the ports that nothing keeps stopped return as after an absence. -/
def tdmReturnAll (s : State) : State :=
  if s.clk.degraded then s
  else modFab s fun f => { f with tdm := vmap f.tdm fun _ t => if t.en && t.st = 0 && !s.pm.tdmHalt then { t with st := 1 } else t }

/-! Wake sources (R316). -/

/-- R316: the level wake source of a code is set. -/
def wakeLevel (s : State) (code : Nat) : Bool :=
  match code with
  | 1 => bit s.sadc.sent 0 || s.sadc.evac
  | 2 => bit s.sadc.sent 1 || s.sadc.alert
  | 3 => cmpWakes s
  | 4 => s.wake.det
  | 5 => s.conv.muteSeen
  | 6 => s.feeds[(0 : Fin 2)].lost || s.feeds[(1 : Fin 2)].lost || s.pm.fret
  | 7 => s.time.alFlag[(0 : Fin 2)] && s.time.alEn[(0 : Fin 2)]
  | 8 => s.time.alFlag[(1 : Fin 2)] && s.time.alEn[(1 : Fin 2)]
  | 9 => s.time.perFlag && s.time.perEn
  | _ => false

/-- R316: the lowest code of the level sources that are set. -/
def wakeCode (s : State) : Option Nat := ((List.range 9).map (· + 1)).find? (wakeLevel s)
/-- R316: the state that a source wakes to. -/
def wakeTarget (code : Nat) : BitVec 2 := if code < 5 then 0 else 1

/-! The entry handshake (R309-R315). -/

/-- R303, R321: a side DAWN runs. -/
def sideRuns (s : State) : Bool := s.pm.dawn.any fun d => d.kind == .side

/-- R311: the blocks of an entry, in order; the standby core die is asked while its DAWN runs too. -/
def entryBlocks (s : State) (target : BitVec 2) : List Nat :=
  let asks (b : Nat) : Bool :=
    if b = 0 then s.wake.loaded
    else if b = 1 then s.arb.stbyUp || sideRuns s
    else if b = 2 then s.pm.st = 0
    else if 4 ≤ b && b < 8 then domOn s (8 + b)
    else if b = 8 then domOn s 10
    else if b = 9 then domOn s 9
    else if b = 10 then domOn s 11
    else if b = 11 then domOn s 2
    else b < 14
  (if target = 1 then [1, 2, 12] else List.range 14).filter asks

/-- The entry changed. -/
def modEntry (f : Entry2 → Entry2) (s : State) : State := modPm s fun p => { p with entry := p.entry.map f }

/-- R310, R458: every running engine of the core has executed WAITF, and no SYS request is open; the resident program
executes WAITF in every frame. -/
def allWaiting (s : State) : Bool :=
  (List.finRange 25).all fun i =>
    let x := s.core.eng[i]
    (x.run == .waitF || (!engRuns x && x.run != .starting) ||
      (i.val = 24 && s.core.prog == .resident && x.waitfDone)) && x.sysq.isEmpty

/-- A block's answer (R311). -/
inductive Reply | agree | delay | refuse
  deriving DecidableEq, Repr

/-- R311: states in which a power die agrees. -/
def dieQuiet (x : Bridge) : Bool := x.st = 0 || x.st = 4 || 6 ≤ x.st.toNat
/-- The bridges of die d. -/
def dieBridges (s : State) (d : Nat) : List Bridge := (s.bridges.toList.drop (2 * d)).take 2

/-- R311: KN still has a record or a retained word to write. -/
def storeWrites (s : State) : Bool :=
  (s.hosts.defNow ++ s.hosts.defHeld).any fun d =>
    match d.eff with | .rsWr _ _ => true | .record _ _ _ _ _ _ => true | .calib _ _ => true | _ => false

/-- R311: what block b answers; for NIGHT the active core die agrees at a boundary alone (coreRests). -/
def blockReply (s : State) (b : Nat) (target : BitVec 2) : Reply :=
  if b = 0 then if candDefers s then .delay else .agree
  else if b = 2 then if s.core.fab.tdm.any (fun t => t.en && t.rxGain ≠ 0) then .delay else .agree
  else if b = 3 then if sweepRuns s || s.lmu.pend then .delay else .agree
  else if 4 ≤ b && b < 8 then
    let xs := dieBridges s (b - 4)
    if xs.all dieQuiet then .agree else if xs.any (fun x => x.st ≠ 3 && !dieQuiet x) then .refuse else .delay
  else if b = 8 then if s.conv.vo = .rest then .agree else .delay
  else if b = 10 then if s.sadc.s0.due || s.sadc.s1.due then .delay else .agree
  else if b = 11 then
    if saveBusy s || imgBusy s || s.ret.wiping then .refuse else if storeWrites s then .delay else .agree
  else if b = 12 then if loadOpen s then .refuse else if target = 1 then .agree else .delay
  else if b = 13 then
    if anyBelow 2 (fun x => (s.ports.tw.toList.getD x {}).phase != .idle) || s.ports.fp.sel then .delay else .agree
  else .agree

/-- R311, R277, R180, R159: what a block begins when it is asked and answers DELAY. -/
def blockDelays (b : Nat) (s : State) : State :=
  if b = 0 then modWake s fun w => { w with nightAsk := true }
  else if b = 2 then tdmHalt true s
  else if b = 3 then
    if sweepRuns s then let t := lineNight s
                        { t with lmu := { t.lmu with pend := true } }
    else s
  else if b = 8 then modConv s voReverse
  else s

/-- R313, R180, R159: an entry ends while a block delays: the TDM receive slots fade in, and VO's reverse sequence turns round. -/
def blockResumes (e : Entry2) (s : State) : State :=
  if e.block = 2 then tdmHalt false s
  else if e.block = 8 && 0 < e.delays then modConv s voTurns
  else s

/-- R310, R38: the core state is saved into MEM, which enters retention. -/
def coreRetains (s : State) : State :=
  let x := s.arb.active
  let off (w : BitVec 16) : BitVec 16 := setBit (setBit (setBit w (coreDom x) false) (engDom x) false) (memDom x) false
  let s1 := modPm (noCopies (portPStops s)) fun p =>
    { p with retCore := some s.core, checkOk := true, on := off p.on, ret := setBit p.ret (memDom x) true }
  let s2 := modClk s1 fun c =>
    { c with xo := vset c.xo (sideIx x) false, fl := vset c.fl (sideIx x) false, el := vset c.el (sideIx x) false }
  modArb s2 fun a => { a with coreRun := false }

/-- R303: a side DAWN is abandoned. -/
def abandonSide (s : State) : State :=
  match s.pm.dawn with
  | some d => if d.kind == .side then sideOff d.side (modPm s fun p => { p with dawn := none }) else s
  | none => s

/-- R311: a block that agrees is stopped. -/
def blockStops (b : Nat) (target : BitVec 2) (s : State) : State :=
  if b = 0 then modWake s fun w => { w with nightAsk := false }
  else if b = 1 then standbyDown (abandonSide s)
  else if b = 2 then tdmStop s
  else if 4 ≤ b && b < 8 then domDown (8 + b) s
  else if b = 8 then domDown 10 s
  else if b = 9 then domDown 9 s
  else if b = 10 then domDown 11 s
  else if b = 11 then setDom 2 false s
  else if b = 12 && target = 2 then coreRetains s
  else s

/-- R321, R303: a side DAWN of a powered-down side begins; not while the device goes down (R311). -/
def startSide (x : Side) (s : State) : State :=
  if s.pm.dawn.isNone && s.pm.entry.isNone && !s.arb.stbyUp && s.feeds[sideIx x].ok && x ≠ s.arb.active then
    modPm (setDom (coreDom x) true (sideOff x s)) fun p => { p with dawn := some { kind := .side, side := x, step := 2 } }
  else s

/-- R310, R317: the retained core state as it resumes: the delay SRAM and the block store read zero. -/
def resumed (c : CoreSt) : CoreSt :=
  { c with sram := [],
           fab := { c.fab with inB := [], outB := [], directB := [], playB := [], txW := [],
                               outW := c.fab.outW.filter fun p => p.1 < 4096,
                               sinks := (c.fab.sinks.map fun x => (x.1, { x.2 with win := [] })).filter fun x => x.2 ≠ {} } }

/-! The DAWN steps that an entry's rollback and a DAWN share (R313, R317). -/

/-- The DAWN changed. -/
def modDawn (f : Dawn → Dawn) (s : State) : State := modPm s fun p => { p with dawn := p.dawn.map f }

/-- R311, R317: the domain of a block that steps 7 and 8 of the wake table start. -/
def blockDom (b : Nat) : Nat := if b = 8 then 10 else if b = 9 then 9 else if b = 10 then 11 else 8 + b

/-- R317: the domains that a step powers. -/
def stepDoms (s : State) (d : Dawn) (n : Nat) : List Nat :=
  match n with
  | 1 => [2]
  | 2 => [coreDom d.side]
  | 5 => [memDom d.side]
  | 6 => [engDom d.side]
  | 7 | 8 =>
    if d.kind == .back then d.blocks.map blockDom
    else if n = 7 then [9, 10, 11].filter fun k => !domOn s k
    else [12, 13, 14, 15].filter fun k => dieFitted s (k - 12) && !domOn s k
  | _ => []

/-- The power bits of a list of domains. -/
def setDoms (ks : List Nat) (v : Bool) (s : State) : State := ks.foldl (fun t k => setDom k v t) s

/-- R317, R32: step n begins; step 2 takes the side whose feed is available. Whether that records a cause in LAST_CAUSE is
left open (log 44, DESIGN CHOICE): a DAWN from NIGHT records 1, a start from reset none, since no core was active before it. -/
def enterStep (n : Nat) (s : State) : State :=
  match s.pm.dawn with
  | none => s
  | some d =>
    let x := if n = 2 && d.kind == .full && d.other.isNone && !s.feeds[sideIx d.side].ok && s.feeds[sideIx (other d.side)].ok
      then other d.side else d.side
    let e := { d with side := x, step := n, retried := false, off := false }
    let s0 := if x ≠ d.side && !d.boot then modArb s fun a => { a with lastCause := 1 } else s
    let s1 := modPm s0 fun p => { p with dawn := some e }
    if n = 7 || n = 8 then s1 else setDoms (stepDoms s1 e n) true s1

/-! The rollback of an aborted entry (R313, R314). -/

/-- R313: the wake-table step that starts a block again: of the active core die, the first of its steps; 0 for a block that
has none. -/
def stepOfBlock (b : Nat) : Nat := if b = 11 then 1 else if b = 12 then 2 else if 8 ≤ b && b < 11 then 7 else if 4 ≤ b && b < 8 then 8 else 0

/-- R313: a stopped block that has no wake-table step is started again. -/
def blockRestarts (b : Nat) (s : State) : State :=
  if b = 1 then if s.pm.st = 0 then startSide (other s.arb.active) s else s
  else if b = 2 then tdmReturnAll (tdmHalt false s)
  else if b = 3 then lineResume s
  else s

/-- R309, R316, R321: in DUSK a level source whose target is DAY raises the state. -/
def raiseDusk (s : State) : State :=
  if s.pm.st = 1 && s.pm.entry.isNone && s.pm.dawn.isNone && s.pm.back.isNone && !s.pm.rise then
    match wakeCode s with
    | some c => if wakeTarget c = 0 then modPm s fun p => { p with rise := true, wakeSrc := BitVec.ofNat 4 c } else s
    | none => s
  else s

/-- R313: every stopped block runs again: the abort is written and reported, and the request ends. -/
def abortEnds (r : Rollback) (s : State) : State :=
  raiseDusk (raiseEv 6 (r.block + 16 * r.reason) (modPm s fun p =>
    { p with back := none, req := none, wdogSince := false, abBlock := BitVec.ofNat 4 r.block, abReason := BitVec.ofNat 4 r.reason,
             abFrom := r.from_, abTarget := r.target, aborts := sat8 p.aborts }))

/-- R313: the blocks `bs` still stand stopped: those of one wake-table step restart together by that step, the others at once. -/
def backRun (r : Rollback) : List Nat → State → State
  | [], s => abortEnds r s
  | b :: bs, s =>
    let n := stepOfBlock b
    let rest := if n = 0 then bs else bs.filter fun c => stepOfBlock c ≠ n
    let s1 := modPm s fun p => { p with back := some { r with todo := rest } }
    if n = 0 then
      let s2 := blockRestarts b s1
      if s2.pm.dawn.isSome then s2 else backRun r bs s2
    else
      let d : Dawn := { kind := .back, side := s.arb.active, step := n, target := r.from_, blocks := b :: bs.filter fun c => stepOfBlock c = n }
      if (stepDoms s1 d n).all (domOn s1) then backRun r bs s1
      else enterStep n (modPm s1 fun p => { p with dawn := some d })

/-- R313, R320: a rollback goes on once no DAWN of its own runs and a core die runs; with nothing to start again it ends at once. -/
def backNext (s : State) : State :=
  match s.pm.back with
  | some r =>
    if s.pm.repeat_ || s.pm.dawn.any (fun d => d.kind != .side || !r.todo.isEmpty) then s else backRun r r.todo s
  | none => s

/-- R313, R314: the entry is aborted and rolled back; blocks of `skip` are not started again. -/
def abortEntry (block reason : Nat) (skip : List Nat) (s : State) : State :=
  match s.pm.entry with
  | none => s
  | some e =>
    let r : Rollback :=
      { block := block, reason := reason, from_ := e.from_, target := e.target, todo := e.stopped.filter fun b => !skip.contains b }
    let s1 := modWake (modPm s fun p => { p with entry := none, back := some r }) fun w => { w with nightAsk := false }
    backNext (blockResumes e { s1 with lmu := { s1.lmu with pend := false } })

/-- R314, R316: what a change of a level wake source brings: an entry is aborted, a DAWN to DUSK is raised to DAY, DUSK is left. -/
def pmWatch (s : State) : State :=
  match wakeCode s with
  | none => s
  | some c =>
    match s.pm.entry, s.pm.dawn with
    | some e, _ => if e.window && e.target = 2 then s else abortEntry 15 3 [] s
    | none, some d =>
      if d.kind == .full && d.target = 1 && wakeTarget c = 0 then modPm s fun p => { p with dawn := some { d with target := 0 } }
      else s
    | none, none => raiseDusk s

/-- A command of the device that may set a level wake source. -/
def actWake (s : State) (f : State → State) : Out := act s fun s => pmWatch (f s)

/-- A command of a host through a port that opens its view; through another port nothing happens.  What it writes may set a level
wake source (R314). -/
def hostAct (pv : PortView) (s : State) (f : State → State) : Out := actWake s fun s => if viewOpen s pv then f s else s

/-- R309, R311: an entry begins at a boundary. -/
def beginEntry (target : BitVec 2) (s : State) : State :=
  let b := (entryBlocks s target).headD 12
  let s1 := modPm s fun p => { p with entry := some { from_ := p.st, target := target, block := b } }
  pmWatch s1

/-- R309, R321: the pending request is taken at a boundary. -/
def requestBoundary (s : State) : State :=
  match s.pm.req with
  | none => s
  | some t =>
    if s.pm.entry.isSome || s.pm.back.isSome || s.pm.dawn.any (fun d => d.kind != .side) || s.pm.rise then s
    else if t = s.pm.st then modPm s fun p => { p with req := none }
    else if t.toNat < s.pm.st.toNat then modPm s fun p => { p with rise := true }
    else beginEntry t s

/-- R311, R315: the next block is asked, or the last one has agreed. -/
def nextBlock (e : Entry2) (s : State) : State :=
  let bs := (entryBlocks s e.target).filter (e.block < ·)
  modEntry (fun e =>
    match bs with
    | b :: _ => { e with block := b, delays := 0, waiting := false, stopped := e.block :: e.stopped }
    | [] => { e with window := true, waiting := false, stopped := e.block :: e.stopped }) s

/-- R311, R312: the block being asked answers. -/
def handshakeReply (s : State) : State :=
  match s.pm.entry with
  | none => s
  | some e =>
    if e.waiting || e.window then s
    else
      match blockReply s e.block e.target with
      | .agree => nextBlock e (blockStops e.block e.target s)
      | .refuse => abortEntry e.block 1 [] s
      | .delay =>
        if 8 ≤ e.delays && e.block ≠ 0 then abortEntry e.block 2 [] s
        else modEntry (fun e => { e with delays := e.delays + 1, waiting := true }) (blockDelays e.block s)

/-- R312: the DELAY time has passed and the block is asked again. -/
def delayEnd (s : State) : State :=
  match s.pm.entry with
  | some e =>
    if e.waiting then
      let s1 := if e.block = 3 then { s with lmu := { s.lmu with pend := false } } else s
      modEntry (fun e => { e with waiting := false }) s1
    else s
  | none => s

/-- R312: the block being asked has not answered within 10 us. -/
def noReply (s : State) : State :=
  match s.pm.entry with
  | some e => if e.waiting || e.window then s else abortEntry e.block 6 [] s
  | none => s

/-- R315, R323: NIGHT is reached at the end of the entry window, the address matchers being armed. -/
def windowEnds (s : State) : State :=
  match s.pm.entry with
  | some e =>
    if e.window && e.target = 2 then
      let s1 := (List.finRange 2).foldl (fun t x =>
        modTw t (if x.val = 0 then .h0 else .h1) fun w => { w with phase := .idle }) (captureKa s)
      modPm s1 fun p => { p with st := 2, entry := none, req := none, wdogSince := false }
    else s
  | none => s

/-- R45, R308, R311: DUSK begins at the boundary after its last block has agreed. -/
def duskBoundary (s : State) : State :=
  match s.pm.entry with
  | some e =>
    if e.window && e.target = 1 then
      let n := s.core.estep
      raiseDusk (modPm (modCore s fun c => { c with estep := min n 2 }) fun p =>
        { p with st := 1, dstep := n, entry := none, req := none })
    else s
  | none => s

/-- R321: DAY begins at the boundary after the engine clock has been raised; the standby side follows. -/
def riseBoundary (s : State) : State :=
  if s.pm.rise && s.pm.st = 1 then
    let n := s.pm.dstep
    let s1 := modPm (modCore s fun c => { c with estep := n }) fun p =>
      { p with st := 0, dstep := 0, rise := false, req := if p.req = some 0 then none else p.req }
    startSide (other s1.arb.active) (tdmReturnAll (tdmHalt false s1))
  else s

/-! The DAWN sequence (R317-R320). -/

/-- R317: the step after step n; steps 7 and 8 are left out when their domains are already on. -/
def stepAfter (s : State) (d : Dawn) (n : Nat) : Nat :=
  if n < 6 then n + 1
  else if n = 6 && !(stepDoms s d 7).isEmpty then 7
  else if n < 8 && !(stepDoms s d 8).isEmpty then 8
  else 9

/-- R317: a full DAWN begins at step 1. -/
def beginDawn (target : BitVec 2) (boot : Bool) (side : Side) (src : Nat) (s : State) : State :=
  let s1 := modPm s fun p =>
    { p with dawn := some { kind := .full, side := side, step := 1, target := target, boot := boot }, repeat_ := false,
             wakeSrc := BitVec.ofNat 4 src }
  enterStep 1 s1

/-- R317, R453: the start from reset begins once KF has locked and a feed is available. -/
def bootDawn (s : State) : State :=
  if s.pm.st = 3 && s.pm.dawn.isNone && !s.pm.repeat_ && s.clk.kfLock && !s.ret.wiping &&
      (s.feeds[(0 : Fin 2)].ok || s.feeds[(1 : Fin 2)].ok) then beginDawn 0 true s.arb.selPref 0 s
  else s

/-- R316, R317: a wake source is taken in NIGHT. -/
def wakeDawn (code : Nat) (s : State) : State :=
  if s.pm.st = 2 && s.pm.dawn.isNone && !s.pm.repeat_ then beginDawn (wakeTarget code) false s.arb.active code s else s

/-- R316: DAWN_START: the level sources of NIGHT, or the start from reset. -/
def dawnStart (s : State) : State :=
  if s.pm.st = 3 then bootDawn s
  else match wakeCode s with | some c => pmWatch (wakeDawn c s) | none => s

/-- R321: a side DAWN has ended well: the die is in standby and its fill begins. -/
def sideDone (x : Side) (s : State) : State :=
  let s1 := modPm s fun p =>
    { p with dawn := none, sideFails := vset p.sideFails (sideIx x) 0, sideTry := vset p.sideTry (sideIx x) false }
  backNext (modMirror (modArb s1 fun a => { a with stbyUp := true }) fun m =>
    { m with fill := some .all, last := none, fly := none, dirty := [], flyDirty := [], jnl := [], flyJnl := [], overload := 0 })

/-- R317, R320: the clocks that steps 4-6 build on are there. -/
def stepClocked (s : State) (d : Dawn) : Bool :=
  let x := sideIx d.side
  (!(4 ≤ d.step && d.step < 7) || d.kfRef || s.clk.xo[x]) && (!(5 ≤ d.step && d.step < 7) || s.clk.fl[x])

/-- R317: the ready criterion of the step holds: its domains come up and the next step begins. -/
def stepReady (s : State) : State :=
  match s.pm.dawn with
  | none => s
  | some d =>
    if d.off || 9 ≤ d.step || (2 ≤ d.step && d.step < 7 && !s.feeds[sideIx d.side].ok) || !stepClocked s d then s
    else
      let x := sideIx d.side
      let s1 :=
        match d.step with
        | 1 => modPm s fun p => { p with ksOff := false }
        | 3 => if d.kfRef then s else modClk s fun c => { c with xo := vset c.xo x true }
        | 4 => modDawn (fun d => { d with wipe := d.kind != .side }) (modClk s fun c => { c with fl := vset c.fl x true })
        | 5 => modPm s fun p => { p with ret := setBit p.ret (memDom d.side) false }
        | 6 => modClk s fun c => { c with el := vset c.el x true }
        | 7 | 8 => (stepDoms s d d.step).foldl (fun t k => domUp k t) s
        | _ => s
      if d.kind == .side && d.step = 6 then sideDone d.side s1
      else if d.kind == .back && (d.step = 1 || 7 ≤ d.step) then backNext (modPm s1 fun p => { p with dawn := none })
      else if d.kind == .back && d.step = 6 then enterStep 9 s1
      else enterStep (stepAfter s1 d d.step) s1

/-- R319, R330: the domain of a failed step; of steps 7 and 8 the one that failed. -/
def failDomain (s : State) (d : Dawn) (dom : Nat) : Nat :=
  match d.step with
  | 1 => 2
  | 2 | 3 | 4 => coreDom d.side
  | 5 => memDom d.side
  | 6 => engDom d.side
  | n => let ks := stepDoms s d n
         if ks.contains dom then dom else ks.headD 0

/-- R330: the cause code of a failed step; steps 7 and 8 name their own. -/
def failCause (step why : Nat) : Nat :=
  match step with
  | 1 => 6
  | 2 => 1
  | 3 => 2
  | 4 => 3
  | 5 => 1
  | 6 => 3
  | 7 => if why = 5 then 5 else 1
  | _ => if why = 4 then 4 else 1

/-- R319: a step has failed twice: it is latched and reported. -/
def latchFail (d : Dawn) (dom cause : Nat) (s : State) : State :=
  let s1 := modPm s fun p =>
    { p with dwStep := BitVec.ofNat 4 d.step, dwDomain := BitVec.ofNat 4 dom, dwCause := BitVec.ofNat 3 cause,
             dwSide := d.side, dwFail := true }
  raiseEv 7 (d.step + 16 * dom + 256 * cause + 2048 * (sideIx d.side).val) (forceFault0 s1)

/-- R303: a side is to be tried every 60 s, unless three of its side DAWNs have failed. -/
def trySide (x : Side) (s : State) : State :=
  modPm s fun p => { p with sideTry := vset p.sideTry (sideIx x) (p.sideFails[sideIx x] < 3) }

/-- R303, R321: a side DAWN has failed. -/
def sideFailed (x : Side) (s : State) : State :=
  backNext (trySide x (modPm (sideOff x s) fun p =>
    { p with dawn := none, sideFails := vset p.sideFails (sideIx x) (p.sideFails[sideIx x] + 1) }))

/-- R320: a step of 2-6 has failed on the side of a full DAWN or a restart. -/
def coreStepFailed (d : Dawn) (s : State) : State :=
  let y := other d.side
  let s1 := trySide d.side (sideOff d.side s)
  let s2 := modPm s1 fun p => { p with retCore := if d.side = s.arb.active then none else p.retCore }
  match d.other with
  | none =>
    if s.feeds[sideIx y].ok then
      let s3 := modArb s2 fun a => { a with lastCause := 5 }
      enterStep 2 (modPm s3 fun p => { p with dawn := some { d with side := y, other := some d.step, wipe := false } })
    else modPm s2 fun p => { p with dawn := none, repeat_ := true }
  | some k =>
    if k = 3 && d.step = 3 && !d.kfRef then
      enterStep 2 (modPm s2 fun p =>
        { p with dawn := some { d with side := s.arb.selPref, kfRef := true, wipe := false } })
    else modPm s2 fun p => { p with dawn := none, repeat_ := true }

/-- R319: a step has not become ready in time. -/
def stepTimeout (why : Nat) (dom : Nat) (s : State) : State :=
  match s.pm.dawn with
  | none => s
  | some d =>
    if d.off || 9 ≤ d.step then s
    else if !d.retried then
      let s2 := if d.step < 7 then setDoms (stepDoms s d d.step) false s else s
      modDawn (fun d => { d with retried := true, off := true }) (modPm s2 fun p => { p with dwRetries := sat8 p.dwRetries })
    else
      let k := failDomain s d dom
      let s1 := latchFail d k (failCause d.step why) s
      let next (n : Nat) (t : State) : State :=
        if d.kind == .back then backNext (modPm t fun p => { p with dawn := none }) else enterStep n t
      if d.step = 1 then next 2 (modPm (setDom 2 false s1) fun p => { p with ksOff := true })
      else if d.step < 7 then if d.kind == .side then sideFailed d.side s1 else coreStepFailed d s1
      else
        let s2 := ((stepDoms s d d.step).filter (· ≠ k)).foldl (fun t j => domUp j t) s1
        let s3 := if h : 12 ≤ k ∧ k < 16 then dieFailed ⟨k - 12, by omega⟩ s2 else s2
        next (if d.step = 7 then (if (stepDoms s3 d 8).isEmpty then 9 else 8) else 9) s3

/-- R319: the 100 us off have passed and the step runs again. -/
def retryOffEnd (s : State) : State :=
  match s.pm.dawn with
  | some d =>
    if d.off then
      let s1 := modDawn (fun d => { d with off := false }) s
      if d.step < 7 then setDoms (stepDoms s1 d d.step) true s1 else s1
    else s
  | none => s

/-- R317: the wipe of the delay SRAM and the block store is complete. -/
def sramWiped (s : State) : State := modDawn (fun d => { d with wipe := false }) s

/-- R320: the whole DAWN is repeated; it aims at DAY after a reset, and otherwise where the wake sources say. -/
def dawnRepeat (s : State) : State :=
  if s.pm.repeat_ then
    if s.pm.st = 3 then bootDawn (modPm s fun p => { p with repeat_ := false })
    else if s.pm.st = 2 then
      beginDawn (match wakeCode s with | some c => wakeTarget c | none => 1) false s.arb.active s.pm.wakeSrc.toNat s
    else
      enterStep 1 (modPm s fun p =>
        { p with repeat_ := false, dawn := some { kind := .restart, side := s.arb.active, step := 1, target := p.st } })
  else s

/-- R29, R47: the degraded mode's fabric: F = 48 at 48 kHz, D16 and the TDM ports stopped. -/
def degrade (s : State) : State :=
  modFab (modClk s fun c => { c with degraded := true }) fun f =>
    { f with f := .f48, r96 := false, tdm := vmap f.tdm fun _ t => { t with st := 0, rxGain := 0, next := none, rateMeas := 0 } }

/-- R308, R317: the engine step of the state that a DAWN reaches. -/
def dawnStep (target : BitVec 2) (s : State) : State :=
  let day := if s.pm.dstep = 0 then s.core.estep else s.pm.dstep
  if target = 1 then modPm (modCore s fun c => { c with estep := min day 2 }) fun p => { p with dstep := day }
  else modPm (modCore s fun c => { c with estep := day }) fun p => { p with dstep := 0 }

/-- R388: the set that BOOT names is to be loaded after a reset. -/
def bootSet (s : State) : Option Nat :=
  if s.ret.boot ≠ 0 && (s.ret.lc = 2 || s.ret.lc = 3) then some (s.ret.boot.toNat - 1) else none

/-- R310, R317, step 9: at the keeper's boundary side X begins to run frames. -/
def finishDawn (s : State) : State :=
  match s.pm.dawn with
  | none => s
  | some d =>
    if d.step = 9 && !d.wipe then
      let keep := (d.kind == .full || d.kind == .back) && s.pm.checkOk && d.side = s.arb.active
      let s1 := modArb (modPm s fun p =>
        { p with st := d.target, dawn := none, retCore := none, checkOk := false, wdogSince := false,
                 req := if p.back.isSome then p.req else none,
                 ret := setBit (setBit p.ret 5 false) 8 false }) fun a => { a with coreRun := true, active := d.side }
      let s2 := modConv (modClk s1 fun c => { c with degraded := false }) fun c => { c with linkOk := true }
      let s3 :=
        match keep, s.pm.retCore with
        | true, some c => lineResume { s2 with core := resumed c }
        | _, _ =>
          let t := coldCore (if d.boot then none else reload (match s.pm.retCore with | some c => { s2 with core := c } | none => s2)) s2
          if d.boot then modCore t fun c => { c with auto := bootSet t } else modMirror t fun m => { m with resume := 3 }
      let s4 := if d.kfRef then degrade s3 else s3
      let s5 := dawnStep d.target s4
      if d.kind == .back then backNext s5
      else
        let s6 := if d.target = 0 then tdmReturnAll (tdmHalt false s5) else tdmHalt true s5
        let s7 := if d.boot then raiseEv 14 (b2n s6.ports.fb) s6 else s6
        raiseDusk (backNext (if d.target = 0 && s7.pm.back.isNone then startSide (other d.side) s7 else s7))
    else s

/-! Registers (R330). -/

/-- R330: the target shown: of the entry or DAWN in progress, otherwise the state. -/
def pmTarget (p : Pm) : BitVec 2 :=
  match p.entry, p.dawn with
  | some e, _ => e.target
  | none, some d => if d.kind = .side then p.st else d.target
  | none, none => p.st
/-- R330: STEP. -/
def pmStep (p : Pm) : Nat :=
  match p.entry, p.dawn with
  | some e, _ => e.block
  | none, some d => d.step
  | none, none => 0

/-- R330: PM_STATUS; the wake-table steps of a rollback show as a DAWN (log 43). -/
def pmStatus (s : State) : Word :=
  let p := s.pm
  BitVec.ofNat 32 (p.st.toNat + 4 * (pmTarget p).toNat + 16 * b2n p.entry.isSome + 32 * b2n (p.dawn.isSome || p.repeat_) +
    64 * pmStep p + 2 ^ 10 * b2n p.held + 2 ^ 11 * b2n p.fret + 2 ^ 12 * (if p.st = 1 then p.dstep else 0))
/-- R330: PM_DOMAINS. -/
def pmDomains (s : State) : Word :=
  (s.pm.ret ++ setBit s.pm.on 1 (s.wake.loaded && !s.resetHeld))
/-- R330: PM_ABORT. -/
def pmAbort (s : State) : Word :=
  let p := s.pm
  BitVec.ofNat 32 (p.abBlock.toNat + 16 * p.abReason.toNat + 2 ^ 8 * p.abFrom.toNat + 2 ^ 10 * p.abTarget.toNat +
    2 ^ 16 * p.aborts.toNat + 2 ^ 24 * p.wakeSrc.toNat)
/-- R330: PM_STAGE. -/
def pmStage (s : State) : Word :=
  let p := s.pm
  let n := match p.set with | some x => (x.concerned &&& ~~~ x.ready).toNat | none => p.nrdy.toNat
  let left := match p.set with | some x => min 15 (if x.opened then x.left else x.deadline + 1) | none => 0
  BitVec.ofNat 32 (n + 2 ^ 16 * p.kinds.toNat + 2 ^ 20 * b2n p.set.isSome + 2 ^ 21 * p.result.toNat + 2 ^ 24 * left)
/-- R330: PM_DAWN. -/
def pmDawn (s : State) : Word :=
  let p := s.pm
  BitVec.ofNat 32 (p.dwStep.toNat + 16 * p.dwDomain.toNat + 2 ^ 8 * p.dwCause.toNat + 2 ^ 11 * (sideIx p.dwSide).val +
    2 ^ 12 * b2n p.dwFail + 2 ^ 16 * p.dwRetries.toNat)

end Sys2Proof.Machine
end

