-- ==== Sys2Proof/Machine/StageOps.lean ====
section
/-!
DEFINITION. Staged mode changes (R126, R325-R328): acceptance, the units concerned and their readiness, commit and withdrawal
at step 2 of a boundary.
-/

namespace Sys2Proof.Machine

/-- R126: the value lies in the column of its kind; in DUSK a step above 2 is refused (R308), and in the degraded mode F is
fixed at 48 and D48 at 48 kHz (R47). -/
def stageInColumn (s : State) (kind : Nat) (v : BitVec 24) : Bool :=
  match kind with
  | 0 => (flenOf v.toNat).isSome && (!s.clk.degraded || v.toNat = 48)
  | 1 => 1 ≤ v.toNat && v.toNat ≤ 8 && (s.pm.st ≠ 1 || v.toNat ≤ 2)
  | 2 => fld v 3 1 = 0 && fld v 6 18 = 0 && fld v 4 2 ≠ 3
  | 3 => v.toNat ≤ 1 && (!s.clk.degraded || v.toNat = 0)
  | _ => false

/-- R3, R126: a change of kind 2 names a bridge that the variant does not have. -/
def stageAbsent (s : State) (kind : Nat) (v : BitVec 24) : Bool :=
  kind = 2 && stageInColumn s kind v && !bridgeFitted s (fld v 0 3)

/-- R126: the value lies in the column of its kind, and its bridge is fitted. -/
def stageValueOk (s : State) (kind : Nat) (v : BitVec 24) : Bool := stageInColumn s kind v && !stageAbsent s kind v

/-- The bridge that a value of kind 2 names. -/
def stageBridge (v : Nat) : Fin 8 := ⟨v % 8, Nat.mod_lt _ (by decide)⟩

/-- R325: the units that a change concerns, among those powered. -/
def stageUnits (s : State) (kind v : Nat) : BitVec 12 :=
  let us : List (Nat × Nat) :=
    match kind with
    | 0 => [(0, 3), (1, 6), (4, 9), (5, 10), (6, 11), (8, 12), (9, 13), (10, 14), (11, 15)]
    | 1 => match s.arb.active with | .a => [(2, 4)] | .b => [(3, 7)]
    | 2 => [(8 + v % 8 / 2, 12 + v % 8 / 2)]
    | _ => [(0, 3), (1, 6), (4, 9), (5, 10), (8, 12), (9, 13), (10, 14), (11, 15)]
  us.foldl (fun w u => if domOn s u.2 then setBit w u.1 true else w) 0

/-- R126, R326: the set with one more change. -/
def addChange (s : State) (kind v d : Nat) (x : StagedSet) : StagedSet :=
  { x with changes := x.changes ++ [(kind, v)], deadline := min x.deadline d, concerned := x.concerned ||| stageUnits s kind v }

/-- R126, R328: STAGE of a kind, a value and a deadline; none where it is refused. -/
def stageAccept (kind : Nat) (v : BitVec 24) (d : Nat) (s : State) : Option State :=
  if s.pm.req.isSome || s.pm.entry.isSome || s.pm.dawn.isSome || s.pm.rise || s.pm.set.any (·.opened) ||
      !stageValueOk s kind v then none
  else
    let x0 : StagedSet :=
      s.pm.set.getD { changes := [], deadline := d, opened := false, left := 0, concerned := 0, ready := 0 }
    let ks : BitVec 4 := if s.pm.set.isSome then s.pm.kinds else 0
    some (modPm s fun p => { p with set := some (addChange s kind v.toNat d x0), kinds := setBit ks kind true })

/-! Readiness (R325-R327, R206). -/

/-- R126: a change of the kind needs silence. -/
def needsSilence (kind : Nat) : Bool := kind ≠ 1

/-- R327, R178: a staged change mutes the output of sink k. -/
def stagedMute (s : State) (k : Nat) : Bool :=
  match s.pm.set with
  | some x => x.opened && x.changes.any fun c =>
      c.1 = 0 || c.1 = 3 || (c.1 = 2 && (ends s (stageBridge c.2)).any fun b => k = 8 + b.val)
  | none => false

/-- R179: the output of sink k is silent. -/
def sinkSilent (s : State) (k : Nat) : Bool := (getSink s.core.fab k).u = 0

/-- R206: a change concerns bridge b while it is in RUN. -/
def concernsRun (s : State) (x : StagedSet) (b : Fin 8) : Bool :=
  (s.bridges[b]).st = 2 &&
  x.changes.any fun c => c.1 = 0 || c.1 = 3 || (c.1 = 2 && (ends s (stageBridge c.2)).contains b)

/-- R325: a unit may report ready. -/
def unitMay (s : State) (x : StagedSet) (u : Nat) : Bool :=
  if u < 2 then allBelow 80 (sinkSilent s)
  else if u = 5 then allBelow 6 (sinkSilent s)
  else if 8 ≤ u then
    (List.finRange 8).all fun b => b.val / 2 ≠ u - 8 || !concernsRun s x b || sinkSilent s (8 + b.val)
  else true

/-- R326: a unit reports ready; it stays ready. -/
def unitReady (u : Fin 12) (s : State) : State :=
  match s.pm.set with
  | some x =>
    if x.opened && bit x.concerned u.val && unitMay s x u.val then
      modPm s fun p => { p with set := some { x with ready := setBit x.ready u.val true } }
    else s
  | none => s

/-- R325, R206: the units that are ready at once: an engine clock that does not rise, and dies with no bridge in RUN. -/
def readyAtOnce (s : State) (x : StagedSet) : BitVec 12 :=
  let lower := x.changes.all fun c => c.1 ≠ 1 || c.2 ≤ s.core.estep
  let one (w : BitVec 12) (u : Nat) : BitVec 12 :=
    let now :=
      if u = 2 || u = 3 then lower
      else if 8 ≤ u then (List.finRange 8).all fun b => b.val / 2 ≠ u - 8 || !concernsRun s x b
      else false
    if bit x.concerned u && now then setBit w u true else w
  (List.range 12).foldl one 0

/-! Commit and withdrawal (R326). -/

/-- R137: the mode provides the slot of an entry. -/
def keepEntry (f : Fabric) (e : Entry) : Bool := slotProvided f e.slot

/-- R137: the change of the D48 rate: what the new mode does not provide is released.  Slots 96-127, which read zero at 96 kHz,
are provided, and so is the direct path of an input that delivers to D16 (log 13). -/
def setRate96 (on : Bool) (f0 : Fabric) : Fabric :=
  if f0.r96 = on then f0
  else
    let f := { f0 with r96 := on }
    { f with
      buses := (f.buses.map fun b => (b.1, { b.2 with entries := if busProvided f b.1 then b.2.entries.filter (keepEntry f) else [] }))
        |>.filter fun b => b.2 ≠ {}
      sinks := (f.sinks.map fun x =>
          (x.1, { x.2 with entries := if on && 80 ≤ x.1 then [] else x.2.entries.filter (keepEntry f) }))
        |>.filter fun x => x.2 ≠ {} }

/-- R136: a frame length commits: the D16 phase counter begins at 0. -/
def setFrameLen (v : Nat) (f : Fabric) : Fabric :=
  match flenOf v with | some l => { f with f := l, d16Phase := 0 } | none => f

/-- R126: one change takes effect; the degraded mode fixes F and the rate of D48 (R47). -/
def commitChange (c : Nat × Nat) (s : State) : State :=
  match c.1 with
  | 0 => if s.clk.degraded then s else modFab s (setFrameLen c.2)
  | 1 => modCore s fun k => { k with estep := c.2 }
  | 2 => setMode (stageBridge c.2) (BitVec.ofNat 2 (c.2 / 16)) s
  | _ => if s.clk.degraded then s else modFab s (setRate96 (c.2 = 1))

/-- R230: the lines of the bridges on which a change needing silence commits. -/
def commitLines (x : StagedSet) (s : State) : State :=
  (List.finRange 8).foldl (fun t b =>
    if x.changes.any fun c => c.1 = 0 || c.1 = 3 || (c.1 = 2 && (ends s (stageBridge c.2)).contains b) then lineStaged b t
    else t) s

/-- R326: the set commits: its changes take effect together, in the order of their acceptance. -/
def stageCommit (x : StagedSet) (s : State) : State :=
  let s1 := x.changes.foldl (fun t c => commitChange c t) (commitLines x s)
  modPm s1 fun p => { p with set := none, result := 1, nrdy := 0 }

/-- R326: the set is withdrawn; `lost` are units that count as not ready though they have reported. -/
def stageWithdraw (lost : BitVec 12) (x : StagedSet) (s : State) : State :=
  let n := x.concerned &&& (~~~ x.ready ||| lost)
  raiseEv 8 n.toNat (modPm s fun p => { p with set := none, result := 2, nrdy := n })

/-- R325: the units of core die x: its fabric and its engine clock. -/
def coreUnits (x : Side) : BitVec 12 := match x with | .a => 0b0101 | .b => 0b1010

/-- R304, R328: a takeover withdraws the pending set, and the units of the old core are not ready. -/
def withdrawPending (s : State) : State :=
  match s.pm.set with | some x => stageWithdraw (coreUnits s.arb.active) x s | none => s

/-- R326, R26 step 2: a boundary opens the set, commits it, or withdraws it. -/
def stageBoundary (s : State) : State :=
  match s.pm.set with
  | none => s
  | some x =>
    if !x.opened then
      modPm s fun p => { p with set := some { x with opened := true, left := x.deadline, ready := readyAtOnce s x } }
    else if x.concerned &&& ~~~ x.ready = 0 then stageCommit x s
    else if x.left ≤ 1 then stageWithdraw 0 x s
    else modPm s fun p => { p with set := some { x with left := x.left - 1 } }

end Sys2Proof.Machine
end

