-- ==== Sys2Proof/Machine/ResetOps.lean ====
section
/-!
DEFINITION. Reset (R394, R453), what survives it, and the wipes of life-cycle transitions (R393).
-/

namespace Sys2Proof.Machine

/-! Wipes (R393). -/

/-- R393: slots, program store, message store, fingerprints and logs, key and NONCE_LAST are wiped. -/
def wipeStores (s : State) : State :=
  let gone := msgDefined s 0
  let s1 := rsWipe 0x100000 0xA00000 (rsWipe 0 0x40000 s)
  let s2 := modRet s1 fun r =>
    { r with key := none, nonceLast := 0, sel := none, gen := 0, v0 := false, v1 := false, msgBad := [],
             bankEmpty := .replicate 2 false }
  let s3 := readVerdicts (readFps s2)
  if gone then msgGone 0 s3 else s3

/-- R393: the wipe set of a transition to a state. -/
def wipeFor (tgt : BitVec 3) (s : State) : State :=
  if tgt = 4 then wipeCaptures (wipeStores s)
  else if tgt = 1 || tgt = 2 then wipeCaptures s
  else s

/-! Reset (R394). -/

/-- R378, R394: what a device reset leaves: the MRAM, the key store, the pins, and the model's own queue and counter.  FRAME and
UTIME are 0 after RESET_N as after power-on (log 21). -/
def resetState (s : State) : State :=
  { State.reset with
    serial := s.serial, variant := s.variant, freeCtr := s.freeCtr, pending := s.pending
    ret := { State.reset.ret with
      mram := s.ret.mram, bad := s.ret.bad, lc := s.ret.lc, key := s.ret.key, nonceLast := s.ret.nonceLast, pendWipe := s.ret.pendWipe,
      bankEmpty := s.ret.bankEmpty }
    wake := { State.reset.wake with cap := s.wake.cap, privNext := s.conv.privMute }
    conv := { State.reset.conv with privMute := s.conv.privMute, hpDet := s.conv.hpDet }
    ports := { State.reset.ports with fbSel := s.ports.fbSel, haddr := s.ports.haddr } }

/-- R288, R398, R453: both feeds are lost and the device stops.  Of a save that runs the MRAM word under way is completed and no
more, so the earlier slot stands. -/
def deviceStops (s : State) : State := resetState s

/-- R393: a wipe that a reset interrupted is resumed, and its state takes effect. -/
def resumeWipe (s : State) : State :=
  match s.ret.pendWipe with
  | some t => modRet (wipeFor t s) fun r => { r with pendWipe := none, lc := t }
  | none => s

/-- R331, R334, R381, R386, R394: the device leaves reset: straps, wipes, configuration, and the check of the messages. -/
def leaveReset (s : State) : State :=
  let s1 := { s with resetHeld := false, ports := { s.ports with fb := s.ports.fbSel, addr := s.ports.haddr } }
  let s2 := restoreSlots (resumeWipe s1)
  let s3 := modArb s2 fun a => { a with active := a.pref, selPref := a.pref }
  let s4 := modSadc s3 fun d => { d with tab := s3.ret.cmp }
  modRet (readVerdicts (readFps s4)) fun r => { r with checking := true }

end Sys2Proof.Machine
end

