-- ==== Sys2Proof/Machine/TakeoverOps.lean ====
section
/-!
DEFINITION. Takeover and core restart (R31-R34, R298-R305), and what the coming and going of a feed brings (R288).
-/

namespace Sys2Proof.Machine

/-! The old core's last block (R299). -/

/-- R299: the fall lasts 24 samples, or as many as remain of the block after tT, which the causes do not tell: a free number. -/
def fallLen (s : State) : Nat := min 24 ((freeVal s).toNat % (d48Len s.core.fab + 1))

/-- R299: the last `m` samples of a block fall linearly, to reach 0 at its last sample. -/
def fallBlock (m : Nat) (xs : List OutSample) : List OutSample :=
  let n := xs.length
  (List.range n).map fun j =>
    let x := xs.getD j {}
    if j + m < n || m = 0 then x else { x with u := min x.u (48 * (n - 1 - j) / m) }

/-- R299: the outputs of sinks 0-79 fall to silence by the end of the block in play; the direct path follows their u. -/
def fallOutputs (m : Nat) (f : Fabric) : Fabric :=
  { f with outB := f.outB.map fun p => if p.1 < 80 then (p.1, fallBlock m p.2) else p, sinks := silentSinks f.sinks }

/-- R299: the outputs of the core that stops fall. -/
def outputsFall (s : State) : State := freeTaken (modFab s (fallOutputs (fallLen s)))

/-! The converter link (R20). -/

/-- R178: from sample `p` of the block in play on, an output's mute gain falls by `inc` per sample. -/
def muteFrom (p inc : Nat) (xs : List OutSample) : List OutSample :=
  (List.range xs.length).map fun j =>
    let x := xs.getD j {}
    if j < p then x else { x with u := min x.u ((xs.getD (p - 1) {}).u - inc * (j + 1 - p)) }

/-- R20, R178, R259: the converter die takes no valid words: from a moment of the frame on, which the cause does not tell (a free
number, log 24), its outputs ramp to mute; its inputs go on. -/
def converterLost (s : State) : State :=
  if !s.conv.linkOk then s
  else
    let len := d48Len s.core.fab
    let p := (freeVal s).toNat % (len + 1)
    let inc := if s.core.fab.r96 then 1 else 2
    let s1 := modFab s fun f =>
      { f with outB := f.outB.map fun x => if x.1 < 6 then (x.1, muteFrom p inc x.2) else x,
               sinks := (f.sinks.map fun x =>
                 if x.1 < 6 then (x.1, { x.2 with u := x.2.u - inc * (len - p) }) else x).filter fun x => x.2 ≠ {} }
    writeScanMirror (freeTaken (modConv s1 fun c => { c with linkOk := false }))

/-! The resume (R301). -/

/-- R301: the resume kind, the frames lost and the copy resumed from. -/
def resumeKind (s : State) : Nat × Nat × Option CoreSt :=
  if s.core.prog == .control && s.mirror.fill.isNone then
    match s.mirror.last with
    | some c =>
      let lost := (s.time.frame - c.frame).toNat
      if lost = 0 then (1, 0, some c.core) else (2, lost, some c.core)
    | none => (3, 0, none)
  else (3, 0, none)

/-- R298 step 3, R299: an engine of the copy as the new core releases it; its program memory is that of both dies (R297). -/
def resumeEngine (now x : Engine) : Engine :=
  { x with pm := now.pm, pmFill := now.pmFill, waitfDone := false,
           run := match x.run with | .waitF => .running | .starting => .running | r => r }

/-- R26, R29, R137, R145, R299: the copied fabric as the new core takes it on.  The engines run against the blocks that stood at
the boundary that began the current frame, in the frame length and rate in force; the pending table stands, with the D16 writes
of a block still being collected; the D16 phase has gone on by the `n` boundaries since t0 of the copy; and every output starts
from u = 0. -/
def resumeFabric (n : Nat) (now c : Fabric) : Fabric :=
  let g := setRate96 now.r96 c
  { g with f := now.f, d16Phase := (c.d16Phase + n) % 3, inB := now.inB, outB := now.outB, playB := now.playB, directB := now.directB,
           txW := now.txW, sinks := silentSinks g.sinks,
           outW := c.outW.filter fun p => p.1 < 16 * 256 || (512 * 256 ≤ p.1 && d16Spans3 now && (c.d16Phase + n) % 3 ≠ 0) }

/-- R301, R298, R304: the copied state as the new core takes it on, `lost` frames after the copy's; a reload that was running has
ended. -/
def resumeCore (lost : Nat) (now c : CoreSt) : CoreSt :=
  { c with eng := vmap c.eng fun i x => resumeEngine now.eng[i] x,
           load := if c.load.step = 7 then { c.load with step := 5, engine := 0 } else c.load
           fab := resumeFabric (lost + 1) now.fab c.fab }

/-- R47: the device leaves the degraded mode as another core die becomes active. -/
def leaveDegraded (s : State) : State :=
  if s.clk.degraded then tdmReturnAll (modClk s fun c => { c with degraded := false }) else s

/-- R20, R178: the converter link carries valid words from a moment within this frame. -/
def linkUp (s : State) : State :=
  if s.conv.linkOk then s else modConv s fun c => { c with linkOk := true, linkWait := 2 }

/-- R298-R301, R304: the takeover with cause `cause`, a standby core being up. -/
def takeover (cause : Nat) (s : State) : State :=
  let old := s.arb.active
  let (kind, lost, copy) := resumeKind s
  let s1 := outputsFall (portPStops (withdrawPending (if cause = 4 then s else dropTake s)))
  let s2 := discardDefs (s1.hosts.defHeld ++ s1.hosts.defNow) (modHosts s1 fun h => { h with loadCmd := none })
  let s3 := modHosts s2 fun h => { h with defNow := [], defHeld := [] }
  let blocks := s3.core.fab
  let s4 :=
    match copy with
    | some c => lineTakeover { s3 with core := resumeCore lost s3.core c }
    | none =>
      let t := coldCore (reload s3) (modHosts s3 fun h => { h with head := none })
      modFab t fun f =>
        { f with outB := blocks.outB, directB := blocks.directB, playB := blocks.playB, txW := blocks.txW, inB := blocks.inB }
  let s5 := modArb s4 fun a =>
    { a with active := other old, stbyUp := false, lastCause := BitVec.ofNat 4 cause, takeovers := sat8 a.takeovers, take := none,
             toMute := true, coreRun := true }
  let s6 := modMirror s5 fun m =>
    { m with resume := BitVec.ofNat 2 kind, fill := none, last := none, fly := none, flyBad := false, dirty := [],
             flyDirty := [], jnl := [], flyJnl := [], overload := 0 }
  let s7 := writeScanMirror (linkUp (leaveDegraded (sideOff old (modTime s6 fun t => { t with missing := 0 }))))
  let s8 := raiseEv 4 (cause + 8 * kind + 32 * min 255 lost + 2 ^ 13 * (sideIx (other old)).val) s7
  let s9 := abortEntry 15 4 [1] s8
  if cause = 2 || cause = 3 || cause = 4 then
    if s9.pm.st = 0 then startSide old s9 else s9
  else s9

/-! Restart with no standby (R302). -/

/-- R302, R38: the core die that ran stops; its engines, its words on the links, its copies and its measurements end. -/
def coreStops (s : State) : State :=
  let s1 := (List.finRange 8).foldl (fun t b => holdEnds b 0 (modLine t b lineIdle)) (earthStop (withdrawPending (portPStops (dropTake s))))
  let s2 := noCopies (outputsFall s1)
  modTime (modConv (modArb (linksDown s2) fun a => { a with coreRun := false, toMute := true, take := none }) fun c =>
    { c with linkOk := false }) fun t => { t with missing := 0 }

/-- R302: a DAWN brings side `x` up with a cold resume; a side DAWN of that side completes as it. -/
def restartDawn (x : Side) (s : State) : State :=
  let anew (t : State) : State :=
    enterStep 2 (modPm t fun p => { p with dawn := some { kind := .restart, side := x, step := 2, target := p.st } })
  match s.pm.dawn with
  | some d =>
    if d.kind == .side && d.side = x then
      modPm s fun p => { p with dawn := some { d with kind := .restart, target := p.st, wipe := false } }
    else if d.kind == .back && d.step = 1 then
      anew (modPm s fun p => { p with back := p.back.map fun r => { r with todo := 11 :: r.todo } })
    else anew s
  | none => anew s

/-- R302, R314: a cause arises with no standby core up; `x` is the side that comes up.  An entry is aborted; what its rollback
has still to do follows the restart, which brings the die's own blocks and the standby side itself. -/
def restart (x : Side) (cause : Nat) (s : State) : State :=
  let mine : List Nat := [1, 2, 3, 12]
  let s1 := modArb (sideOff s.arb.active (coreStops s)) fun a => { a with lastCause := BitVec.ofNat 4 cause }
  let s2 := modPm s1 fun p => { p with back := p.back.map fun r => { r with todo := r.todo.filter fun b => !mine.contains b } }
  let s3 := restartDawn x (if x = s.arb.active then sideOff (other x) s2 else s2)
  abortEntry 15 4 mine (raiseEv 5 cause s3)

/-- R298, R302: cause 2 or 3 of the active core, or cause 1. -/
def coreCause (cause : Nat) (s : State) : State :=
  if s.arb.stbyUp then takeover cause s
  else if cause = 1 then
    if s.feeds[sideIx (other s.arb.active)].ok then restart (other s.arb.active) 1 s else deviceStops s
  else restart s.arb.active cause s

/-- R305: an accepted takeover command is carried out. -/
def takeNow (s : State) : State := if s.arb.stbyUp then takeover 4 s else modArb s fun a => { a with take := none }

/-! Feeds (R287, R288). -/

/-- R303: a side may be tried again. -/
def sideAgain (x : Side) (s : State) : State := modPm s fun p => { p with sideFails := vset p.sideFails (sideIx x) 0 }

/-- R32, R288, R320: the feed of the side that a DAWN is waking is lost: the other side is taken, or the device stops. -/
def dawnFeedLost (d : Dawn) (x : Side) (s : State) : State :=
  if d.side = x && 2 ≤ d.step then
    let s1 := modPm (sideOff x s) fun p =>
      { p with dawn := some { d with side := other x, wipe := false, kind := if d.kind == .back then .restart else d.kind } }
    enterStep 2 (if d.boot then s1 else modArb s1 fun a => { a with lastCause := 1 })
  else sideOff x s

/-- R315: the entry window of a NIGHT entry runs. -/
def inWindow3 (s : State) : Bool := s.pm.entry.any fun e => e.window && e.target = 2

/-- R288, R314: feed x has ceased to be available.  During an entry the loss of the active side is a takeover cause though its
core die may have stopped; in the entry window the lost side just loses its power. -/
def feedGone (x : Side) (s : State) : State :=
  if !s.feeds[(0 : Fin 2)].ok && !s.feeds[(1 : Fin 2)].ok then deviceStops s
  else if inWindow3 s then sideOff x s
  else if s.arb.coreRun || s.pm.entry.isSome then
    if x = s.arb.active then coreCause 1 s
    else backNext (standbyDown (abandonSide (abortEntry 15 5 [1] s)))
  else
    match s.pm.dawn with
    | some d => dawnFeedLost d x s
    | none => if s.pm.st = 2 then sideOff x s else s

/-- R287, R288, R303, R316, R317: feed x has become available. -/
def feedUp (x : Side) (s : State) : State :=
  let s1 := raiseEv 1 (sideIx x).val { s with feeds := vmod s.feeds (sideIx x) fun f => { f with ok := true } }
  let s2 := if inWindow3 s1 then sideAgain x s1 else abortEntry 15 5 [] (sideAgain x s1)
  let s3 := if s2.pm.st = 2 then modPm s2 fun p => { p with fret := true } else s2
  bootDawn (match s3.pm.back with
    | some r => modPm s3 fun p => { p with back := some { r with todo := r.todo.filter (· ≠ 1) ++ [1] } }
    | none => if s3.pm.st = 0 && s3.arb.coreRun then startSide x s3 else s3)

end Sys2Proof.Machine
end

