-- ==== Sys2Proof/Machine/LcOps.lean ====
section
/-!
DEFINITION. The life cycle (R390-R393): requests of host A, the key write, the wipe of a transition and its end.
-/

namespace Sys2Proof.Machine

/-- R391: the change is listed. -/
def lcListed (from_ to_ : Nat) : Bool :=
  (from_ = 0 && to_ = 1) || (from_ = 1 && to_ = 2) || (from_ = 2 && to_ = 3) || (from_ = 3 && to_ = 2) ||
  (from_ = 3 && to_ = 4) || (from_ = 4 && to_ = 0)

/-- R391: a change from COMMISSIONING onward, up to DECOMMISSIONED, is tagged. -/
def lcTagged (from_ : Nat) : Bool := 1 ≤ from_ && from_ < 4

/-- R391: a transition, save, write, export or import is running. -/
def lcBusy (s : State) : Bool := s.ret.wiping || saveBusy s || imgBusy s

/-- R391: the tag over DEV_SERIAL, the byte 0x02, LC_REQ as written and LC_NONCE; without a site key no tag is right. -/
def lcTagOk (s : State) (v : Word) : Bool :=
  match s.ret.key with
  | none => false
  | some k => s.ret.tag.toList = tagWords k (serialBytes s.serial ++ [2] ++ bytesOf v ++ bytesOf s.ret.nonce)

/-- R391: the reason for which a transition request is ignored. -/
def lcBad (s : State) (v : Word) : Option Nat :=
  if lcBusy s then some 14
  else if !lcListed s.ret.lc.toNat (fld v 0 3) then some 6
  else if lcTagged s.ret.lc.toNat && !lcTagOk s v then some 7
  else if lcTagged s.ret.lc.toNat && !serialGt 32 s.ret.nonce.toNat s.ret.nonceLast.toNat then some 8
  else none

/-- R391, R393: an accepted transition: the pending-wipe word is written and the wipe runs. -/
def lcAccept (v : Word) (s : State) : State :=
  modRet s fun r =>
    { r with pendWipe := some (v.setWidth 3), wiping := true,
             nonceLast := if lcTagged r.lc.toNat then r.nonce else r.nonceLast }

/-- R392: the reason for which a key write is ignored. -/
def keyBad (s : State) (v : Word) : Option Nat :=
  if lcBusy s then some 14
  else if s.ret.key.isSome then some 3
  else if s.ret.lc ≠ 1 || fld v 0 3 ≠ s.ret.lc.toNat then some 6
  else none

/-- R392: the key of the eight words, the first byte of the first word lowest. -/
def keyOf (ws : Vector Word 8) : BitVec 256 :=
  BitVec.ofNat 256 ((List.finRange 8).foldl (fun n i => n + ws[i].toNat * 2 ^ (32 * i.val)) 0)

/-- R392: the site key is written, and the keeper saves the configuration. -/
def keyAccept (s : State) : State :=
  requestSave (modRet s fun r => { r with key := some (keyOf r.keyW), keyW := .replicate 8 0 })

/-- R391, R392, R399: LC_REQ commits: the reason to ignore it, or what it does. -/
def lcRequest (v : Word) (s : State) : Nat ⊕ State :=
  let keep (t : State) : State := modRet t fun r => { r with reqTarget := v.setWidth 3, reqKeyw := bit v 3 }
  if !bit v 31 then .inr (keep s)
  else if bit v 3 then
    match keyBad s v with
    | some r => .inl r
    | none => .inr (keyAccept (keep s))
  else
    match lcBad s v with
    | some r => .inl r
    | none => .inr (lcAccept v (keep s))

/-- R393: the wipe of a transition ends; its state takes effect at the next boundary. -/
def wipeDone (s : State) : State :=
  match s.ret.wiping, s.ret.pendWipe with
  | true, some t => if s.ret.lcNext.isSome then s else modRet (wipeFor t s) fun r => { r with lcNext := some t }
  | _, _ => s

/-- R391, R358, R438, R390: the state takes effect at a boundary: host C's view goes with MAINTENANCE, the TAP is reset, and a
state that admits no control programs ends the one that runs. -/
def lcBoundary (s : State) : State :=
  match s.ret.lcNext with
  | none => s
  | some t =>
    let s1 := modRet s fun r => { r with lc := t, lcNext := none, pendWipe := none, wiping := false }
    let s2 := if s.ret.lc = 3 then endHostC (if s1.conv.permit = 0 then s1 else permitEnds s1) else s1
    let s3 := setTap {} s2
    if programsAdmitted s3 then s3 else stopControl s3

end Sys2Proof.Machine
end

