-- ==== Sys2Proof/Machine/ImgOps.lean ====
section
/-!
DEFINITION. The operations of IMG_CTRL (R389, R395, R396, R382): writes of image sets and messages, deletion, export and import.
-/

namespace Sys2Proof.Machine

/-- The operation changed. -/
def modImg (f : Img → Img) (s : State) : State := modRet s fun r => { r with img := f r.img }

/-- R399: an operation ends with an ERR code. -/
def imgEnds (err : Nat) (s : State) : State :=
  modImg (fun i => { i with busy := false, err := BitVec.ofNat 4 err, buf := [], full := false, out := [], len := 0 }) s

/-- R399: an operation begins. -/
def imgBegins (op num ofs : Nat) (s : State) : State :=
  modImg (fun _ => { ({} : Img) with op := BitVec.ofNat 3 op, busy := true, num := BitVec.ofNat 8 num,
                                      ofs := BitVec.ofNat 16 ofs }) s

/-- R399: an operation that ends at once. -/
def imgAtOnce (op num err : Nat) (s : State) : State := imgEnds err (imgBegins op num 0 s)

/-- R389: the bank is that of the control program running, or is being loaded. -/
def bankBusy (s : State) (n : Nat) : Bool :=
  (controlRuns s && s.core.runSet.toNat = n) || ((loadOpen s || s.core.load.step = 4) && s.core.load.set.toNat = n)

/-! Export (R395). -/

/-- R395: one item of a package. -/
def pkgItem (type : Nat) (ws : List Word) : List Word := [BitVec.ofNat 32 type, BitVec.ofNat 32 ws.length] ++ ws

/-- R395: the items of an export. -/
def pkgItems (s : State) (fp msg : Bool) : List Word :=
  (match s.ret.sel with
   | some k => pkgItem 1 (rsGetN s (slotBase k) 65528 ++ List.replicate 8 0)
   | none => []) ++
  ((List.range 2).flatMap fun i => if setCheck s i = 0 then pkgItem 2 (setWords s i) else []) ++
  (if fp then pkgItem 3 (rsGetN s 0x20000 1024) else []) ++
  (if msg then (List.range 256).flatMap fun n => if msgDefined s n then pkgItem 4 (msgWords s n) else [] else [])

/-- R395: a package: header, items and tag. -/
def pkgWords (s : State) (fp msg : Bool) : List Word :=
  let items := pkgItems s fp msg
  let w1 := BitVec.ofNat 32 (1 + 2 ^ 8 + 2 ^ 16 * dieMap s.variant + 2 ^ 24 * b2n fp + 2 ^ 25 * b2n msg)
  let b := [0xA55A1704, w1, BitVec.ofNat 32 (16 + items.length), 0x884, 0, 0, 0, 0] ++ items
  let c := b.set 4 (crcWords b 4)
  c ++ tagFor s [] c

/-- R395: the export begins: its bytes wait to be read. -/
def exportBegins (fp msg : Bool) (s : State) : State :=
  let ws := pkgWords s fp msg
  modImg (fun i => { i with out := bytesOfWords ws, len := ws.length }) (imgBegins 4 0 0 s)

/-! Import (R396). -/

/-- R396: program store, message store and fingerprint slots 0-7 are wiped. -/
def importWipe (s : State) : State :=
  let gone := msgDefined s 0
  let s1 := rsWipe 0x20000 0x20400 (rsWipe 0x100000 0xA00000 s)
  let s2 := readFps (modRet s1 fun r => { r with msgBad := [], bankEmpty := .replicate 2 false })
  if gone then msgGone 0 s2 else s2

/-- R395: the items of a package, type and words; none where they do not fit its length. -/
def pkgParse : Nat → List Word → Option (List (Nat × List Word))
  | _, [] => some []
  | 0, _ => none
  | n + 1, t :: l :: ws =>
    if ws.length < l.toNat then none
    else (pkgParse n (ws.drop l.toNat)).map fun r => (t.toNat, ws.take l.toNat) :: r
  | _ + 1, [_] => none

/-- R395: an item has a form that its type allows. -/
def pkgItemOk (x : Nat × List Word) : Bool :=
  let w1 := x.2.getD 1 0
  match x.1 with
  | 1 => x.2.length = 65536
  | 2 => x.2.length ≤ bankLen && fld w1 0 8 < 2
  | 3 => x.2.length = 1024
  | 4 => 24 < x.2.length
  | _ => false

/-- R396: ERR of a package: form 2, mismatch 10, CRC 3, tag 4; 0 when it is accepted. -/
def pkgCheck (s : State) (ws : List Word) : Nat :=
  let n := ws.length
  let w (i : Nat) : Word := ws.getD i 0
  if w 0 ≠ 0xA55A1704 || n < 16 || !(w 5 = 0 && w 6 = 0 && w 7 = 0) || fld (w 1) 26 6 ≠ 0 then 2
  else if w 3 ≠ 0x884 || fld (w 1) 16 8 &&& (255 - dieMap s.variant) ≠ 0 || fld (w 1) 0 8 ≠ 1 then 10
  else if crcWords (ws.take (n - 8)) 4 ≠ w 4 then 3
  else if s.ret.key.isNone || !tagGood s [] true ws then 4
  else
    match pkgParse n ((ws.take (n - 8)).drop 8) with
    | some xs => if xs.all pkgItemOk then 0 else 2
    | none => 2

/-- R384: the offset after a message of `n` words at `o`. -/
def nextOfs (o n : Nat) : Nat := (o + n + 255) / 256 * 256

/-- R396, R386: one item is written, and a message is checked; `o` is the offset for the next message (log 22). -/
def importItem (o : Nat) (x : Nat × List Word) (s : State) : Nat × State :=
  match x.1 with
  | 1 =>
    let k := saveSlot s
    let gen := saveGen s
    let c := (x.2.take 65528).set 1 (BitVec.ofNat 32 (gen.toNat + 2 ^ 16 * b2n s.ret.key.isSome))
    let d := (c.set 0 0xA55A1703).set 2 (crcWords (c.set 0 0xA55A1703) 2)
    let s1 := rsSetN (slotBase k) (d ++ tagFor s (serialBytes s.serial) d) s
    (o, setValid k true (modRet s1 fun r => { r with sel := some k, gen := gen }))
  | 2 => (o, rsSetN (bankBase (fld (x.2.getD 1 0) 0 8)) x.2 s)
  | 3 => (o, readFps (rsSetN 0x20000 x.2 s))
  | _ =>
    let n := fld (x.2.getD 1 0) 0 8
    if msgStoreLen < o + x.2.length then (o, s)
    else
      let s1 := rsSetN (msgBase + 4 * n) [BitVec.ofNat 32 o, BitVec.ofNat 32 x.2.length] (rsSetN (msgBase + o) x.2 s)
      (nextOfs o x.2.length, checkMessage n s1)

/-- R396: the items of an accepted package. -/
def importItems : Nat → List (Nat × List Word) → State → State
  | _, [], s => s
  | o, x :: xs, s => let r := importItem o x s
                     importItems r.1 xs r.2

/-! Pushed words (R389, R396). -/

/-- The first MRAM word of what is written, and how many words it may take. -/
def imgPlace (i : Img) : Nat × Nat :=
  if i.op = 1 then (bankBase i.num.toNat, bankLen)
  else (msgBase + 256 * i.ofs.toNat, msgStoreLen - 256 * i.ofs.toNat)

/-- R389: the item's LEN, with word 2, does not fit: its ERR. -/
def imgLenBad (s : State) (i : Img) (len : Nat) : Option Nat :=
  if i.op = 5 then none
  else if (imgPlace i).2 < len then some 2
  else if i.op = 2 && msgOverlap s (256 * i.ofs.toNat) (256 * i.ofs.toNat + len) then some 9
  else none

/-- R395: the item in which word `n` of a package lies, and the word's place in it; `o` is where an item begins. -/
def pkgPlace (ws : List Word) (n : Nat) : Nat → Nat → Option (Nat × Nat)
  | 0, _ => none
  | f + 1, o =>
    let l := (ws.getD (o + 1) 0).toNat
    if n < o + 2 then none
    else if n < o + 2 + l then some ((ws.getD o 0).toNat, n - (o + 2))
    else pkgPlace ws n f (o + 2 + l)

/-- R396: a word of the configuration item is held in the non-selected slot, with word 0 at 0. -/
def importHolds (w : Word) (n : Nat) (s : State) : State :=
  let i := s.ret.img
  let k := saveSlot s
  match pkgPlace (wordsOf i.buf.reverse) n n 8 with
  | some (1, j) =>
    if n + 8 < i.len && j < 65536 then setValid k false (rsSet (slotBase k + j) (if j = 0 then 0 else w) s) else s
  | _ => s

/-- R389: one whole word has been pushed. -/
def imgWord (w : Word) (s : State) : State :=
  let i := s.ret.img
  let n := i.words
  let s1 := if i.op = 5 then importHolds w n s else rsSet ((imgPlace i).1 + n) w s
  let s2 := modImg (fun i => { i with words := n + 1 }) s1
  if n = 2 then
    match imgLenBad s i w.toNat with
    | some e => imgEnds e s2
    | none => modImg (fun i => { i with len := w.toNat, full := decide (w.toNat ≤ 3) }) s2
  else modImg (fun i => { i with full := decide (3 ≤ n ∧ i.len = n + 1) }) s2

/-- R389, R396: a byte is pushed while a write or import is open; otherwise it is discarded. -/
def imgPush (b : Byte) (s : State) : State :=
  let i := s.ret.img
  if i.busy && !i.full && (i.op = 1 || i.op = 2 || i.op = 5) then
    let s1 := modImg (fun i => { i with buf := b :: i.buf }) s
    if i.buf.length % 4 = 3 then
      let s2 := imgWord (wordOf ((b :: i.buf).take 4).reverse) s1
      if i.op = 5 then s2 else modImg (fun i => { i with buf := [] }) s2
    else s1
  else s

/-- R389, R396, R383, R386: the check of what was pushed ends. -/
def imgChecked (s : State) : State :=
  let i := s.ret.img
  if !(i.busy && i.full) then s
  else if i.op = 1 then
    let n := i.num.toNat
    let e := setWriteCheck s n
    imgEnds e (if e = 0 then modRet s fun r => { r with bankEmpty := .ofFn fun k => r.bankEmpty[k] && k.val ≠ n } else s)
  else if i.op = 2 then
    let n := i.num.toNat
    let o := 256 * i.ofs.toNat
    let e := msgCheck s n o (rsGetN s (msgBase + o) i.len)
    if e = 0 then
      let s1 := rsSetN (msgBase + 4 * n) [BitVec.ofNat 32 o, BitVec.ofNat 32 i.len, 0, 0] s
      imgEnds 0 (modRet s1 fun r => { r with msgBad := r.msgBad.filter (· ≠ n) })
    else imgEnds e s
  else
    let ws := wordsOf i.buf.reverse
    let e := pkgCheck s ws
    if e = 0 then
      match pkgParse ws.length ((ws.take (ws.length - 8)).drop 8) with
      | some xs => imgEnds 0 (importItems 1024 xs s)
      | none => imgEnds 2 s
    else imgEnds e s

/-- R395: an export byte is read; the last one ends the export. -/
def imgPop (s : State) : Option (Byte × State) :=
  let i := s.ret.img
  match i.out with
  | [] => none
  | b :: bs =>
    let left := bs.length
    let s1 := modImg (fun i => { i with out := bs, words := i.len - (left + 3) / 4 }) s
    some (b, if left = 0 then imgEnds 0 s1 else s1)

/-! IMG_CTRL (R389, R399). -/

/-- R389: message n becomes undefined. -/
def deleteMsg (n : Nat) (s : State) : State :=
  if msgDefined s n then
    msgGone n (rsSetN (msgBase + 4 * n) [0, 0] s)
  else modRet (rsSetN (msgBase + 4 * n) [0, 0] s) fun r => { r with msgBad := r.msgBad.filter (· ≠ n) }

/-- R389: a bank is marked empty. -/
def emptyBank (n : Nat) (s : State) : State :=
  modRet s fun r => { r with bankEmpty := .ofFn fun k => r.bankEmpty[k] || k.val = n }

/-- R389, R395, R396, R382: the reason for which an operation is ignored. -/
def imgBad (s : State) (h : HostId) (op num : Nat) : Option Nat :=
  if op = 0 || op = 7 then none
  else if 4 ≤ op && h != .a then some 5
  else if imgBusy s || s.ret.wiping || (op = 6 && saveBusy s) then some 14
  else if op < 4 && !(s.ret.lc = 1 && h == .a || s.ret.lc = 3) then some 4
  else if op = 4 && s.ret.lc ≠ 3 then some 4
  else if op = 5 && s.ret.lc ≠ 1 then some 4
  else if op = 1 && 2 ≤ num then some 10
  else if !storeUp s then some 15
  else none

/-- R389, R395, R396, R399: IMG_CTRL commits an operation that is not ignored. -/
def imgStart (op num ofs : Nat) (fp msg : Bool) (s : State) : State :=
  match op with
  | 1 => if bankBusy s num then imgAtOnce 1 num 9 s else imgBegins 1 num 0 (emptyBank num s)
  | 2 =>
    if ofs < 4 || msgStoreLen ≤ 256 * ofs || msgOverlap s (256 * ofs) (256 * ofs + 1) then imgAtOnce 2 num 9 s
    else imgBegins 2 num ofs s
  | 3 => imgAtOnce 3 num 0 (deleteMsg num s)
  | 4 => exportBegins fp msg s
  | 5 => imgBegins 5 0 0 (importWipe s)
  | 6 => imgAtOnce 6 0 0 (requestSave s)
  | 7 => if imgBusy s then imgEnds 11 s else s
  | _ => s

/-- R399: IMG_CTRL commits. -/
def imgControl (h : HostId) (v : Word) (s : State) : Nat ⊕ State :=
  match imgBad s h (fld v 0 3) (fld v 8 8) with
  | some r => .inl r
  | none => .inr (imgStart (fld v 0 3) (fld v 8 8) (fld v 16 16) (bit v 3) (bit v 4) s)

/-- R399: IMG_STATUS. -/
def imgStatus (s : State) : Word :=
  let i := s.ret.img
  BitVec.ofNat 32 (i.op.toNat + 8 * b2n (i.busy || (i.op = 6 && saveBusy s)) + 16 * i.err.toNat + 2 ^ 8 * (i.words % 2 ^ 24))

end Sys2Proof.Machine
end

