-- ==== Sys2Proof/Machine/PcOps.lean ====
section
/-!
DEFINITION. Port P as controller (R349-R351): transfers, bus clears, lost arbitrations and their ends.
-/

namespace Sys2Proof.Machine

/-- Port P's controller changed. -/
def modPc (f : PcPort → PcPort) (s : State) : State := modPorts s fun p => { p with pc := f p.pc }

/-- R349, R351: the reason for which a commit of PC_XFER is ignored. -/
def pcBad (s : State) (v : Word) : Option Nat :=
  if s.ports.pc.busy || !coreUp s then some 14
  else if bit v 24 && fld v 0 24 ≠ 0 then some 10
  else none

/-- R349, R351: PC_XFER commits: a transfer or a bus clear is queued. -/
def pcStart (v : Word) (s : State) : State :=
  modPc (fun c =>
    { c with busy := true, result := 0, index := 0, addr := v.setWidth 7, wlen := v.extractLsb' 8 8, rlen := v.extractLsb' 16 8,
             clear := bit v 24, losses := 0, retry := false }) s

/-- R351: a bus clear has run; one that failed raises the bus-error event of port P. -/
def pcCleared (failed : Bool) (s : State) : State :=
  let s1 := modPc (fun c => { c with clears := sat8 c.clears }) s
  if failed then raiseLimited 112 2 6 none s1 else s1

/-- R349: `n` bytes of the transmit FIFO have been sent, and INDEX shows `i`. -/
def pcSent (n i : Nat) (s : State) : State :=
  modPc (fun c => { c with tx := c.tx.drop n, index := BitVec.ofNat 8 i }) s

/-- R349, R416: the transfer has run to its end: a transmit FIFO that held too few bytes ended it early, and the receive FIFO
keeps what its 256 bytes can take (log 23). -/
def pcDone (rx : List Byte) (s : State) : State :=
  let c := s.ports.pc
  let w := c.wlen.toNat
  let r := c.rlen.toNat
  if c.tx.length < w then pcEnds 7 (pcSent c.tx.length c.tx.length s)
  else
    let s1 := pcSent w (if r = 0 then w else r) s
    pcEnds 1 (modPc (fun c => { c with rx := (c.rx ++ (List.range r).map fun i => rx.getD i 0xFF).take 256 }) s1)

/-- R349-R351: how the transfer ended on the wire. -/
def pcOutcome (r : PcEnd) (s : State) : State :=
  let c := s.ports.pc
  let w := c.wlen.toNat
  match r with
  | .done rx => pcDone rx s
  | .addrNack second =>
    if !second then pcEnds 2 s
    else if w = 0 || c.rlen = 0 then s
    else if c.tx.length < w then pcDone [] s
    else pcEnds 2 (pcSent w w s)
  | .dataNack n =>
    if w ≤ n then s else if n < c.tx.length then pcEnds 3 (pcSent (n + 1) n s) else pcDone [] s
  | .txEmpty n =>
    let k := min n c.tx.length
    if w ≤ n then s else pcEnds 7 (pcSent k k s)
  | .sdaStuck => pcEnds 5 s
  | .sclStuck => pcEnds 6 s

/-- R351: the bus could not be cleared. -/
def pcStuck (r : PcEnd) : Bool := match r with | .sdaStuck => true | .sclStuck => true | _ => false

/-- R349-R351: a transfer, or a bus clear, ends; `cleared` says that a clear ran before the transfer. -/
def pcTransferEnds (cleared : Bool) (r : PcEnd) (s : State) : State :=
  let c := s.ports.pc
  if !c.busy || c.retry then s
  else if c.clear then
    match r with
    | .done _ => pcEnds 1 (pcCleared false s)
    | .sdaStuck => pcEnds 5 (pcCleared true s)
    | .sclStuck => pcEnds 6 (pcCleared true s)
    | _ => s
  else pcOutcome r (if cleared || pcStuck r then pcCleared (pcStuck r) s else s)

/-- R350: an arbitration is lost; the sixteenth in a row ends the transfer. -/
def pcLost (s : State) : State :=
  let c := s.ports.pc
  if !c.busy || c.clear || c.retry then s
  else
    let s1 := modPc (fun c => { c with arbLost := sat8 c.arbLost, losses := c.losses + 1, retry := true }) s
    if 16 ≤ c.losses + 1 then pcEnds 4 s1 else s1

/-- R350: the whole transfer is tried again. -/
def pcRetry (s : State) : State := modPc (fun c => { c with retry := false }) s

/-- R356: PC_STATUS. -/
def pcStatus (s : State) : Word :=
  let c := s.ports.pc
  BitVec.ofNat 32 (b2n c.busy + 2 * c.result.toNat + 16 * c.index.toNat + 2 ^ 16 * c.arbLost.toNat + 2 ^ 24 * c.clears.toNat)

end Sys2Proof.Machine
end

