-- ==== Sys2Proof/Machine/TimeOps.lean ====
section
/-!
DEFINITION. UTIME, its trim, the alarms and the periodic timer (R49-R54), and one CK32 cycle (log 2).
-/

namespace Sys2Proof.Machine

/-- R54: alarm n fires: its flag is set.  When a one-shot alarm may fire again the spec does not say: the model lets it after a
commit of RTC_ALARMn_HI or a change of An_EN from 0 to 1 (DESIGN CHOICE, log 44). -/
def alarmFires (n : Fin 2) (t : Time) : Time := { t with alFlag := vset t.alFlag n true, alArm := vset t.alArm n false }

/-- R54: alarm n at a carry into the seconds field. -/
def alarmCarry (n : Fin 2) (t : Time) : Time :=
  if t.alEn[n] && t.alArm[n] && t.alVal[n].toNat ≤ t.sec.toNat then alarmFires n t else t

/-- R54: the periodic timer fires and reloads. -/
def periodicFires (t : Time) : Time := { t with perFlag := true, downCnt := t.period }

/-- R54: the periodic timer at a carry; a PERIOD of 0 stops it. -/
def periodicCarry (t : Time) : Time :=
  if t.period = 0 then t else if t.downCnt.toNat ≤ 1 then periodicFires t else { t with downCnt := t.downCnt - 1 }

/-- R247: the permit counts down once per 60 carries. -/
def permitCarry (s : State) : State :=
  if s.conv.permit = 0 then s
  else if 59 ≤ s.time.permSec then permitMinute (modTime s fun t => { t with permSec := 0 })
  else modTime s fun t => { t with permSec := t.permSec + 1 }

/-- R54, R247: a carry into the UTIME seconds field. -/
def secondCarry (s : State) : State :=
  permitCarry (modTime s fun t => periodicCarry (alarmCarry 1 (alarmCarry 0 { t with sec := t.sec + 1 })))

/-- R49: the sub-second field takes `n` ticks.  A carry that trim ticks bring moves the periodic timer as every carry does (R54),
though R51 says that trim does not act on its count (DEDUCED, log 44). -/
def takeTicks (n : Nat) (s : State) : State :=
  let k := s.time.sub.toNat + n
  let s1 := modTime s fun t => { t with sub := BitVec.ofNat 15 k }
  if 2 ^ 15 ≤ k then secondCarry s1 else s1

/-- R51: the end of a trim interval: extra ticks are taken, or as many are skipped. -/
def trimEnds (s : State) : State :=
  let n := s.time.trim.toInt
  if 0 ≤ n then takeTicks n.toNat s
  else modTime s fun t => { t with trimSkip := t.trimSkip + n.natAbs }

/-- R49, R51: UTIME loads the set values: no carry, and the trim interval starts anew. -/
def utimeLoads (s : State) : State :=
  modTime s fun t =>
    { t with sec := (t.setHi ++ t.setLo : BitVec 64), sub := t.setSub.setWidth 15, valid := true, trimSkip := 0, trimCnt := 0,
             load := false }

/-- R49, R51: one CK32 cycle of UTIME: the edge loads a value, or counts. -/
def utimeTick (s : State) : State :=
  if s.time.load then utimeLoads s
  else
    let s1 :=
      if s.time.trimSkip = 0 then takeTicks 1 s else modTime s fun t => { t with trimSkip := t.trimSkip - 1 }
    let s2 := modTime s1 fun t => { t with trimCnt := t.trimCnt + 1 }
    if s2.time.trimCnt = 0 then trimEnds s2 else s2

/-- R42: CK32, or KF in its place, counts UTIME. -/
def ck32Runs (s : State) : Bool := s.clk.ck32Ok || s.clk.holdover || s.clk.internal

/-- R49, R316: one CK32 cycle passes. -/
def ck32Tick (s : State) : Out := if ck32Runs s then actWake s utimeTick else .next s

/-! Registers. -/

/-- R54: RTC_CTRL: a change of PERIOD reloads the counter; an alarm newly enabled is set anew (log 44). -/
def rtcCtrl (v : Word) (s : State) : State :=
  modTime s fun t =>
    let p : BitVec 16 := v.setWidth 16
    { t with period := p, downCnt := if p = t.period then t.downCnt else p, perEn := bit v 16,
             alArm := .ofFn fun n => t.alArm[n] || (bit v (17 + n.val) && !t.alEn[n]),
             alEn := .ofFn fun n => bit v (17 + n.val),
             perFlag := t.perFlag && !bit v 20, alFlag := .ofFn fun n => t.alFlag[n] && !bit v (21 + n.val) }

/-- R54: RTC_CTRL. -/
def rtcWord (t : Time) : Word :=
  BitVec.ofNat 32 (t.period.toNat + 2 ^ 16 * b2n t.perEn + 2 ^ 17 * b2n t.alEn[(0 : Fin 2)] + 2 ^ 18 * b2n t.alEn[(1 : Fin 2)] +
    2 ^ 20 * b2n t.perFlag + 2 ^ 21 * b2n t.alFlag[(0 : Fin 2)] + 2 ^ 22 * b2n t.alFlag[(1 : Fin 2)])

/-- R418: an alarm's upper half completes its value, and the alarm is set (log 44). -/
def alarmHi (n : Fin 2) (v : Word) (s : State) : State :=
  modTime s fun t =>
    { t with alHi := vset t.alHi n v, alVal := vset t.alVal n (v ++ t.alLo[n] : BitVec 64), alArm := vset t.alArm n true }

/-- R49: UTIME_CTRL: TRIM, and LOAD, which waits for the next CK32 edge. -/
def utimeCtrl (v : Word) (s : State) : State :=
  modTime s fun t => { t with trim := v.setWidth 8, load := t.load || bit v 8 }

end Sys2Proof.Machine
end

