-- ==== Sys2Proof/Machine/Regs.lean ====
section
/-!
DEFINITION. The host register map (R412-R424): where each register lies, what a read of it shows and to whom, and which of its
bits a write reaches.
-/

namespace Sys2Proof.Machine

/-- R417: the registers. -/
inductive Reg
  | familyId | variant | dieMap | behavRev | compatFloor | serialLo | serialHi
  | hostCtrl | cqStatus | eqStatus | nonceLast | resSel | resInfo | ign (h : Fin 4) | ignFrm (h : Fin 4) | ignLast (h : Fin 4)
  | rbSel | rbHdr | rbFrm | rbW (k : Fin 32)
  | frame | utSub | utLo | utHi | setSub | setLo | setHi | utimeCtrl | clkStatus | rtcCtrl | alarmLo (n : Fin 2)
  | alarmHi (n : Fin 2) | arbStatus | arbCtrl | feedStatus | mirrorStatus | mirrorAck
  | pmStatus | pmDomains | pmAbort | pmStage | pmDawn
  | wakeStatus | wakeRec | wakeFrm | wakeUtLo | wakeUtSub | wakeCtrl | rsStatus
  | fltActive | fltCtrl | fltMask (n : Fin 4) | evm (i : Fin 12)
  | twAddr01 (x : Fin 3) | twAddr23 (x : Fin 3) | twAmask (x : Fin 3) | twTima (x : Fin 3) | twCtrl (x : Fin 3)
  | twStatus (x : Fin 3) | tw2Timb | tw2Timc | pcXfer | pcStatus | fpStatus
  | fabStatus | tdmStatus (p : Fin 4) | outStatus | convStatus | brStatus (b : Fin 8) | pdStatus (d : Fin 4)
  | lineStatus (b : Fin 8) | earthStatus | contactStatus | cmpBelow | cmpAbove | cmpSeen | recSel
  | sadcHdr (k : Fin 2) | sadcFrm (k : Fin 2) | sadcS0 (c : Fin 16) | sadcS1 (c : Fin 16)
  | lcStatus | lcReq | lcNonce | lcTag (i : Fin 8) | keyW (i : Fin 8) | imgCtrl | imgStatus | privCtrl
  deriving DecidableEq, Repr

/-! Placement (R417). -/

/-- A run of `n` registers from `base`: the register at offset `off`. -/
def regRun (base n off : Nat) (f : Fin n → Reg) : Option Reg :=
  if h : base ≤ off ∧ (off - base) / 4 < n then some (f ⟨(off - base) / 4, h.2⟩) else none

/-- The first of several placements that has a register. -/
def orReg (xs : List (Option Reg)) : Option Reg := xs.foldl (fun a x => match a with | some r => some r | none => x) none

/-- A single register at an offset. -/
def regOne (off : Nat) (xs : List (Nat × Reg)) : Option Reg := (xs.find? fun p => p.1 = off).map (·.2)

/-- R417: page 0x00, identity. -/
def regIdentity (off : Nat) : Option Reg :=
  regOne off [(0x04, .familyId), (0x08, .variant), (0x0C, .dieMap), (0x10, .behavRev), (0x14, .compatFloor), (0x18, .serialLo),
    (0x1C, .serialHi)]

/-- R417: page 0x01, hosts. -/
def regHosts (off : Nat) : Option Reg :=
  let i : Fin 4 := ⟨(off - 0x20) / 0x10 % 4, Nat.mod_lt _ (by decide)⟩
  if 0x20 ≤ off && off < 0x60 then
    match off % 0x10 with
    | 0 => some (.ign i)
    | 4 => some (.ignFrm i)
    | 8 => some (.ignLast i)
    | _ => none
  else
    regOne off [(0x04, .hostCtrl), (0x08, .cqStatus), (0x0C, .eqStatus), (0x10, .nonceLast), (0x14, .resSel), (0x18, .resInfo)]

/-- R417: page 0x02, results. -/
def regResults (off : Nat) : Option Reg :=
  orReg [regOne off [(0x04, .rbSel), (0x08, .rbHdr), (0x0C, .rbFrm)], regRun 0x10 32 off .rbW]

/-- R417: page 0x03, keeper. -/
def regKeeper (off : Nat) : Option Reg :=
  orReg [
    regOne off [(0x04, .frame), (0x08, .utSub), (0x0C, .utLo), (0x10, .utHi), (0x14, .setSub), (0x18, .setLo), (0x1C, .setHi),
      (0x20, .utimeCtrl), (0x24, .clkStatus), (0x28, .rtcCtrl), (0x2C, .alarmLo 0), (0x30, .alarmHi 0), (0x34, .alarmLo 1),
      (0x38, .alarmHi 1), (0x3C, .arbStatus), (0x40, .arbCtrl), (0x44, .feedStatus), (0x48, .mirrorStatus), (0x4C, .mirrorAck)],
    regOne off [(0x50, .pmStatus), (0x54, .pmDomains), (0x58, .pmAbort), (0x5C, .pmStage), (0x60, .pmDawn), (0x64, .wakeStatus),
      (0x68, .wakeRec), (0x6C, .wakeFrm), (0x70, .wakeUtLo), (0x74, .wakeUtSub), (0x78, .wakeCtrl), (0x7C, .rsStatus),
      (0x80, .fltActive), (0x84, .fltCtrl)],
    regRun 0x88 4 off .fltMask, regRun 0xA0 12 off .evm]

/-- R417: page 0x04, ports. -/
def regPorts (off : Nat) : Option Reg :=
  let x : Fin 3 := ⟨(off - 4) / 0x1C % 3, Nat.mod_lt _ (by decide)⟩
  if 0x04 ≤ off && off < 0x54 then
    match (off - 4) % 0x1C with
    | 0x00 => some (.twAddr01 x)
    | 0x04 => some (.twAddr23 x)
    | 0x08 => some (.twAmask x)
    | 0x0C => some (.twTima x)
    | 0x10 => some (.twCtrl x)
    | 0x14 => some (.twStatus x)
    | _ => none
  else regOne off [(0x54, .tw2Timb), (0x58, .tw2Timc), (0x5C, .pcXfer), (0x60, .pcStatus), (0x64, .fpStatus)]

/-- R417: page 0x07, supervision. -/
def regSupervision (off : Nat) : Option Reg :=
  orReg [regRun 0x04 8 off .lineStatus,
    regOne off [(0x24, .earthStatus), (0x28, .contactStatus), (0x2C, .cmpBelow), (0x30, .cmpAbove), (0x34, .cmpSeen),
      (0x38, .recSel), (0x40, .sadcHdr 0), (0x44, .sadcFrm 0), (0x88, .sadcHdr 1), (0x8C, .sadcFrm 1)],
    regRun 0x48 16 off .sadcS0, regRun 0x90 16 off .sadcS1]

/-- R417: page 0x08, life-cycle. -/
def regLifeCycle (off : Nat) : Option Reg :=
  orReg [regOne off [(0x04, .lcStatus), (0x08, .lcReq), (0x0C, .lcNonce), (0x50, .imgCtrl), (0x54, .imgStatus), (0x58, .privCtrl)],
    regRun 0x10 8 off .lcTag, regRun 0x30 8 off .keyW]

/-- R412, R413, R417: the register at a page and a byte offset; none where the place is reserved. -/
def regAt (page ptr : Nat) : Option Reg :=
  let off := ptr / 4 * 4
  match page with
  | 0 => regIdentity off
  | 1 => regHosts off
  | 2 => regResults off
  | 3 => regKeeper off
  | 4 => regPorts off
  | 5 => orReg [regOne off [(0x04, .fabStatus), (0x18, .outStatus), (0x1C, .convStatus)], regRun 0x08 4 off .tdmStatus]
  | 6 => orReg [regRun 0x04 8 off .brStatus, regRun 0x24 4 off .pdStatus]
  | 7 => regSupervision off
  | 8 => regLifeCycle off
  | _ => none

/-- R412: the place is served through the active core die. -/
def coreHeld (page ptr : Nat) : Bool := page = 5 || page = 6 || (page = 7 && !(0x28 ≤ ptr && ptr < 0x3C) && ptr ≠ 0xF0)

/-! Words (R10): what a register shows. -/

/-- R377: CQ_STATUS of a view. -/
def cqStatus (s : State) (pv : PortView) : Word :=
  BitVec.ofNat 32 (min 64 (cqUsed s pv.host) + 2 ^ 7 * b2n (!(getPv s pv).asm.isEmpty) +
    2 ^ 8 * (s.hosts.cnum[hostIx pv.host]).toNat)
/-- R377: EQ_STATUS of a host. -/
def eqStatus (s : State) (h : HostId) : Word :=
  let i := hostIx h
  BitVec.ofNat 32 ((s.hosts.evq[i]).length + 2 ^ 8 * (s.hosts.evLost[i]).toNat + 2 ^ 16 * (s.hosts.nextSeq[i]).toNat)
/-- R377: RES_INFO of a resource. -/
def resInfo (s : State) (r : Nat) : Word :=
  let w := resWord s r
  BitVec.ofNat 32 (fld w 0 6 + 2 ^ 6 * b2n (resDefined w) + 2 ^ 8 * resLevel s r +
    (List.range 5).foldl (fun n k => n + (claimAt s r k).toNat * 2 ^ (12 + 2 * k)) 0)
/-- R377: IGN_h. -/
def ignWord (g : Ign) : Word := BitVec.ofNat 32 (g.count.toNat + 2 ^ 16 * b2n g.ev)
/-- R377: IGN_h_LAST. -/
def ignLast (g : Ign) : Word := BitVec.ofNat 32 (g.reason.toNat + 16 * g.port.toNat + 2 ^ 16 * g.loc.toNat)
/-- R419: RB_HDR. -/
def rbHdr (x : ResBlk) : Word := BitVec.ofNat 32 (x.seq.toNat + 2 ^ 16 * b2n x.valid)

/-- R39: CLK_STATUS. -/
def clkStatus (s : State) : Word :=
  let c := s.clk
  let step (i : Fin 2) : Nat := if c.el[i] then s.core.estep else 0
  let modOk (d : Fin 4) : Bool := (s.dies[d]).modOk && dieOn s d.val && s.arb.coreRun
  BitVec.ofNat 32 (b2n c.ck32Ok + 2 * b2n c.xo[(0 : Fin 2)] + 4 * b2n c.xo[(1 : Fin 2)] + 8 * b2n c.fl[(0 : Fin 2)] +
    16 * b2n c.fl[(1 : Fin 2)] + 32 * b2n c.el[(0 : Fin 2)] + 64 * b2n c.el[(1 : Fin 2)] + 128 * b2n c.degraded +
    2 ^ 8 * step 0 + 2 ^ 12 * step 1 +
    2 ^ 16 * pdm0Rate s.conv +
    (List.finRange 4).foldl (fun n d => n + 2 ^ (18 + d.val) * b2n (modOk d)) 0)

/-- R35: ARB_STATUS. -/
def arbStatus (s : State) : Word :=
  let a := s.arb
  BitVec.ofNat 32 ((sideIx a.active).val + 2 * b2n a.stbyUp + 4 * b2n (stbyStale s) + 8 * (sideIx a.pref).val +
    16 * a.lastCause.toNat + 2 ^ 8 * a.takeovers.toNat)
/-- R306: FEED_STATUS. -/
def feedStatus (s : State) : Word :=
  let two (f : Feed → Bool) : Nat := b2n (f s.feeds[(0 : Fin 2)]) + 2 * b2n (f s.feeds[(1 : Fin 2)])
  BitVec.ofNat 32 (two (·.ok) + 4 * two (·.low) + 16 * two (·.ov) + 64 * two (·.lost))
/-- R306: MIRROR_STATUS. -/
def mirrorStatus (s : State) : Word :=
  let m := s.mirror
  BitVec.ofNat 32 (m.staleAge.toNat + 2 ^ 8 * b2n m.fill.isSome + 2 ^ 9 * b2n m.jovf + 2 ^ 10 * b2n m.crcerr +
    2 ^ 11 * m.resume.toNat + 2 ^ 16 * m.peak.toNat)
/-- R284: WAKE_STATUS. -/
def wakeStatus (s : State) : Word :=
  let w := s.wake
  BitVec.ofNat 32 (b2n (engRuns w.we) + 2 * b2n w.wflt + 4 * b2n w.cand + 8 * b2n (deferring s) + 16 * b2n w.cto +
    32 * b2n w.det + 64 * w.dcount.toNat + 2 ^ 16 * w.disc.toNat)
/-- R399: RS_STATUS. -/
def rsStatus (s : State) : Word :=
  let r := s.ret
  BitVec.ofNat 32 (r.gen.toNat + 2 ^ 16 * (r.sel.getD 0) + 2 ^ 17 * b2n r.v0 + 2 ^ 18 * b2n r.v1 + 2 ^ 19 * b2n r.noSlot +
    2 ^ 20 * b2n r.save.run)
/-- R411: FLT_CTRL. -/
def fltCtrl (s : State) : Word :=
  BitVec.ofNat 32 (s.flt.latch.toNat + 2 ^ 4 * s.pads.fault.toNat + 2 ^ 8 * s.flt.latched.toNat + 2 ^ 12 * b2n s.flt.attnFlt +
    2 ^ 13 * b2n s.pads.attn)
/-- R356: TWx_STATUS. -/
def twStatus (t : TwPort) : Word :=
  let open_ := t.phase != .idle && t.phase != .deaf
  BitVec.ofNat 32 (b2n open_ + 2 * b2n t.sto + 4 * b2n (t.due || t.reqRun) + 2 ^ 8 * t.rsack.toNat + 2 ^ 16 * t.part.toNat +
    2 ^ 24 * t.fifoErr.toNat)
/-- R356: FP_STATUS. -/
def fpStatus (p : FpPort) : Word :=
  BitVec.ofNat 32 (b2n p.sel + 2 * b2n p.mode3 + 2 ^ 8 * p.ovf.toNat + 2 ^ 16 * p.udf.toNat + 2 ^ 24 * p.badop.toNat)

/-- R184: the output of sink k is meant to play. -/
def meantToPlay (s : State) (k : Nat) : Bool :=
  if k < 4 then bit (tword s.core.tab.conv 9) k
  else if k < 6 then jackPlays s
  else if 8 ≤ k && k < 16 then contributes (s.bridges.toList.getD (k - 8) {})
  else match tdmOfSink k with
    | some (p, c) => (s.core.fab.tdm[p]).st = 2 && c < tdmSlots (s.core.fab.tdm[p]).slots
    | none => false
/-- R184: OUT_STATUS. -/
def outStatus (s : State) : Word :=
  let muted := anyBelow 80 fun k => meantToPlay s k && (getSink s.core.fab k).u ≠ 48
  BitVec.ofNat 32 ((List.finRange 4).foldl (fun n d => n + (s.dies[d]).tstep * 8 ^ d.val) 0 + 2 ^ 12 * qchg s.conv +
    2 ^ 14 * b2n muted + 2 ^ 16 * s.core.fab.clamps.toNat)
/-- R253: CONV_STATUS. -/
def convStatus (s : State) : Word :=
  let c := s.conv
  BitVec.ofNat 32 (c.ovl.toNat + (List.finRange 8).foldl (fun n k => n + 2 ^ (8 + k.val) * b2n c.gpend[k].isSome) 0 +
    2 ^ 16 * c.jclass.toNat + 2 ^ 19 * b2n c.jdet +
    (List.finRange 4).foldl (fun n q => n + 2 ^ (20 + q.val) * b2n c.pdmOn[q]) 0 +
    (List.finRange 4).foldl (fun n q => if q.val = 0 then n else n + 4 ^ (11 + q.val) * (c.pdmRate[q]).toNat) 0 +
    2 ^ 30 * b2n (!c.rawMode))
/-- R253: PRIV_CTRL. -/
def privCtrl (s : State) : Word :=
  let c := s.conv
  BitVec.ofNat 32 (b2n c.privMute + 2 * b2n c.rawMode + 4 * b2n c.micpwr + 8 * b2n c.micFlt + 16 * b2n c.muteSeen +
    2 ^ 8 * c.permit.toNat)
/-- R208: BR_STATUSb. -/
def brStatus (s : State) (b : Fin 8) : Word :=
  let x := s.bridges[b]
  let r := x.reg
  BitVec.ofNat 32 (r.st.toNat + 16 * x.mode.toNat + 64 * b2n (isLoop s b.val) + 2 ^ 8 * r.trips.toNat +
    2 ^ 16 * r.prbFail + 2 ^ 20 * b2n r.shortSeen + 2 ^ 21 * b2n r.clkSeen + 2 ^ 22 * b2n r.railClip + 2 ^ 24 * r.probeZ.toNat)
/-- R208: PD_STATUSn. -/
def pdStatus (x : Die) : Word :=
  let r := x.reg
  BitVec.ofNat 32 (r.tj.toNat + 2 ^ 8 * r.tstep + 2 ^ 11 * b2n r.twarn + 2 ^ 12 * b2n r.tshut + 2 ^ 13 * b2n x.ilimIn +
    2 ^ 14 * b2n x.guard + 2 ^ 15 * b2n r.bfault + 2 ^ 16 * x.vrail.toNat)
/-- R421: REC_SEL of a view. -/
def recSelWord (v : PView) : Word :=
  BitVec.ofNat 32 (v.recBr.toNat + 8 * b2n v.recFp + 16 * b2n v.recAv + 2 ^ 16 * v.recFifo.length)
/-- R397: VARIANT. -/
def variantCode (v : Variant) : Nat := match v with | .tf8840 => 0x40 | .tf8842 => 0x42 | .tf8844 => 0x44

/-- R356: the words of a two-wire port's configuration; those of x = 2 that the register lacks read 0. -/
def twAddr23Word (x : Fin 3) (c : TwCfg) : Word := if x.val = 2 then 0 else c.addr23
def twAmaskWord (x : Fin 3) (c : TwCfg) : Word := if x.val = 2 then 0 else c.amask

/-- R10, R417: the word of a register, as a view that may read it sees it. -/
def regShown (s : State) (pv : PortView) : Reg → Word
  | .familyId => 0x884
  | .variant => BitVec.ofNat 32 (variantCode s.variant)
  | .dieMap => BitVec.ofNat 32 (Machine.dieMap s.variant)
  | .behavRev => 1
  | .compatFloor => 1
  | .serialLo => s.serial.setWidth 32
  | .serialHi => (s.serial >>> 32).setWidth 32
  | .hostCtrl => BitVec.ofNat 32 (s.hosts.fpHost.toNat + 4 * b2n s.hosts.tagAll)
  | .cqStatus => Machine.cqStatus s pv
  | .eqStatus => Machine.eqStatus s pv.host
  | .nonceLast => s.ret.nonceLast
  | .resSel => (getPv s pv).resSel.setWidth 32
  | .resInfo => Machine.resInfo s (getPv s pv).resSel.toNat
  | .ign h => ignWord s.hosts.ign[h]
  | .ignFrm h => (s.hosts.ign[h]).frm
  | .ignLast h => Machine.ignLast s.hosts.ign[h]
  | .rbSel => (getPv s pv).rbSel.setWidth 32
  | .rbHdr => Machine.rbHdr (getRes s (getPv s pv).rbSel.toNat)
  | .rbFrm => (getRes s (getPv s pv).rbSel.toNat).frm
  | .rbW k => mget 0 (getRes s (getPv s pv).rbSel.toNat).vis k.val
  | .frame => s.time.frame
  | .utSub => s.time.sub.setWidth 32
  | .utLo => s.time.sec.setWidth 32
  | .utHi => (s.time.sec >>> 32).setWidth 32
  | .setSub => s.time.setSub
  | .setLo => s.time.setLo
  | .setHi => s.time.setHi
  | .utimeCtrl => BitVec.ofNat 32 (s.time.trim.toNat + 2 ^ 9 * b2n s.time.valid)
  | .clkStatus => Machine.clkStatus s
  | .rtcCtrl => rtcWord s.time
  | .alarmLo n => s.time.alLo[n]
  | .alarmHi n => s.time.alHi[n]
  | .arbStatus => Machine.arbStatus s
  | .arbCtrl => BitVec.ofNat 32 (2 * (sideIx s.arb.pref).val)
  | .feedStatus => Machine.feedStatus s
  | .mirrorStatus => Machine.mirrorStatus s
  | .mirrorAck => s.mirror.ack
  | .pmStatus => Machine.pmStatus s
  | .pmDomains => Machine.pmDomains s
  | .pmAbort => Machine.pmAbort s
  | .pmStage => Machine.pmStage s
  | .pmDawn => Machine.pmDawn s
  | .wakeStatus => Machine.wakeStatus s
  | .wakeRec => s.wake.wrec
  | .wakeFrm => s.wake.recFrm
  | .wakeUtLo => s.wake.recLo
  | .wakeUtSub => s.wake.recSub.setWidth 32
  | .wakeCtrl => 0
  | .rsStatus => Machine.rsStatus s
  | .fltActive => Machine.fltActive s
  | .fltCtrl => Machine.fltCtrl s
  | .fltMask n => s.flt.mask[n]
  | .evm i => s.hosts.evm[i]
  | .twAddr01 x => (s.ports.tw[x]).cfg.addr01
  | .twAddr23 x => twAddr23Word x (s.ports.tw[x]).cfg
  | .twAmask x => twAmaskWord x (s.ports.tw[x]).cfg
  | .twTima x => (s.ports.tw[x]).cfg.tima
  | .twCtrl x => (s.ports.tw[x]).cfg.ctrl
  | .twStatus x => Machine.twStatus s.ports.tw[x]
  | .tw2Timb => (s.ports.tw[(2 : Fin 3)]).cfg.timb
  | .tw2Timc => (s.ports.tw[(2 : Fin 3)]).cfg.timc
  | .pcXfer => 0
  | .pcStatus => Machine.pcStatus s
  | .fpStatus => Machine.fpStatus s.ports.fp
  | .fabStatus => Machine.fabStatus s
  | .tdmStatus p => Machine.tdmStatus s.core.fab.tdm[p]
  | .outStatus => Machine.outStatus s
  | .convStatus => Machine.convStatus s
  | .brStatus b => Machine.brStatus s b
  | .pdStatus d => Machine.pdStatus s.dies[d]
  | .lineStatus b => Machine.lineStatus s b
  | .earthStatus => Machine.earthStatus s
  | .contactStatus => Machine.contactStatus s.sadc
  | .cmpBelow => s.sadc.below
  | .cmpAbove => s.sadc.above
  | .cmpSeen => s.sadc.seen
  | .recSel => recSelWord (getPv s pv)
  | .sadcHdr k => bankHdr (if k = 0 then s.sadc.s0 else s.sadc.s1)
  | .sadcFrm k => (if k = 0 then s.sadc.s0 else s.sadc.s1).frm
  | .sadcS0 c => bankWord { s.sadc.s0 with val2 := 0 } c.val
  | .sadcS1 c => bankWord s.sadc.s1 c.val
  | .lcStatus => BitVec.ofNat 32 (s.ret.lc.toNat + 8 * b2n s.ret.key.isSome + 16 * b2n s.ret.wiping)
  | .lcReq => BitVec.ofNat 32 (s.ret.reqTarget.toNat + 8 * b2n s.ret.reqKeyw)
  | .lcNonce => s.ret.nonce
  | .lcTag _ => 0
  | .keyW _ => 0
  | .imgCtrl => 0
  | .imgStatus => Machine.imgStatus s
  | .privCtrl => Machine.privCtrl s

/-! Bits that a write reaches (R10, R13). -/

/-- R10: the RW and LK bits of a register. -/
def rwMask : Reg → Word
  | .hostCtrl => 0x7
  | .resSel => 0xFF
  | .ign _ => 0x10000
  | .rbSel => 0xFF
  | .setSub => 0x7FFF
  | .setLo => 0xFFFFFFFF
  | .setHi => 0xFFFFFFFF
  | .utimeCtrl => 0xFF
  | .rtcCtrl => 0x7FFFF
  | .alarmLo _ => 0xFFFFFFFF
  | .alarmHi _ => 0xFFFFFFFF
  | .arbCtrl => 0x2
  | .fltCtrl => 0x100F
  | .fltMask n => if n = 0 then 0xFFFFFFDF else 0xFFFFFFFF
  | .evm i => evmBits i.val
  | .twAddr01 x => if x = 2 then 0x3FF else 0x3FF03FF
  | .twAddr23 x => if x = 2 then 0 else 0x3FF03FF
  | .twAmask x => if x = 2 then 0 else 0x7F03FF
  | .twTima _ => 0x3FFFF
  | .twCtrl x => if x = 2 then 0xFF else 0xFFFFFF
  | .tw2Timb => 0xFFFFFFFF
  | .tw2Timc => 0xFFFF
  | .recSel => 0xF
  | .lcReq => 0xF
  | .lcNonce => 0xFFFFFFFF
  | .privCtrl => 0xFF00
  | _ => 0

/-- R10: the W1C and WO bits of a register. -/
def actMask : Reg → Word
  | .eqStatus => 0xFF00
  | .ign _ => 0xFFFF
  | .utimeCtrl => 0x100
  | .rtcCtrl => 0x700000
  | .arbStatus => 0xFF00
  | .arbCtrl => 0x5
  | .feedStatus => 0xC0
  | .mirrorStatus => 0xFFFF0600
  | .pmStatus => 0x800
  | .pmAbort => 0xFF0000
  | .pmDawn => 0xFF1000
  | .wakeStatus => 0xFF0032
  | .wakeCtrl => 0x1
  | .fltCtrl => 0xF00
  | .twStatus _ => 0xFFFFFF02
  | .pcXfer => 0x1FFFF7F
  | .pcStatus => 0xFFFF0000
  | .fpStatus => 0xFFFFFF00
  | .fabStatus => 0xFFFF00
  | .tdmStatus _ => 0xFF38
  | .outStatus => 0xFF0000
  | .convStatus => 0xFF
  | .brStatus _ => 0x70FF00
  | .pdStatus _ => 0x4000
  | .lineStatus _ => 0x80
  | .earthStatus => 0xFF0004
  | .cmpSeen => 0xFFFFFFFF
  | .lcReq => 0x80000000
  | .lcTag _ => 0xFFFFFFFF
  | .keyW _ => 0xFFFFFFFF
  | .imgCtrl => 0xFFFFFF1F
  | .privCtrl => 0x18
  | _ => 0

/-- R12, R377, R356: the LK bits of a register. -/
def lkMask : Reg → Word
  | .hostCtrl => 0x7
  | .twAddr01 x => rwMask (.twAddr01 x)
  | .twAddr23 x => rwMask (.twAddr23 x)
  | .twAmask x => rwMask (.twAmask x)
  | _ => 0

/-- R10: a register has a writable field. -/
def regWritable (r : Reg) : Bool := rwMask r ||| actMask r ≠ 0

/-! Rights (R360). -/

/-- R360: a host may read a register of a page. -/
def readRight (s : State) (pv : PortView) (page : Nat) (r : Reg) : Bool :=
  match pv.host with
  | .a => true
  | .c => true
  | .b =>
    match r with
    | .cqStatus => true
    | .eqStatus => true
    | .resSel => true
    | .resInfo => resOwned (resWord s (getPv s pv).resSel.toNat) .b
    | .ign h => h = 1
    | .ignFrm h => h = 1
    | .ignLast h => h = 1
    | _ => page = 0 || page = 2 || page = 5 || page = 6 || page = 7

/-- R360, R411, R389, R349: a host may write a register of a page. -/
def writeRight (h : HostId) (page : Nat) (r : Reg) : Bool :=
  match h with
  | .a => true
  | .b => match r with | .ign i => i = 1 | .resSel => true | .rbSel => true | _ => false
  | .c =>
    match r with
    | .hostCtrl => false
    | .evm i => 8 ≤ i.val
    | .pcXfer => true
    | .imgCtrl => true
    | _ => page = 1 || page = 2 || page = 5 || page = 6 || page = 7

/-- R3, R413: the register belongs to a die that the variant lacks. -/
def regAbsent (s : State) (r : Reg) : Bool :=
  match r with
  | .brStatus b => !bridgeFitted s b.val
  | .pdStatus d => !dieFitted s d.val
  | .lineStatus b => !bridgeFitted s b.val
  | _ => false

/-- R337, R360, R413: what a view reads of a place: 0 without a right, for an absent die, and outside the keeper while no core
runs. -/
def placeRead (s : State) (pv : PortView) (page ptr : Nat) : Word :=
  match regAt page ptr with
  | some r =>
    if !readRight s pv page r || regAbsent s r || (coreHeld page ptr && !coreUp s) then 0 else regShown s pv r
  | none => 0

end Sys2Proof.Machine
end

