-- ==== Sys2Proof/Machine/RegCommit.lean ====
section
/-!
DEFINITION. Commits of host registers (R10-R13, R338, R360, R413): why a commit is an ignored item, and what one that is not does.
-/

namespace Sys2Proof.Machine

/-! Reasons (R375). -/

/-- R356: a host field of an address entry is legal. -/
def hostField (v : Word) (lo : Nat) : Bool := fld v lo 2 ≠ 3

/-- R359: the configurations of H0 and H1 together bind host A. -/
def bindsA (c0 c1 : TwCfg) : Bool := cfgOpens c0 .a || cfgOpens c1 .a

/-- The configuration of two-wire port x with one of its registers changed. -/
def twWith (r : Reg) (v : Word) (c : TwCfg) : TwCfg :=
  match r with
  | .twAddr01 _ => { c with addr01 := v }
  | .twAddr23 _ => { c with addr23 := v }
  | .twAmask _ => { c with amask := v }
  | .twTima _ => { c with tima := v }
  | .twCtrl _ => { c with ctrl := v }
  | .tw2Timb => { c with timb := v }
  | .tw2Timc => { c with timc := v }
  | _ => c

/-- R359: a commit of a register of port x would leave host A without a binding. -/
def unbindsA (s : State) (x : Fin 3) (r : Reg) (v : Word) : Bool :=
  let c (k : Fin 3) : TwCfg := if k = x then twWith r v (s.ports.tw[k]).cfg else (s.ports.tw[k]).cfg
  x.val < 2 && !bindsA (c 0) (c 1)

/-- R356: an address register is illegal. -/
def addrIllegal (s : State) (x : Fin 3) (r : Reg) (v : Word) : Bool := !hostField v 8 || !hostField v 24 || unbindsA s x r v

/-- R356: TWx_CTRL is in range. -/
def twCtrlOk (x : Fin 3) (v : Word) : Bool :=
  fld v 0 8 ≠ 0 && (x = 2 || (10 ≤ fld v 8 8 && 10 ≤ fld v 16 7 && fld v 16 7 ≤ 100))

/-- R262: the CMP_SEEN bits that only host A clears: those of comparators with WAKE = 1. -/
def wakeCmps (s : State) : Word := (List.range 32).foldl (fun w k => setBit w k (bit (tword s.sadc.tab k) 31)) 0

/-- R12, R356, R420, R377, R282, R247, R349, R262: the reason why a register refuses a value; `v` has its writable bits only. -/
def valueBad (s : State) (pv : PortView) (r : Reg) (v : Word) : Option Nat :=
  let bad (c : Bool) (n : Nat) : Option Nat := if c then some n else none
  match r with
  | .ign h => bad (h = 3 && pv.host != .a && bit v 16 ≠ (s.hosts.ign[h]).ev) 5
  | .rbSel => bad (pv.host == .b && 128 ≤ fld v 0 8) 5
  | .twAddr01 x => bad (addrIllegal s x (.twAddr01 x) v) 10
  | .twAddr23 x => bad (addrIllegal s x (.twAddr23 x) v) 10
  | .twAmask x => bad (!hostField v 8 || unbindsA s x (.twAmask x) v) 10
  | .twTima _ => bad (50 ≤ fld v 0 6) 10
  | .twCtrl x => bad (!twCtrlOk x v) 10
  | .tw2Timc => bad (fld v 0 8 = 0 || fld v 8 8 = 0) 10
  | .wakeCtrl => if bit v 0 then captureBad s else none
  | .privCtrl => bad (fld v 8 8 ≠ 0 && s.ret.lc ≠ 3) 4
  | .pcXfer => pcBad s v
  | .cmpSeen => bad (pv.host != .a && v &&& wakeCmps s ≠ 0) 5
  | _ => none

/-- R337, R360, R413, R12: why a commit of a register is an ignored item, in the order right, absent die, core, lock, value. -/
def commitBad (s : State) (pv : PortView) (page ptr : Nat) (r : Reg) (v : Word) : Option Nat :=
  if !writeRight pv.host page r then some 5
  else if regAbsent s r then some 11
  else if coreHeld page ptr && !coreUp s then some 14
  else if !lkOpen s && (v ^^^ regShown s pv r) &&& lkMask r ≠ 0 then some 3
  else valueBad s pv r (v &&& (rwMask r ||| actMask r))

/-! Effects. -/

/-- R10: a W1C count: a 1 in any of its bits clears it. -/
def clr {n : Nat} (v : Word) (lo len : Nat) (c : BitVec n) : BitVec n := if fld v lo len = 0 then c else 0
/-- R10: a W1C bit. -/
def clrBit (v : Word) (k : Nat) (b : Bool) : Bool := b && !bit v k

/-- R347, R356: a configuration register of two-wire port x commits; an idle port takes it at once. -/
def setTw (x : Fin 3) (r : Reg) (v : Word) (s : State) : State :=
  let idle (t : TwPort) : Bool := t.phase = .idle && !(x = 2 && s.ports.pc.busy)
  modPorts s fun p =>
    { p with tw := vmod p.tw x fun t =>
        let c := twWith r v t.cfg
        if idle t then { t with cfg := c, use := c } else { t with cfg := c } }

/-- R421: the words of the record that REC_SEL names; none where there is no such record. -/
def selectedRecord (s : State) (b : Nat) (fp : Bool) : Option (List Word) :=
  if !bridgeFitted s b || (isLoop s b && b % 2 = 1) || !storeUp s then none
  else if fp then if recKind s b = 2 then some (rsGetN s (recAddr b) 128) else none
  else (newestRecord s (healthSlots s (some b))).map fun a => rsGetN s (recAddr a) 128

/-- R421: REC_SEL commits: the record FIFO takes the record as it stands. -/
def selectRecord (pv : PortView) (v : Word) (s : State) : State :=
  let ws := selectedRecord s (fld v 0 3) (bit v 3)
  modPv s pv fun p =>
    { p with recBr := v.setWidth 3, recFp := bit v 3, recAv := ws.isSome, recFifo := bytesOfWords (ws.getD []) }

/-- R303, R305: ARB_CTRL commits: PREF applies in every case, and a refused action is the ignored item, counted once. -/
def arbCtrl (pv : PortView) (page ptr : Nat) (v : Word) (s0 : State) : State :=
  let s := modArb s0 fun a => { a with pref := if bit v 1 then .b else .a }
  let takeBad : Option Nat :=
    if !bit v 0 then none
    else if !s.arb.stbyUp || stbyStale s || s.mirror.fill.isSome || s.arb.take.isSome then some 14
    else none
  let sideBad : Option Nat :=
    if !bit v 2 then none
    else if s.pm.dawn.isSome || s.pm.repeat_ || s.arb.stbyUp then some 14
    else if !s.feeds[sideIx (other s.arb.active)].ok || s.pm.st ≠ 0 then some 15
    else none
  let s1 :=
    if bit v 0 && takeBad.isNone then
      modArb s fun a => { a with take := some 17, takePort := BitVec.ofNat 2 (portIx pv.port) }
    else s
  let s2 := if bit v 2 && sideBad.isNone then startSide (other s.arb.active) (sideAgain (other s.arb.active) s1) else s1
  match takeBad, sideBad with
  | some r, _ => ignoreReg pv r page ptr s2
  | none, some r => ignoreReg pv r page ptr s2
  | none, none => s2

/-- What a request gives: an ignored item of a register, or the state after it. -/
def orIgnore (pv : PortView) (page ptr : Nat) (r : Nat ⊕ State) (s : State) : State :=
  match r with
  | .inl reason => ignoreReg pv reason page ptr s
  | .inr t => t

/-- R377: IGN_h commits. -/
def ignCommit (h : Fin 4) (v : Word) (s : State) : State :=
  modHosts s fun x => { x with ign := vmod x.ign h fun g => { g with count := clr v 0 16 g.count, ev := bit v 16 } }

/-- R330: PM_DAWN commits: FAIL frees FAULT0 (R319). -/
def pmDawnCommit (v : Word) (s : State) : State :=
  let s1 := modPm s fun p => { p with dwFail := clrBit v 12 p.dwFail, dwRetries := clr v 16 8 p.dwRetries }
  if bit v 12 then unforceFault0 s1 else s1

/-- R284, R280: WAKE_STATUS commits: DET goes with DCOUNT. -/
def wakeStatusCommit (v : Word) (s : State) : State :=
  modWake s fun w =>
    { w with wflt := clrBit v 1 w.wflt, cto := clrBit v 4 w.cto, det := clrBit v 5 w.det,
             dcount := if bit v 5 then 0 else w.dcount, disc := clr v 16 8 w.disc }

/-- R411: FLT_CTRL commits. -/
def fltCtrlCommit (v : Word) (s : State) : State :=
  { s with flt := { s.flt with latch := v.setWidth 4, latched := s.flt.latched &&& ~~~ v.extractLsb' 8 4, attnFlt := bit v 12 } }

/-- R161: TDM_STATUSp commits. -/
def tdmCommit (p : Fin 4) (v : Word) (s : State) : State :=
  modFab s fun f =>
    { f with tdm := vmod f.tdm p fun t =>
        { t with miss := clrBit v 3 t.miss, wrate := clrBit v 4 t.wrate, sync := clrBit v 5 t.sync,
                 syncCount := clr v 8 8 t.syncCount } }

/-- R208: BR_STATUSb commits. -/
def brCommit (b : Fin 8) (v : Word) (s : State) : State :=
  modBridge s b fun x =>
    let r := x.reg
    { x with reg := { r with trips := clr v 8 8 r.trips, shortSeen := clrBit v 20 r.shortSeen, clkSeen := clrBit v 21 r.clkSeen,
                             railClip := clrBit v 22 r.railClip } }

/-- R356: TWx_STATUS commits. -/
def twStatusCommit (x : Fin 3) (v : Word) (s : State) : State :=
  modPorts s fun p =>
    { p with tw := vmod p.tw x fun t =>
        { t with sto := clrBit v 1 t.sto, rsack := clr v 8 8 t.rsack, part := clr v 16 8 t.part,
                 fifoErr := clr v 24 8 t.fifoErr } }

/-- R253, R247: PRIV_CTRL commits. -/
def privCommit (v : Word) (s : State) : State :=
  setPermit (v.extractLsb' 8 8) (modConv s fun c => { c with micFlt := clrBit v 3 c.micFlt, muteSeen := clrBit v 4 c.muteSeen })

/-- R10, R338: what a commit that is not ignored does; `v` has the register's writable bits only. -/
def regEffect (pv : PortView) (page ptr : Nat) (r : Reg) (v : Word) (s : State) : State :=
  match r with
  | .hostCtrl => modHosts s fun h => { h with fpHost := v.setWidth 2, tagAll := bit v 2 }
  | .eqStatus => modHosts s fun h => { h with evLost := vmod h.evLost (hostIx pv.host) (clr v 8 8) }
  | .resSel => modPv s pv fun p => { p with resSel := v.setWidth 8 }
  | .ign h => ignCommit h v s
  | .rbSel => modPv s pv fun p => { p with rbSel := v.setWidth 8, snap := none }
  | .setSub => modTime s fun t => { t with setSub := v }
  | .setLo => modTime s fun t => { t with setLo := v }
  | .setHi => modTime s fun t => { t with setHi := v }
  | .utimeCtrl => Machine.utimeCtrl v s
  | .rtcCtrl => Machine.rtcCtrl v s
  | .alarmLo n => modTime s fun t => { t with alLo := vset t.alLo n v }
  | .alarmHi n => Machine.alarmHi n v s
  | .arbStatus => modArb s fun a => { a with takeovers := clr v 8 8 a.takeovers }
  | .arbCtrl => Machine.arbCtrl pv page ptr v s
  | .feedStatus => { s with feeds := vmap s.feeds fun i f => { f with lost := clrBit v (6 + i.val) f.lost } }
  | .mirrorStatus =>
    modMirror s fun m => { m with jovf := clrBit v 9 m.jovf, crcerr := clrBit v 10 m.crcerr, peak := clr v 16 16 m.peak }
  | .pmStatus => modPm s fun p => { p with fret := clrBit v 11 p.fret }
  | .pmAbort => modPm s fun p => { p with aborts := clr v 16 8 p.aborts }
  | .pmDawn => pmDawnCommit v s
  | .wakeStatus => wakeStatusCommit v s
  | .wakeCtrl => if bit v 0 then startCapture s else s
  | .fltCtrl => fltCtrlCommit v s
  | .fltMask n => { s with flt := { s.flt with mask := vset s.flt.mask n (if n = 0 then v ||| 0x20 else v) } }
  | .evm i => modHosts s fun h => { h with evm := vset h.evm i v }
  | .twAddr01 x => setTw x (.twAddr01 x) v s
  | .twAddr23 x => setTw x (.twAddr23 x) v s
  | .twAmask x => setTw x (.twAmask x) v s
  | .twTima x => setTw x (.twTima x) v s
  | .twCtrl x => setTw x (.twCtrl x) v s
  | .twStatus x => twStatusCommit x v s
  | .tw2Timb => setTw 2 .tw2Timb v s
  | .tw2Timc => setTw 2 .tw2Timc v s
  | .pcXfer => pcStart v s
  | .pcStatus => modPc (fun c => { c with arbLost := clr v 16 8 c.arbLost, clears := clr v 24 8 c.clears }) s
  | .fpStatus =>
    modPorts s fun p => { p with fp := { p.fp with ovf := clr v 8 8 p.fp.ovf, udf := clr v 16 8 p.fp.udf,
                                                   badop := clr v 24 8 p.fp.badop } }
  | .fabStatus => modFab s fun f => { f with cmdIgn := clr v 8 8 f.cmdIgn, busClip := clr v 16 8 f.busClip }
  | .tdmStatus p => tdmCommit p v s
  | .outStatus => modFab s fun f => { f with clamps := clr v 16 8 f.clamps }
  | .convStatus => modConv s fun c => { c with ovl := c.ovl &&& ~~~ v.setWidth 8 }
  | .brStatus b => brCommit b v s
  | .pdStatus d => modDie s d fun x => { x with guard := clrBit v 14 x.guard }
  | .lineStatus b => modLine s b fun l => { l with seen := clrBit v 7 l.seen }
  | .earthStatus =>
    { s with lmu := { s.lmu with earth := { s.lmu.earth with seen := clrBit v 2 s.lmu.earth.seen,
                                                             count := clr v 16 8 s.lmu.earth.count } } }
  | .cmpSeen => modSadc s fun d => { d with seen := d.seen &&& ~~~ v }
  | .recSel => selectRecord pv v s
  | .lcReq => orIgnore pv page ptr (lcRequest v s) s
  | .lcNonce => modRet s fun r => { r with nonce := v }
  | .lcTag i => modRet s fun r => { r with tag := vset r.tag i v }
  | .keyW i => modRet s fun r => { r with keyW := vset r.keyW i v }
  | .imgCtrl => orIgnore pv page ptr (imgControl pv.host v s) s
  | .privCtrl => privCommit v s
  | _ => s

/-- R12, R13, R338: the commit of a 32-bit register at byte 3 of its place: a reserved place and a register with nothing to
write discard it uncounted. -/
def commitReg (pv : PortView) (page ptr : Nat) (v : Word) (s : State) : State :=
  match regAt page ptr with
  | none => s
  | some r =>
    if !regWritable r then s
    else
      match commitBad s pv page ptr r v with
      | some reason => ignoreReg pv reason page ptr s
      | none => regEffect pv page ptr r (v &&& (rwMask r ||| actMask r)) s

end Sys2Proof.Machine
end

