-- ==== Sys2Proof/Machine/PortOps.lean ====
section
/-!
DEFINITION. The window of a view (R335-R338, R50, R284), its FIFO ports (R416, R421, R422), and the ports that carry it: the
two-wire targets (R333, R339-R346) and the fast port (R352-R354).
-/

namespace Sys2Proof.Machine

/-! FIFO ports (R416, R336, R353). -/

/-- R336, R356: a NACK or an empty read of a two-wire port is counted. -/
def fifoErr (x : Fin 3) (s : State) : State :=
  modPorts s fun p => { p with tw := vmod p.tw x fun t => { t with fifoErr := sat8 t.fifoErr } }

/-- The number of a two-wire port. -/
def twOf : PortId → Option (Fin 3) | .h0 => some 0 | .h1 => some 1 | .p => some 2 | .f => none

/-- R356, R403: counts of FP_STATUS rise: `k` is the bit of the count that rose. -/
def fpCount (k : Nat) (s : State) : State :=
  let up (i : Nat) (c : BitVec 8) : BitVec 8 := if i = k then sat8 c else c
  raiseLimited 115 0 (2 ^ k) none
    (modPorts s fun p => { p with fp := { p.fp with ovf := up 0 p.fp.ovf, udf := up 1 p.fp.udf, badop := up 2 p.fp.badop } })

/-- R336, R353: a byte is refused by a full FIFO. -/
def fifoFull (pt : PortId) (s : State) : State :=
  match twOf pt with
  | some x => fifoErr x (modPorts s fun p => { p with nack := true })
  | none => fpCount 0 s
/-- R336, R353: an empty FIFO is read. -/
def fifoEmpty (pt : PortId) (s : State) : State :=
  match twOf pt with
  | some x => fifoErr x s
  | none => fpCount 1 s

/-- R365, R416, R389, R360: a byte is offered to a FIFO port; whether it is taken, and the state after. -/
def fifoTakes (pv : PortView) (page ptr : Nat) (b : Byte) (s : State) : Bool × State :=
  if page = 1 && ptr = 0xF0 then if commandTakes pv s then (true, commandByte pv b s) else (false, s)
  else if (page = 4 || page = 8) && ptr = 0xF0 && pv.host == .b then (true, ignoreReg pv 5 page ptr s)
  else if page = 4 && ptr = 0xF0 then
    if !coreUp s || 256 ≤ s.ports.pc.tx.length then (false, s) else (true, modPc (fun c => { c with tx := c.tx ++ [b] }) s)
  else if page = 8 && ptr = 0xF0 then (true, imgPush b s)
  else (true, s)

/-- R336: a byte is written to a FIFO port and committed, or refused and counted. -/
def fifoPush (pv : PortView) (page ptr : Nat) (b : Byte) (s : State) : State :=
  let r := fifoTakes pv page ptr b s
  if r.1 then modPorts r.2 fun p => { p with nack := false } else fifoFull pv.port r.2

/-- R405: the six words of an event queue entry. -/
def entryWords (e : EvEntry) : List Word :=
  [BitVec.ofNat 32 (e.seq.toNat + 2 ^ 16 * e.kind.toNat + 2 ^ 18 * e.src.toNat), e.frame, e.utLo,
   BitVec.ofNat 32 (e.utSub.toNat + 2 ^ 16 * e.cnum.toNat), e.pay.setWidth 32, e.w5]

/-- R374: the oldest entry's next byte; the entry leaves with its last byte. -/
def popEvent (h : HostId) (s : State) : Option Byte × State :=
  let i := hostIx h
  match s.hosts.evq[i] with
  | [] => (none, s)
  | e :: es =>
    let k := s.hosts.evPos[i]
    let last := 23 ≤ k
    let s1 := modHosts s fun x =>
      { x with evPos := vset x.evPos i (if last then 0 else k + 1), evq := if last then vset x.evq i es else x.evq,
               evTouched := vset x.evTouched i true }
    (some ((bytesOfWords (entryWords e)).getD k 0), s1)

/-- R421: the record FIFO's next byte. -/
def popRecord (pv : PortView) (s : State) : Option Byte × State :=
  match (getPv s pv).recFifo with
  | [] => (none, s)
  | b :: bs => (some b, modPv s pv fun p => { p with recFifo := bs })

/-- R422: a capture may be read. -/
def captureShown (s : State) (h : HostId) : Bool := h == .a && s.ret.lc = 3 && s.conv.permit ≠ 0 && s.wake.capDone

/-- R422: byte n of the capture. -/
def captureByte (s : State) (n : Nat) : Byte := (mget 0 s.wake.cap (n / 4)).extractLsb' (8 * (n % 4)) 8

/-- R422: the capture port's next byte. -/
def popCapture (pv : PortView) (s : State) : Option Byte × State :=
  let n := (getPv s pv).cap
  if !captureShown s pv.host then (some 0, s)
  else if 64000 ≤ n then (none, s)
  else (some (captureByte s n), modPv s pv fun p => { p with cap := n + 1 })

/-- R416: port P's receive FIFO's next byte. -/
def popRx (s : State) : Option Byte × State :=
  if !coreUp s then (some 0, s)
  else match s.ports.pc.rx with
    | [] => (none, s)
    | b :: bs => (some b, modPc (fun c => { c with rx := bs }) s)

/-- R416, R360: a FIFO port is read: none where it is empty. -/
def fifoGives (pv : PortView) (page ptr : Nat) (s : State) : Option Byte × State :=
  if page = 1 && ptr = 0xF1 then popEvent pv.host s
  else if page = 4 && ptr = 0xF1 then if pv.host == .b then (some 0, s) else popRx s
  else if page = 7 && ptr = 0xF0 then popRecord pv s
  else if page = 8 && ptr = 0xF0 then
    if pv.host == .b then (some 0, s)
    else match imgPop s with | some (b, t) => (some b, t) | none => (none, s)
  else if page = 8 && ptr = 0xF1 then popCapture pv s
  else (some 0, s)

/-- R336: a byte is read from a FIFO port; an empty one gives 0x00 and is counted. -/
def fifoPop (pv : PortView) (page ptr : Nat) (s : State) : Byte × State :=
  match fifoGives pv page ptr s with
  | (some b, t) => (b, t)
  | (none, t) => (0, fifoEmpty pv.port t)

/-! Reads of the window. -/

/-- R335: the place of the register that holds a byte. -/
def regPlace (page ptr : Nat) : Nat := page * 256 + ptr / 4 * 4
/-- Byte k of a word. -/
def wordByte (w : Word) (k : Nat) : Byte := w.extractLsb' (8 * k) 8

/-- R50, R284: a register of a snapshot group: false is UTIME's, true WAKE_REC's, with its number in the group. -/
def groupOf : Reg → Option (Bool × Nat)
  | .utSub => some (false, 0)
  | .utLo => some (false, 1)
  | .utHi => some (false, 2)
  | .wakeRec => some (true, 0)
  | .wakeFrm => some (true, 1)
  | .wakeUtLo => some (true, 2)
  | .wakeUtSub => some (true, 3)
  | _ => none

/-- R50, R284: the words of a group as they stand. -/
def groupWords (s : State) (pv : PortView) (g : Bool) : List Word :=
  if g then [.wakeRec, .wakeFrm, .wakeUtLo, .wakeUtSub].map (regShown s pv) else [.utSub, .utLo, .utHi].map (regShown s pv)
/-- The buffer of a group. -/
def groupBuf (v : PView) (g : Bool) : Option (List Word) := if g then v.wk else v.ut
/-- R50: byte 0 of the leading register loads the group buffer. -/
def loadGroup (pv : PortView) (g : Bool) (s : State) : State :=
  let ws := groupWords s pv g
  modPv s pv fun v => if g then { v with wk := some ws } else { v with ut := some ws }

/-- R50, R284: a byte of a register of a snapshot group. -/
def groupByte (pv : PortView) (r : Reg) (g : Bool) (k ptr : Nat) (s : State) : Byte × State :=
  let s1 := if k = 0 && ptr % 4 = 0 then loadGroup pv g s else s
  let w :=
    match groupBuf (getPv s1 pv) g with
    | some ws => ws.getD k 0
    | none => regShown s1 pv r
  (wordByte w (ptr % 4), s1)

/-- R338: a byte of a register outside the groups. -/
def plainByte (pv : PortView) (page ptr : Nat) (s : State) : Byte × State :=
  let w := placeRead s pv page ptr
  if ptr % 4 = 0 then (wordByte w 0, modPv s pv fun v => { v with snap := some (regPlace page ptr, w) })
  else
    match (getPv s pv).snap with
    | some (k, x) => (wordByte (if k = regPlace page ptr then x else w) (ptr % 4), s)
    | none => (wordByte w (ptr % 4), s)

/-- R337: a byte of the view header. -/
def headerByte (s : State) (pv : PortView) (ptr : Nat) : Byte :=
  match ptr with
  | 0 => BitVec.ofNat 8 ((hostIx pv.host).val + 4 * portIx pv.port + 16 * b2n s.ports.fb)
  | 1 => (getPv s pv).page
  | 2 =>
    BitVec.ofNat 8 (b2n (!(s.hosts.evq[hostIx pv.host]).isEmpty) + 2 * b2n (!commandTakes pv s) + 4 * b2n (coreUp s))
  | _ => 0

/-- R335-R338: the byte that an advancing read fetches at a place below 0xF0. -/
def windowByte (pv : PortView) (page ptr : Nat) (s : State) : Byte × State :=
  if ptr < 4 then (headerByte s pv ptr, s)
  else
    match regAt page ptr with
    | none => (0, s)
    | some r =>
      match groupOf r with
      | some (g, k) => if readRight s pv page r then groupByte pv r g k ptr s else (0, s)
      | none => plainByte pv page ptr s

/-- R335: the transfer's kind, decided by the address of its first data byte. -/
def holding (v : PView) : Bool := v.hold.getD (0xF0 ≤ v.ptr.toNat)
/-- R335: the pointer moves on. -/
def advancePtr (pv : PortView) (s : State) : State := modPv s pv fun v => { v with ptr := v.ptr + 1, hold := some false }

/-- R335, R336: a data byte is read at the pointer and committed. -/
def readByteAt (pv : PortView) (s : State) : Byte × State :=
  let v := getPv s pv
  let page := v.page.toNat
  let ptr := v.ptr.toNat
  if holding v then fifoPop pv page ptr (modPv s pv fun v => { v with hold := some true })
  else if 0xF0 ≤ ptr then (0, advancePtr pv s)
  else
    let r := windowByte pv page ptr s
    (r.1, advancePtr pv r.2)

/-- R335: `n` data bytes are read. -/
def readBytes (pv : PortView) : Nat → State → List Byte × State
  | 0, s => ([], s)
  | n + 1, s =>
    let r := readByteAt pv s
    let q := readBytes pv n r.2
    (r.1 :: q.1, q.2)

/-- The bytes of a read as the controller receives them. -/
def deliverBytes (r : List Byte × State) : State := modPorts r.2 fun p => { p with rd := r.1 }

/-! Writes of the window. -/

/-- R338, R356: staged bytes that never reached byte 3 are discarded; a two-wire port counts them. -/
def dropStaging (pv : PortView) (s : State) : State :=
  if (getPv s pv).stg.isNone then s
  else
    let s1 := modPv s pv fun v => { v with stg := none }
    match twOf pv.port with
    | some x => modPorts s1 fun p => { p with tw := vmod p.tw x fun t => { t with part := sat8 t.part } }
    | none => s1

/-- A byte of a word replaced. -/
def putByte (w : Word) (k : Nat) (b : Byte) : Word :=
  (w &&& ~~~ ((0xFF : Word) <<< (8 * k))) ||| (b.setWidth 32 <<< (8 * k))

/-- R338: the word that commits: bytes not written are the current value of RW and LK fields, and 0 elsewhere. -/
def stagedWord (s : State) (pv : PortView) (page ptr : Nat) (m : BitVec 4) (w : Word) : Word :=
  let cur : Word := match regAt page ptr with | some r => regShown s pv r &&& rwMask r | none => 0
  (List.range 4).foldl (fun v k => if bit m k then putByte v k (wordByte w k) else v) cur

/-- R338: a byte of a register is staged; byte 3 commits the register. -/
def stageByte (pv : PortView) (page ptr : Nat) (b : Byte) (s0 : State) : State :=
  let place := regPlace page ptr
  let k := ptr % 4
  let same : Bool := match (getPv s0 pv).stg with | some (p, _, _) => p == place | none => false
  let s := if same then s0 else dropStaging pv s0
  let (m, w) : BitVec 4 × Word := match (getPv s pv).stg with | some (_, m, w) => (m, w) | none => (0, 0)
  let m1 := setBit m k true
  let w1 := putByte w k b
  if k = 3 then commitReg pv page ptr (stagedWord s pv page ptr m1 w1) (modPv s pv fun v => { v with stg := none })
  else modPv s pv fun v => { v with stg := some (place, m1, w1) }

/-- R337, R338: a byte written at a place below 0xF0 takes effect. -/
def windowWrite (pv : PortView) (page ptr : Nat) (b : Byte) (s : State) : State :=
  if ptr < 4 then if ptr = 1 then modPv s pv fun v => { v with page := b } else s
  else if (regAt page ptr).isNone then s
  else stageByte pv page ptr b s

/-- R335, R336: a data byte is written at the pointer and committed. -/
def writeByteAt (pv : PortView) (b : Byte) (s : State) : State :=
  let v := getPv s pv
  let page := v.page.toNat
  let ptr := v.ptr.toNat
  if holding v then fifoPush pv page ptr b (modPv s pv fun v => { v with hold := some true })
  else advancePtr pv (if 0xF0 ≤ ptr then s else windowWrite pv page ptr b s)

/-- R335: data bytes are written. -/
def writeBytes (pv : PortView) (bs : List Byte) (s : State) : State := bs.foldl (fun t b => writeByteAt pv b t) s

/-- R335, R338: a transfer of a view ends, or the next begins. -/
def endView (pv : PortView) (s : State) : State := modPv (dropStaging pv s) pv fun v => { v with hold := none }
/-- R335, R338: the transfer on a port ends. -/
def endTransfer (pt : PortId) (s : State) : State :=
  endView ⟨pt, .c⟩ (endView ⟨pt, .b⟩ (endView ⟨pt, .a⟩ s))

/-! Two-wire targets. -/

/-- R358: the view that an address names exists. -/
def viewExists (s : State) (h : HostId) : Bool := h != .c || s.ret.lc = 3

/-- R333, R358: entry i of a configuration matches an address, and its view. -/
def entryMatch (s : State) (c : TwCfg) (a i : Nat) : Option HostId :=
  let e := twEntry c i
  if twEntryOn c i && e.2.1 = a then (hostOf e.2.2).filter (viewExists s) else none
/-- R333, R358: the pair of a configuration matches an address, and its view. -/
def pairMatch (s : State) (c : TwCfg) (a : Nat) : Option HostId :=
  if twPairOn c && twPairHits c a then (hostOf (fld c.amask 8 2)).filter (viewExists s) else none

/-- R333, R334, R358: the view that an address opens on a port. -/
def addressView (s : State) (tw : TwId) (a : Nat) : Option HostId :=
  if s.ports.fb then (if tw == .h0 && a = 0x58 + s.ports.addr.toNat then some .a else none)
  else
    let c := (s.ports.tw[twIx tw]).use
    match tw with
    | .p => entryMatch s c a 0
    | _ =>
      match (List.range 4).findSome? (entryMatch s c a) with
      | some h => some h
      | none => pairMatch s c a

/-- R331, R334, R345: a two-wire port follows its bus. -/
def twListens (s : State) (tw : TwId) : Bool :=
  match tw with
  | .p => coreUp s && !s.ports.fb
  | _ => portLogicUp s

/-- R315, R345: the entry window to NIGHT runs: no address is acknowledged. -/
def nightWindow (s : State) : Bool := s.pm.entry.any fun e => e.window && e.target = 2

/-- The port's place in its transfer changed. -/
def setPhase (tw : TwId) (ph : TwPhase) (h : Option HostId) (s : State) : State :=
  modTw s tw fun t => { t with phase := ph, view := h }

/-- R339, R344: a START opens a transfer and ends the one before; an in-band request that runs gives way. -/
def twStart (tw : TwId) (s : State) : State :=
  match (s.ports.tw[twIx tw]).phase with
  | .held _ => s
  | _ =>
    if twListens s tw then
      modTw (setPhase tw .addr none (endTransfer (twPort tw) s)) tw fun t => { t with reqRun := false }
    else s

/-- R339, R347: a STOP ends the transfer, and changed settings take effect. -/
def twStop (tw : TwId) (s : State) : State :=
  match (s.ports.tw[twIx tw]).phase with
  | .held _ => s
  | _ =>
    if twListens s tw then
      modTw (setPhase tw .idle none (endTransfer (twPort tw) s)) tw fun t => { t with use := t.cfg }
    else s

/-- A byte is acknowledged, or not. -/
def setNack (n : Bool) (s : State) : State := modPorts s fun p => { p with nack := n }

/-- R333, R335, R336: an address byte opens a view; a read delivers `n` bytes. -/
def twAddress (tw : TwId) (b : Byte) (n : Nat) (s : State) : State :=
  let t := s.ports.tw[twIx tw]
  if t.phase = .addr && twListens s tw then
    match (if nightWindow s then none else addressView s tw (fld b 1 7)) with
    | none => setNack true (setPhase tw .deaf none s)
    | some h =>
      let s1 := setNack false s
      if bit b 0 then deliverBytes (readBytes ⟨twPort tw, h⟩ n (setPhase tw (.data true) (some h) s1))
      else setPhase tw .pointer (some h) s1
  else s

/-- R335: the first byte of a write sets the pointer. -/
def twPointer (tw : TwId) (b : Byte) (s : State) : State :=
  let t := s.ports.tw[twIx tw]
  match t.phase, t.view with
  | .pointer, some h =>
    setNack false (setPhase tw (.data false) (some h) (modPv s ⟨twPort tw, h⟩ fun v => { v with ptr := b, hold := none }))
  | _, _ => s

/-- R339: a transfer is open. -/
def twOpen (t : TwPort) : Bool :=
  match t.phase with
  | .addr => true
  | .pointer => true
  | .data _ => true
  | _ => false

/-- R338, R339: the byte that the port was sending had been fetched. -/
def fetched (tw : TwId) (t : TwPort) (s : State) : State :=
  match t.phase, t.view with
  | .data true, some h =>
    let pv : PortView := ⟨twPort tw, h⟩
    let v := getPv s pv
    if holding v || 0xF0 ≤ v.ptr.toNat then s else (windowByte pv v.page.toNat v.ptr.toNat s).2
  | _, _ => s

/-- R339, R336: a START or STOP in an acknowledge slot. -/
def twAbort (tw : TwId) (restart : Bool) (s : State) : State :=
  let t := s.ports.tw[twIx tw]
  if twOpen t then
    let x := (twIx tw).val
    let s1 := modTw (endTransfer (twPort tw) (fetched tw t s)) tw fun t => { t with rsack := sat8 t.rsack }
    let s2 := setPhase tw (if restart then .addr else .idle) none s1
    raiseLimited 112 x x none (if restart then s2 else modTw s2 tw fun t => { t with use := t.cfg })
  else s

/-- R342: a line has been low for longer than T_STRETCH while a transfer is open. -/
def stretchOut (tw : TwId) (s : State) : State :=
  if twOpen s.ports.tw[twIx tw] then
    raiseEv 113 (twIx tw).val (modTw (setPhase tw .deaf none (endTransfer (twPort tw) s)) tw fun t => { t with sto := true })
  else s

/-- R343: in-band requests are enabled on the port. -/
def reqOn (s : State) (tw : TwId) : Bool := tw != .p && bit (s.ports.tw[twIx tw]).use.ctrl 23

/-- R343: a request that is due begins on an idle bus; none is made in NIGHT. -/
def requestBegins (tw : TwId) (s : State) : State :=
  let t := s.ports.tw[twIx tw]
  if reqOn s tw && t.due && t.phase = .idle && s.pm.st ≠ 2 then modTw s tw fun t => { t with reqRun := true } else s

/-- R343: the request ends. -/
def requestEnds (tw : TwId) (s : State) : State :=
  modTw s tw fun t => if t.reqRun then { t with reqRun := false, due := false } else t

/-- R343: 100 ms have passed and the queue of a view that the port opens is not empty and not being read. -/
def requestAgain (tw : TwId) (s : State) : State :=
  let wants (h : HostId) : Bool :=
    twOpens s (twIx tw) h && !(s.hosts.evq[hostIx h]).isEmpty && !s.hosts.evTouched[hostIx h]
  if reqOn s tw && (wants .a || wants .b || wants .c) then modTw s tw fun t => { t with due := true } else s

/-- R345, R316: the clockless matcher of H0 or H1 acknowledges an address in NIGHT and wakes the device. -/
def nightMatch (tw : TwId) (b : Byte) (s : State) : State :=
  if tw != .p && !portLogicUp s && (s.ports.tw[twIx tw]).phase = .idle then
    match addressView s tw (fld b 1 7) with
    | some h => wakeDawn (10 + (twIx tw).val) (setPhase tw (.held (bit b 0)) (some h) (setNack false s))
    | none => setNack true s
  else s

/-- R346: the port logic takes over the transfer of one port that SCL is held for. -/
def logicReadyOn (n : Nat) (tw : TwId) (s : State) : State :=
  let t := s.ports.tw[twIx tw]
  match t.phase, t.view with
  | .held true, some h => deliverBytes (readBytes ⟨twPort tw, h⟩ n (setPhase tw (.data true) (some h) s))
  | .held false, some h => setPhase tw .pointer (some h) s
  | _, _ => s

/-- R346: the port logic has left reset. -/
def logicReady (n : Nat) (s : State) : State :=
  if portLogicUp s then logicReadyOn n .h1 (logicReadyOn n .h0 s) else s

/-! The fast port. -/

/-- R357, R358, R359: the view that the fast port opens. -/
def fpView (s : State) : Option HostId :=
  if s.ports.fb then some .a else (hostOf s.hosts.fpHost.toNat).filter (viewExists s)

/-- R352: F_CS_N has fallen: a transfer begins, in the mode of the clock's level. -/
def fpBegins (m3 : Bool) (s : State) : State :=
  modPorts (endTransfer .f s) fun p => { p with fp := { p.fp with sel := true, mode3 := m3 } }

/-- R352: the page and pointer bytes are taken as if written through the window. -/
def fpPlace (pv : PortView) (page ptr : Byte) (s : State) : State :=
  modPv s pv fun v => { v with page := page, ptr := ptr, hold := none }

/-- R352: WRQ. -/
def fpWrite (m3 : Bool) (page ptr : Byte) (bs : List Byte) (s : State) : State :=
  if !portLogicUp s then s
  else
    let s1 := fpBegins m3 s
    match fpView s1 with
    | some h => writeBytes ⟨.f, h⟩ bs (fpPlace ⟨.f, h⟩ page ptr s1)
    | none => s1

/-- R353: RDQ: the token, and the data after it; how many zeros go before the token is timing (log 23). -/
def fpRead (m3 : Bool) (page ptr : Byte) (n : Nat) (s : State) : State :=
  if !portLogicUp s then s
  else
    let s1 := fpBegins m3 s
    match fpView s1 with
    | some h =>
      let r := readBytes ⟨.f, h⟩ n (fpPlace ⟨.f, h⟩ page ptr s1)
      deliverBytes (0xA5 :: r.1, r.2)
    | none => s1

/-- R354: the FIFO port at a place can take at least 256 bytes. -/
def fifoSpace (s : State) (pv : PortView) (page ptr : Nat) : Bool :=
  if page = 1 && ptr = 0xF0 then cqUsed s pv.host = 0
  else if page = 4 && ptr = 0xF0 then pv.host != .b && coreUp s && s.ports.pc.tx.isEmpty
  else page = 8 && ptr = 0xF0 && pv.host != .b

/-- R354: the FIFO port at a place holds at least 256 bytes. -/
def fifoHolds (s : State) (pv : PortView) (page ptr : Nat) : Bool :=
  if page = 1 && ptr = 0xF1 then
    let i := hostIx pv.host
    256 + s.hosts.evPos[i] ≤ 24 * (s.hosts.evq[i]).length
  else if page = 4 && ptr = 0xF1 then pv.host != .b && coreUp s && 256 ≤ s.ports.pc.rx.length
  else if page = 7 && ptr = 0xF0 then 256 ≤ (getPv s pv).recFifo.length
  else if page = 8 && ptr = 0xF0 then pv.host != .b && 256 ≤ s.ret.img.out.length
  else page = 8 && ptr = 0xF1 && captureShown s pv.host && (getPv s pv).cap + 256 ≤ 64000

/-- R354: the RDSR status byte. -/
def fpStatusByte (s : State) (pv : PortView) : Byte :=
  let v := getPv s pv
  let f := s.ports.fp
  BitVec.ofNat 8 (b2n (fifoSpace s pv v.page.toNat v.ptr.toNat) + 2 * b2n (fifoHolds s pv v.page.toNat v.ptr.toNat) +
    4 * b2n (f.ovf ≠ 0) + 8 * b2n (f.udf ≠ 0) + 16 * b2n (f.badop ≠ 0) + 64)

/-- R354: RDSR. -/
def fpReadStatus (m3 : Bool) (s : State) : State :=
  if !portLogicUp s then s
  else
    let s1 := fpBegins m3 s
    match fpView s1 with
    | some h => deliverBytes ([fpStatusByte s1 ⟨.f, h⟩], s1)
    | none => s1

/-- R352: an opcode that is not assigned. -/
def fpBadOp (m3 : Bool) (op : Byte) (s : State) : State :=
  if !portLogicUp s || op = 0x32 || op = 0x6B || op = 0x05 then s else fpCount 2 (fpBegins m3 s)

/-- R352: F_CS_N rises. -/
def fpEnds (s : State) : State :=
  if s.ports.fp.sel then modPorts (endTransfer .f s) fun p => { p with fp := { p.fp with sel := false } } else s

end Sys2Proof.Machine
end

