-- ==== Sys2Proof/Machine/HostPort.lean ====
section
/-!
DEFINITION. Register and FIFO accesses of a port-view (R335-R338, R365-R374, R412-R422), whatever port carries them (log 23).
-/

namespace Sys2Proof.Machine

/-- R12, R338: a whole register of a page is written through a port-view. -/
def commitRow (pv : PortView) (page off : Nat) (v : Word) (s : State) : State := commitReg pv page (off + 3) v s

/-- COMMAND_FIFO_PUSH (R365). -/
def execCommandFifoPush (pv : PortView) (b : Byte) (s : State) : Out := hostAct pv s (fifoPush pv 1 0xF0 b)

/-- TAG_CHECK_DONE (R367). -/
def execTagCheckDone (pv : PortView) (s : State) : Out := act s (tagCheckDone pv)

/-- ASSEMBLY_TIMEOUT (R365). -/
def execAssemblyTimeout (pv : PortView) (s : State) : Out := act s (assemblyTimeout pv)

/-- A FIFO port read through a port-view. -/
def popRow (pv : PortView) (page ptr : Nat) (s : State) : State :=
  let r := fifoPop pv page ptr s
  deliverBytes ([r.1], r.2)

/-- EVENT_FIFO_POP (R374). -/
def execEventFifoPop (pv : PortView) (s : State) : Out := hostAct pv s (popRow pv 1 0xF1)

/-- PAGE_WRITE (R337): the byte written at header byte 0x01, in a transfer of its own. -/
def execPageWrite (pv : PortView) (b : Byte) (s : State) : Out :=
  hostAct pv s fun s => writeByteAt pv b (modPv (endTransfer pv.port s) pv fun v => { v with ptr := 1 })

/-- REGISTER_WRITE (R12, R335, R338): data bytes of a write, committed at the pointer of the port-view. -/
def execRegisterWrite (pv : PortView) (bs : List Byte) (s : State) : Out := hostAct pv s (writeBytes pv bs)

/-- PERIOD_WRITE (R54): a commit of RTC_CTRL. -/
def execPeriodWrite (pv : PortView) (v : Word) (s : State) : Out := hostAct pv s (commitRow pv 3 0x28 v)

/-- PERMIT_WRITE (R247): a commit of PRIV_CTRL. -/
def execPermitWrite (pv : PortView) (v : Word) (s : State) : Out := hostAct pv s (commitRow pv 8 0x58 v)

/-- RB_SEL_WRITE (R420). -/
def execRbSelWrite (pv : PortView) (v : Word) (s : State) : Out := hostAct pv s (commitRow pv 2 0x04 v)

/-- REC_SEL_WRITE (R421). -/
def execRecSelWrite (pv : PortView) (v : Word) (s : State) : Out := hostAct pv s (commitRow pv 7 0x38 v)

/-- RECORD_FIFO_POP (R421). -/
def execRecordFifoPop (pv : PortView) (s : State) : Out := hostAct pv s (popRow pv 7 0xF0)

/-- CAPTURE_PORT_READ (R422). -/
def execCapturePortRead (pv : PortView) (s : State) : Out := hostAct pv s (popRow pv 8 0xF1)

end Sys2Proof.Machine
end

