-- ==== Sys2Proof/Machine/Clocks.lean ====
section
/-!
DEFINITION. The commands of the clock monitors and of the timebase (R20, R40-R54).
-/

namespace Sys2Proof.Machine

/-! The keeper clocks (R40, R42). -/

/-- CK32_FAILURE (R40, R42): KF enters holdover. -/
def execCk32Failure (s : State) : Out :=
  act s fun s =>
    if s.clk.ck32Ok then raiseEv 3 0 (modClk s fun c => { c with ck32Ok := false, holdover := true }) else s

/-- CK32_RETURN (R42): CK32 is ready; holdover, or the internal reference, is left. -/
def execCk32Return (s : State) : Out :=
  act s fun s => modClk s fun c => { c with ck32Ok := true, holdover := false, internal := false }

/-- CK32_START_TIMEOUT (R42): CK32 is not ready 1.5 s after first power. -/
def execCk32StartTimeout (s : State) : Out :=
  act s fun s => if s.clk.ck32Ok || s.clk.holdover then s else modClk s fun c => { c with internal := true }

/-- KF_LOCK_LOSS (R40). -/
def execKfLockLoss (s : State) : Out :=
  act s fun s => if s.clk.kfLock then raiseEv 3 1 (modClk s fun c => { c with kfLock := false }) else s

/-- KF_LOCK (R40, R453): KF, which CK32 or the internal reference drives, has settled. -/
def execKfLock (s : State) : Out :=
  act s fun s => if ck32Runs s then bootDawn (modClk s fun c => { c with kfLock := true }) else s

/-! The core clocks (R40, R46, R47). -/

/-- R39: the ready bit of XOA, XOB or of FA, FB. -/
def coreClk (x : Side) (pll : Bool) (s : State) : Bool := if pll then s.clk.fl[sideIx x] else s.clk.xo[sideIx x]
/-- R40: the ready bit cleared. -/
def dropClk (x : Side) (pll : Bool) (s : State) : State :=
  modClk s fun c => if pll then { c with fl := vset c.fl (sideIx x) false } else { c with xo := vset c.xo (sideIx x) false }

/-- R46: the active core's links cease to carry valid words. -/
def coreLinksFail (s : State) : State := converterLost (linksDown s)

/-- R46, R47: with no standby, the active core's PLLs lock to KF and frames resume in the degraded mode. -/
def keeperRef (x : Side) (s : State) : State :=
  degrade (modClk s fun c => { c with fl := vset c.fl (sideIx x) true, el := vset c.el (sideIx x) true })

/-- R46, R319: the clock of a wake-table step that has passed fails on the side being woken: that step is run again, as after a
timeout. -/
def stepFails (d : Dawn) (pll : Bool) (s : State) : State :=
  let n := if pll then 4 else 3
  if n < d.step then
    let e := { d with step := n, off := false, retried := false, wipe := false }
    stepTimeout 0 0 (modPm s fun p => { p with dawn := some e })
  else s

/-- R46: what a failed crystal or fabric PLL of side x brings, by where x stands. -/
def crystalFails (x : Side) (pll : Bool) (s : State) : State :=
  match s.pm.dawn with
  | some d =>
    if d.side = x && !(s.arb.coreRun && x = s.arb.active) then stepFails d pll s else running s
  | none => running s
where
  /-- The sides that no DAWN wakes. -/
  running (s : State) : State :=
    if x = s.arb.active then
      if s.arb.coreRun then if s.arb.stbyUp then coreLinksFail s else keeperRef x (coreLinksFail s) else s
    else if s.arb.stbyUp then trySide x (standbyDown s)
    else s

/-- CRYSTAL_PLL_FAILURE (R40, R46). -/
def execCrystalPllFailure (x : Side) (pll : Bool) (s : State) : Out :=
  act s fun s =>
    if coreClk x pll s then
      crystalFails x pll (raiseEv 3 (2 + 2 * b2n pll + (sideIx x).val) (dropClk x pll s))
    else s

/-- ENGINE_CLOCK_LOSS (R40): the engines of that core stop, and its heartbeat with them. -/
def execEngineClockLoss (x : Side) (s : State) : Out :=
  act s fun s =>
    if s.clk.el[sideIx x] then
      raiseEv 3 (6 + (sideIx x).val) (modClk s fun c => { c with el := vset c.el (sideIx x) false })
    else s

/-- SADC_LOCK_LOSS (R40, R258). -/
def execSadcLockLoss (s : State) : Out :=
  act s fun s =>
    if s.clk.sadcLock then raiseEv 3 8 (spoilScans (modClk s fun c => { c with sadcLock := false })) else s

/-- SADC_LOCK (R40): the multiplier, which runs while VS is powered, has locked again. -/
def execSadcLock (s : State) : Out :=
  act s fun s => if domOn s 11 then modClk s fun c => { c with sadcLock := true } else s

/-- CONVERTER_LINK_LOSS (R20, R178, R259): valid words have ceased to arrive for 2 us. -/
def execConverterLinkLoss (s : State) : Out :=
  act s converterLost

/-! The timebase (R49-R54). -/

/-- ALARM_FIRE (R54): a carry at which an enabled alarm that has not fired finds its value reached. -/
def execAlarmFire (n : Fin 2) (s : State) : Out := actWake s fun s => modTime s (alarmCarry n)

/-- PERIODIC_TIMER_FIRE (R54): the down-counter has reached zero. -/
def execPeriodicTimerFire (s : State) : Out :=
  actWake s fun s => if s.time.period = 0 then s else modTime s periodicFires

/-- TRIM_INTERVAL_END (R51): 2^20 CK32 cycles have passed. -/
def execTrimIntervalEnd (s : State) : Out :=
  actWake s fun s => trimEnds (modTime s fun t => { t with trimCnt := 0 })

/-- UTIME_LOAD (R49): a commit of UTIME_CTRL with LOAD = 1. -/
def execUtimeLoad (pv : PortView) (v : Word) (s : State) : Out := hostAct pv s (commitRow pv 3 0x20 (v ||| 0x100))

end Sys2Proof.Machine
end

