-- ==== Sys2Proof/Machine/Flow.lean ====
section
/-!
DEFINITION. The flow and synchronisation instructions (R107-R114): branches, calls, loops, semaphores and WAITF.
-/

namespace Sys2Proof.Machine

/-- R111: a condition code that is legal. -/
def condOk (c : BitVec 4) : Bool := c.toNat < 14

/-- R111: the condition, on the flags as committed by earlier instructions. -/
def condHolds (x : Engine) (c : BitVec 4) : Bool :=
  match c.toNat with
  | 0 => true
  | 1 => x.fz
  | 2 => !x.fz
  | 3 => x.fn
  | 4 => !x.fn
  | 5 => !x.fn && !x.fz
  | 6 => x.fn || x.fz
  | 7 => x.fv
  | 8 => !x.fv
  | 9 => x.fc
  | 10 => !x.fc
  | 11 => x.fs
  | 12 => !x.fs
  | 13 => x.fdv
  | _ => false

/-- R78, R110, R128: what every conditional flow instruction checks first; not taken, it falls through. -/
def condFlow (c : BitVec 4) (taken : Engine → Eff) (x : Engine) : Eff :=
  if !condOk c then .flt 3
  else if atLoopEnd x then .flt 5
  else if condHolds x c then taken x
  else .ok { x with pc := x.pc + 1 } []

/-- BRA (R112). -/
def execBra (e : Eng) (cond : BitVec 4) (addr : BitVec 13) (s : State) : Out :=
  engFlow s e fun _ => condFlow cond fun x => .ok { x with pc := addr } []

/-- CALL (R112, R79): a push onto a full stack is cause 8. -/
def execCall (e : Eng) (cond : BitVec 4) (addr : BitVec 13) (s : State) : Out :=
  engFlow s e fun _ => condFlow cond fun x =>
    if 8 ≤ x.rets.length then .flt 8 else .ok { x with rets := (x.pc + 1) :: x.rets, pc := addr } []

/-- RET (R112, R79): a pop from an empty stack is cause 9. -/
def execRet (e : Eng) (cond : BitVec 4) (s : State) : Out :=
  engFlow s e fun _ => condFlow cond fun x =>
    match x.rets with
    | [] => .flt 9
    | r :: rs => .ok { x with rets := rs, pc := r } []

/-- BRX (R112): the table base plus IX as AG sees it. -/
def execBrx (e : Eng) (cond : BitVec 4) (addr : BitVec 13) (s : State) : Out :=
  engFlow s e fun _ => condFlow cond fun x => .ok { x with pc := addr + x.ixAg.setWidth 13 } []

/-- EXIT (R112, R113): with no active level it is cause 7. -/
def execExit (e : Eng) (cond : BitVec 4) (s : State) : Out :=
  engFlow s e fun fv => condFlow cond fun x =>
    match x.loops with
    | [] => .flt 7
    | l :: _ => .ok { (popLoop fv x) with pc := l.stop + 1 } []

/-- R77: a level is pushed; the level it encloses keeps its count. -/
def pushLoop (x : Engine) (stop : BitVec 13) (n : BitVec 16) : Engine :=
  let saved := match x.loops with
    | l :: ls => { l with count := x.lc } :: ls
    | [] => []
  { x with loops := { start := x.pc + 1, stop := stop, count := n } :: saved, lc := n, pc := x.pc + 1 }

/-- R77, R112, R113: a loop instruction with count `n`. -/
def loopStep (n : BitVec 16) (stop : BitVec 13) (x : Engine) : Eff :=
  if stop.toNat ≤ x.pc.toNat || x.loops.any (fun l => l.stop = stop) then .flt 3
  else if atLoopEnd x then .flt 5
  else if n = 0 then .ok { x with pc := stop + 1 } []
  else if 4 ≤ x.loops.length then .flt 6
  else .ok (pushLoop x stop n) []

/-- LOOP (R110, R112). -/
def execLoop (e : Eng) (count : BitVec 11) (stop : BitVec 13) (s : State) : Out :=
  engFlow s e fun _ => loopStep (count.setWidth 16) stop

/-- R110: the count register of LOOPR, in AG (R98). -/
def cregValue (creg : BitVec 6) (x : Engine) : Option (BitVec 16) :=
  if creg = 44 then some x.ixAg
  else if 8 ≤ creg.toNat && creg.toNat < 16 then
    some ((x.p[creg.toNat % 8]'(Nat.mod_lt _ (by decide))).setWidth 16)
  else none

/-- LOOPR (R110, R112): other count registers are illegal. -/
def execLoopr (e : Eng) (creg : BitVec 6) (stop : BitVec 13) (s : State) : Out :=
  engFlow s e fun _ x =>
    match cregValue creg x with
    | some n => loopStep n stop x
    | none => .flt 3

/-- An instruction that issues a request and does not wait for what is outstanding; `f` gives the engine and what else
the issue does. -/
def engIssue (s : State) (e : Eng) (f : Engine → Eff) : Out :=
  if engMay s e then
    let x := getEng s e
    match f { atExec (freeVal s) x with dvLate := false } with
    | .flt c => .next (settle (engFault e c (drain e s)))
    | .ok y st =>
      engEnd e (engPlace e x { y with pc := (pcNext (freeVal s) x).pc } st (if fetchFree x then freeTaken s else s))
  else .next s

/-- The position of the last delay write outstanding: what a SIG waits for. -/
def dlyWrites : List DlyReq → Nat
  | [] => 0
  | r :: rs =>
    let n := dlyWrites rs
    if n ≠ 0 then n + 1 else match r with | .write _ _ => 1 | _ => 0

/-- The position of the last fabric write outstanding. -/
def fabWrites : List FabReq → Nat
  | [] => 0
  | r :: rs =>
    let n := fabWrites rs
    if n ≠ 0 then n + 1 else match r with | .write _ _ _ => 1 | _ => 0

/-- SIG (R108): the increment waits for the engine's earlier writes; SIG_APPLY applies it. -/
def execSig (e : Eng) (sem : BitVec 5) (s : State) : Out :=
  engIssue s e fun x =>
    if e = weNum then .flt 4
    else
      let g : SigReq := { sem := ⟨sem.toNat, sem.isLt⟩, dAhead := dlyWrites x.dq, fAhead := fabWrites x.fq }
      .ok { x with sigq := x.sigq ++ [g] } []

/-- SIG_APPLY (R108, R82): the increments of engine `e` whose earlier writes have been accepted take effect. -/
def execSigApply (e : Eng) (s : State) : Out :=
  act s fun s => if e ≠ weNum && s.arb.coreRun then applySigs e s else s

/-- WAITS (R81, R108): a non-zero count is decremented; on zero the engine waits. -/
def execWaits (e : Eng) (sem : BitVec 5) (s : State) : Out :=
  if engMay s e then
    let s1 := drain e s
    let x := getEng s1 e
    let n : Fin 32 := ⟨sem.toNat, sem.isLt⟩
    if e = weNum then .next (settle (engFault e 4 s1))
    else if atLoopEnd x then .next (settle (engFault e 5 s1))
    else
      let y := { x with pc := x.pc + 1 }
      if s1.core.sems[n] = 0 then .next (engCommit e x { y with run := .waitS n } [] s1)
      else
        .next (engCommit e x y []
          { s1 with core := { s1.core with sems := vset s1.core.sems n (s1.core.sems[n] - 1) } })
  else .next s

/-- WAITF (R80, R109): with its request queues empty the engine waits for step 4 of the next boundary, or WE for its block
strobe. -/
def execWaitf (e : Eng) (s : State) : Out :=
  engFlow s e fun _ x =>
    if atLoopEnd x then .flt 5 else .ok { x with pc := x.pc + 1, run := .waitF, waitfDone := true } []

end Sys2Proof.Machine
end

