-- ==== Sys2Proof/Machine/Access.lean ====
section
/-!
DEFINITION. Fabric and delay access (R115-R120) and the results that arrive later (R72, R120, R123).
-/

namespace Sys2Proof.Machine

/-- R71, R403: a limited event of an engine: one frame, per engine and core. -/
def engEvent (src : Nat) (e : Eng) (s : State) : State :=
  raiseLimited src (e.val + 32 * (sideIx s.arb.active).val) e.val none s

/-- R259: the scan mirror, the top 128 words of the delay SRAM. -/
def inScanMirror (a : BitVec 21) : Bool := 0x1FFF80 ≤ a.toNat

/-- R71, R259: the delay window check. -/
def inWindow (x : Engine) (a : BitVec 21) (isWrite : Bool) : Bool :=
  if inScanMirror a then !isWrite else x.winBase ≤ a.toNat && a.toNat < x.winBase + x.winLen

/-- SYS results outstanding of SV arrive. -/
def sysDone (e : Eng) (s : State) : State := times deliverSys (if e = sv then 4 else 0) s
/-- R72: before a delay read, what the other queues hold completes (log 5), and a full queue frees an entry. -/
def roomDly (e : Eng) (s : State) : State :=
  let s1 := sysDone e (times (deliverFab e) (getEng s e).fq.length s)
  if 4 ≤ (getEng s1 e).dq.length then deliverDly e s1 else s1
/-- R120: the same of the fabric queue. -/
def roomFab (e : Eng) (s : State) : State :=
  let s1 := sysDone e (times (deliverDly e) (getEng s e).dq.length s)
  if 4 ≤ (getEng s1 e).fq.length then deliverFab e s1 else s1

/-- R119: the delay address and DPk afterwards. -/
def dlyAddr (x : Engine) (k : Fin 4) (dm : BitVec 2) (ofs : BitVec 16) : BitVec 21 × BitVec 21 :=
  match dm.toNat with
  | 1 => (x.dp[k], dadvance x k ofs.toInt)
  | 2 => (dadvance x k ofs.toInt, dadvance x k ofs.toInt)
  | _ => (dadvance x k ofs.toInt, x.dp[k])

/-- R115, R116, R119: the fields of DLR and DLW are legal. -/
def dlyOk (loc : BitVec 3) (pq dm : BitVec 2) : Bool := locOk loc pq false && dm ≠ 3

/-- The engine after the address stage of a delay access. -/
def dlyAg (x : Engine) (loc : BitVec 3) (pq : BitVec 2) (k : Fin 4) (dm : BitVec 2) (ofs : BitVec 16) : Engine :=
  let y := locAdvance x loc pq
  { y with dp := vset y.dp k (dlyAddr x k dm ofs).2 }

/-- R71, R101: a violation sets DV; in which cycle it is reported is open: the free bit `late` says that it is the cycle in which
the next instruction commits (log 5). -/
def violate (late : Bool) (y : Engine) : Engine := { y with fdv := true, dvLate := late }

/-- The free bit of a violation. -/
def lateBit (s : State) : Bool := (freeVal s).getLsbD 32

/-- A violation takes its free value. -/
def violTaken (viol : Bool) (s : State) : State := if viol then freeTaken s else s

/-- The issue of an access: the engine moves on, and the limited event `ev` is raised when the access failed. -/
def issued (failed : Option Nat) (e : Eng) (o : Out) : Out :=
  match failed, o with
  | some ev, .next t => .next (settle (engEvent ev e t))
  | _, o => o

/-- DLR (R119, R71, R127). -/
def execDlr (e : Eng) (loc : BitVec 3) (pq k dm : BitVec 2) (ofs : BitVec 16) (s : State) : Out :=
  if engMay s e then
    let s1 := roomDly e s
    let x := getEng s1 e
    let a := (dlyAddr x (ix2 k) dm ofs).1
    let ok := e = weNum || inWindow x a false
    issued (if dlyOk loc pq dm && !ok then some 18 else none) e
      (engIssue (violTaken (dlyOk loc pq dm && !ok) s1) e fun x =>
        if !dlyOk loc pq dm then .flt 3
        else
          let y := dlyAg x loc pq (ix2 k) dm ofs
          let dst := locOf x loc pq
          if ok then .ok { y with dq := y.dq ++ [.read a dst] } []
          else .ok (violate (lateBit s1) { y with dq := y.dq ++ [.zero dst] }) [])
  else .next s

/-- DLW (R119, R71): on WE it is discarded, sets DV and raises no event (R56, R127). -/
def execDlw (e : Eng) (loc : BitVec 3) (pq k dm : BitVec 2) (ofs : BitVec 16) (s : State) : Out :=
  if engMay s e then
    let s1 := drain e s
    let x := getEng s1 e
    let a := (dlyAddr x (ix2 k) dm ofs).1
    let ok := e ≠ weNum && inWindow x a true
    issued (if dlyOk loc pq dm && !ok && e ≠ weNum then some 18 else none) e
      (engIssue (violTaken (dlyOk loc pq dm && !ok) s1) e fun x =>
        if !dlyOk loc pq dm then .flt 3
        else
          let v := locDelay x (locOf x loc pq)
          let y0 := dlyAg x loc pq (ix2 k) dm ofs
          let y := { y0 with fs := y0.fs || v.2 }
          if ok then .ok { y with dq := y.dq ++ [.write a v.1] } []
          else .ok (violate (lateBit s1) y) [])
  else .next s

/-- R117: the sample index. -/
def sampleIx (x : Engine) (loc : BitVec 3) (pq : BitVec 2) (ixa : Bool) (idx : BitVec 8) : Nat :=
  if loc = 4 || loc = 5 then (x.p[locPtr loc pq].toNat + idx.toNat) % 256
  else if ixa then (x.ixAg.toNat + idx.toNat) % 256
  else idx.toNat

/-- R115, R116: the fields of FRD and FWR are legal. -/
def fabOk (loc : BitVec 3) (pq : BitVec 2) (ixa : Bool) (slot : BitVec 10) : Bool := locOk loc pq ixa && slot.toNat < 640

/-- R47: a D16 slot in degraded mode: an ignored item, not a fabric-access event. -/
def degradedSlot (s : State) (slot : Nat) : Bool := s.clk.degraded && 512 ≤ slot

/-- R118, R141: an FRD of the sample succeeds. -/
def frdOk (s : State) (slot j : Nat) : Bool :=
  slotProvided s.core.fab slot && j < slotLen s.core.fab slot && !isControlSlot slot

/-- R118, R141: an FWR of the sample succeeds. -/
def fwrOk (s : State) (e : Eng) (slot j : Nat) : Bool :=
  slotProvided s.core.fab slot && j < slotLen s.core.fab slot && slotWritable e slot

/-- R118: what a failed access brings: the fabric-access event, or the ignored item of degraded mode. -/
def fabFailed (deg failed : Bool) (e : Eng) (o : Out) : Out :=
  match o with
  | .next t =>
    if deg then .next (settle (ignoreCore 15 0 t))
    else if failed then .next (settle (engEvent 19 e t))
    else .next t
  | o => o

/-- FRD (R117, R118). -/
def execFrd (e : Eng) (loc : BitVec 3) (pq : BitVec 2) (ixa : Bool) (slot : BitVec 10) (idx : BitVec 8) (s : State) : Out :=
  if engMay s e then
    let s1 := roomFab e s
    let j := sampleIx (getEng s1 e) loc pq ixa idx
    let legal := fabOk loc pq ixa slot && e ≠ weNum
    let deg := degradedSlot s1 slot.toNat
    let good := frdOk s1 slot.toNat j && !deg
    fabFailed (legal && deg) (legal && !good) e
      (engIssue s1 e fun x =>
        if !fabOk loc pq ixa slot then .flt 3
        else if e = weNum then .flt 4
        else
          let dst := locOf x loc pq
          let y := locAdvance x loc pq
          .ok { y with fq := y.fq ++ [if good then .read slot.toNat j dst else .zero dst] } [])
  else .next s

/-- FWR (R117, R118): it reads its location, so what is outstanding arrives first. -/
def execFwr (e : Eng) (loc : BitVec 3) (pq : BitVec 2) (ixa : Bool) (slot : BitVec 10) (idx : BitVec 8) (s : State) : Out :=
  if engMay s e then
    let s1 := drain e s
    let j := sampleIx (getEng s1 e) loc pq ixa idx
    let legal := fabOk loc pq ixa slot && e ≠ weNum
    let deg := degradedSlot s1 slot.toNat
    let good := fwrOk s1 e slot.toNat j && !deg
    fabFailed (legal && deg) (legal && !good) e
      (engIssue s1 e fun x =>
        if !fabOk loc pq ixa slot then .flt 3
        else if e = weNum then .flt 4
        else
          let v := locSample x (locOf x loc pq)
          let y0 := locAdvance x loc pq
          let y := { y0 with fs := y0.fs || v.2 }
          .ok (if good then { y with fq := y.fq ++ [.write slot.toNat j v.1] } else y) [])
  else .next s

/-- FRD_RESULT (R120): the oldest fabric request of the engine completes. -/
def execFrdResult (e : Eng) (s : State) : Out := act s fun s => if e = weNum then s else deliverFab e s

/-- DLR_RESULT (R72): the oldest delay request of the engine completes. -/
def execDlrResult (e : Eng) (s : State) : Out := act s (deliverDly e)

/-- SYS_RESULT (R123): the oldest SYS result of SV arrives. -/
def execSysResult (s : State) : Out := act s deliverSys

end Sys2Proof.Machine
end

