-- ==== Sys2Proof/Machine/OutOps.lean ====
section
/-!
DEFINITION. What the fabric computes in a frame (R143, R149-R153, R162, R173, R178): sums over entries, the Ceiling limiters, the
output mute ramps, the direct path and what the outputs play.  The framed outputs of a frame are computed at the boundary that
begins it, and what they have played with the direct path at the boundary that ends it (log 24).
-/

namespace Sys2Proof.Machine

/-! Sums over entries (R143, R150, R151). -/

/-- R117, R140, R243: the block that stands in a slot. -/
def slotBlock (s : State) (a : Nat) : List Sample :=
  if isPdmSlot a && pdmSilent s then [] else mget [] s.core.fab.inB a

/-- R143, R150, R151: the exact sum of entry gains times slot samples at sample `j`, in units of 2^-44. -/
def entrySum (s : State) (es : List Entry) (j : Nat) : Int :=
  es.foldl (fun n e => n + rampGain e.g0.toInt e.g1.toInt (e.k + j + 1) e.n * ((slotBlock s e.slot).getD j 0).toInt) 0

/-- R143, R150, R65: the sums of a block, saturated, with whether each clipped. -/
def mixBlock (s : State) (es : List Entry) (len : Nat) : List (Sample × Bool) :=
  (List.range len).map fun j => sat24 (rnd (entrySum s es j) 21)

/-- R151: an entry's ramp after `len` more samples. -/
def entryOn (len : Nat) (e : Entry) : Entry := { e with k := min e.n (e.k + len) }

/-- R152: entries after a boundary: those that have faded away are free. -/
def liveEntries (es : List Entry) : List Entry := es.filter fun e => !entryDone e

/-! The Ceiling limiter (R173-R175). -/

/-- R173, R175: Cq of a ceiling of -0.25 * c dBFS: the largest n with n^80 * 10^c <= 2^1840. -/
def quantCeil (c : Nat) : Nat :=
  (List.range 24).reverse.foldl (fun n i => if (n + 2 ^ i) ^ 80 * 10 ^ c ≤ 2 ^ 1840 then n + 2 ^ i else n) 0

/-- R171, R175: the ceiling code of a sink in force. -/
def sinkCeil (s : State) (k : Nat) : Nat :=
  let c := fld (tword s.core.tab.proc (16 + k)) 0 8
  let step := if 8 ≤ k && k < 16 then s.core.fab.ceilStep.toList.getD ((k - 8) / 2) 0 else 0
  min 255 (c + 12 * step)

/-- The lesser of two fractions. -/
def fracMin (a b : Nat × Nat) : Nat × Nat := if a.1 * b.2 ≤ b.1 * a.2 then a else b

/-- R173: r[m] + (1 - r[m]) * k / katt as a fraction; with k = 0 it is r[m]. -/
def limTerm (x : LimSample) (k katt : Nat) : Nat × Nat :=
  let a := x.x.toInt.natAbs
  if a ≤ x.cq then (1, 1)
  else if k = 0 then (x.cq, a)
  else (x.cq * (katt - k) + a * k, a * katt)

/-- R173: the allowed gain; `w` holds x[n] to x[n - A]. -/
def limAllow (w : List LimSample) (a katt : Nat) : Nat × Nat :=
  (List.range (min a (katt - 1))).foldl (fun m i => fracMin m (limTerm (w.getD (a - (i + 1)) {}) (i + 1) katt))
    (limTerm (w.getD a {}) 0 katt)

/-- R173: the release towards 1.0 from gain `g`, in units of 2^-24, with exponent `e`. -/
def limRelease (g e : Nat) : Nat × Nat := (g * 2 ^ e + (16777216 - g), 16777216 * 2 ^ e)

/-- A Ceiling limiter between samples. -/
structure LimState where
  win : List LimSample := []
  gain : Nat := 16777216
  clamped : Bool := false

/-- R173: the window with the zeros of its oldest end left out. -/
def trimWin (w : List LimSample) : List LimSample := (w.reverse.dropWhile fun x => x.x = 0).reverse

/-- R173: one sample enters a limiter of look-ahead `a`, and one leaves. -/
def limStep (a att e cq : Nat) (x : Sample) (l : LimState) : Sample × LimState :=
  let katt := min att a
  let w := { x := x, cq := cq : LimSample } :: l.win
  let m := fracMin (limAllow w a katt) (limRelease l.gain e)
  let g := (rndDiv (m.1 * 16777216) m.2).toNat
  let o := w.getD a {}
  let v := rnd (o.x.toInt * g) 24
  let y := max (-(o.cq : Int)) (min (o.cq : Int) v)
  (BitVec.ofInt 24 y, { win := trimWin (w.take a), gain := g, clamped := l.clamped || y ≠ v })

/-- R173: a block passes a limiter. -/
def limBlock (a att e cq : Nat) : List Sample → LimState → List Sample × LimState
  | [], l => ([], l)
  | x :: xs, l =>
    let r := limStep a att e cq x l
    let t := limBlock a att e cq xs r.2
    (r.1 :: t.1, t.2)

/-- R143, R173: a limiter through which nothing but silence passes. -/
def limQuiet (xs : List Sample) (x : Sink) : Bool := xs.all (· = 0) && x.win.isEmpty && x.gain = 16777216

/-! The output mute ramp (R178, R180, R299, R438). -/

/-- R36, R178, R37: the resident program mutes every output unless message 0 plays. -/
def residentMute (s : State) : Bool := s.core.prog == .resident && s.core.play.isNone

/-- R178: a cause of sink k's own output: converter link, jack, bridge. -/
def ownMute (s : State) (k : Nat) : Bool :=
  if k < 6 then (!s.conv.linkOk || s.conv.linkWait ≠ 0) || (4 ≤ k && !jackPlays s)
  else if 8 ≤ k && k < 16 then
    let x := s.bridges.toList.getD (k - 8) {}
    !(x.st = 2 || (x.st = 1 && x.fade))
  else false

/-- R178: some mute cause is active for the output of sink k. -/
def sinkMuted (s : State) (k : Nat) : Bool := residentMute s || stagedMute s k || s.arb.toMute || ownMute s k

/-- R180, R181, R233, R438: u is held at 0: a line output that is disabled or whose mute switches are closed, or a headphone
output whose charge pump has not settled. -/
def sinkForced (s : State) (k : Nat) : Bool :=
  k < 6 && (s.tap.extest || !domOn s 10 ||
    (if k < 4 then qchg s.conv ≠ 2 || !loOn s k || s.conv.loWait.toList.getD k 0 ≠ 0 else s.conv.hpWait ≠ 0))

/-- R178: u at sample `j` of a block that begins with `u`, in units of 1/48. -/
def muteAt (forced muted : Bool) (inc u j : Nat) : Nat :=
  if forced then 0 else if muted then u - inc * (j + 1) else min 48 (u + inc * (j + 1))

/-- R178: 1/24 per 48 kHz period, in units of 1/48 per sample. -/
def muteInc (f : Fabric) : Nat := if f.r96 then 1 else 2

/-! Sinks 0-79 in a frame (R144). -/

/-- R37: message 0 stands in place of the routes: line outputs and bridges. -/
def playsMessage (s : State) (k : Nat) : Bool :=
  s.core.prog == .resident && s.core.play.isSome && (k < 4 || (8 ≤ k && k < 16))

/-- R385, R387: message 0 at gain LEVEL, at the rate of D48. -/
def messageBlock (s : State) (len : Nat) : List Sample :=
  match s.core.play with
  | some p => (List.range len).map fun j => sampleOf (rnd (fld (p.msg.getD 5 0) 0 24 * p.out.getD j 0) 21)
  | none => []

/-- R182, R212: the signal gain of bridge sink `k` at sample `j` of the frame, in units of 1/480: it rises over the 480 periods of
step 3 of the soft-start, and an end that is held off, or passes steps 1 and 2 to drive again, gives nothing. -/
def signalGain (s : State) (k j : Nat) : Nat :=
  let x := s.bridges.toList.getD (k - 8) {}
  let t := if s.core.fab.r96 then j / 2 else j
  if !(8 ≤ k && k < 16) then 480
  else if x.st = 1 && x.fade then min 480 (x.sgain + t + 1)
  else if x.held || t < x.rejoin then 0
  else 480

/-- R162: the direct path joins the output of sink k. -/
def joinsDirect (f : Fabric) (k : Nat) : Bool := f.direct.live && f.direct.sink.toNat = k

/-- R143, R144, R173, R174, R178: sink k takes on its block and its output block goes to the output; with whether the final
clamp changed a sample. -/
def runSink (k : Nat) (s : State) : State × Bool :=
  let f := s.core.fab
  let len := d48Len f
  let x := getSink f k
  let xs := if playsMessage s k then messageBlock s len else (mixBlock s x.entries len).map (·.1)
  let w := tword s.core.tab.proc (16 + k)
  let (ys, l) :=
    if limQuiet xs x then ([], { win := x.win, gain := x.gain : LimState })
    else limBlock f.lookA (fld w 8 7) (fld w 16 4 + 4) (quantCeil (sinkCeil s k)) xs { win := x.win, gain := x.gain }
  let at_ (j : Nat) : Nat := muteAt (sinkForced s k) (sinkMuted s k) (muteInc f) x.u j
  let out : List OutSample := (List.range len).map fun j => { x := ys.getD j 0, u := at_ j, g := signalGain s k j }
  let x1 := { x with entries := x.entries.map (entryOn len), win := l.win, gain := l.gain, u := at_ (len - 1) }
  let s1 := modFab s fun f =>
    let g := setSink f k x1
    { g with outB := mset [] g.outB k (if ys.all (· = 0) && !joinsDirect f k then [] else out) }
  (s1, l.clamped)

/-- R142: the sinks 0-79 that exist. -/
def outputSinks (s : State) : List Nat := (List.range 80).filter (sinkExists s)

/-- R174, R400: a frame in which the final clamp changed a sample of the sinks, `k` the first of them, is counted and told. -/
def clampSeen (k : Option Nat) (s : State) : State :=
  match k with
  | some k => raiseLimited 34 0 k none (modFab s fun f => { f with clamps := sat8 f.clamps })
  | none => s

/-- R144, R174: every output takes on its block for the frame. -/
def runOutputs (s : State) : State :=
  let r := (outputSinks s).foldl (fun p k =>
    let q := runSink k p.1
    (q.1, if q.2 && p.2.isNone then some k else p.2)) (s, none)
  clampSeen r.2 r.1

/-! The outputs of the frame that ends (R156, R159, R162, R166, R170). -/

/-- R162, R24: samples of 384 kHz to one of D48. -/
def perSample (f : Fabric) : Nat := if f.r96 then 4 else 8

/-- R24, R162: the samples that the direct path has added, after the high-pass filter of its input (log 42). -/
def directSamples (s : State) : List Sample :=
  let f := s.core.fab
  let d := f.direct
  if !d.live then []
  else
    let xs := if 8 ≤ d.inp.toNat && pdmSilent s then [] else (s.conv.filt[d.inp.toFin]).cap
    (List.range (8 * flen f.f)).map fun i =>
      sampleOf (rnd (rampGain d.e.g0.toInt d.e.g1.toInt (d.e.k + i / perSample f + 1) d.e.n * xs.getD i 0) 21)

/-- R162, R166: what the output of sink k has played: the framed signal after its limiter, with the direct path's samples added
and the sum saturated, under the output mute; a framed sample stands for its samples of 384 kHz (log 42). -/
def playedBy (f : Fabric) (direct : List Sample) (k : Nat) : List OutSample :=
  let ys := mget [] f.outB k
  if joinsDirect f k then
    (List.range direct.length).map fun i =>
      let y := ys.getD (i / perSample f) {}
      { y with x := sampleOf (y.x.toInt + (direct.getD i 0).toInt) }
  else ys

/-- R178: the samples of an output under its mute, in units of 1/48 of a sample's. -/
def mutedInts (ys : List OutSample) : List Int := ys.map fun y => y.x.toInt * y.u

/-- R156, R159: the channel of a TDM port drives its data output: the port runs and the channel lies within its slots. -/
def tdmDrives (s : State) (n : Nat) : Bool :=
  let t := s.core.fab.tdm.toList.getD (n / 16) {}
  s.arb.coreRun && t.en && t.st = 2 && !s.pm.tdmHalt && !s.clk.degraded && n % 16 < tdmSlots t.slots

/-- R155: the converter of transmit channel n: its state, and the samples that leave it. -/
def txRun (s : State) (n : Nat) : List Int × List Int :=
  if tdmDrives s n then
    passStage (.tdmTransmit (s.core.fab.tdm.toList.getD (n / 16) {}).rate.toNat) (mget [] s.core.fab.tx n)
      (mutedInts (mget [] s.core.fab.playB (16 + n)))
  else ([], [])

/-- R156: a slot word: the sample in bits [31:8], and bits [7:0] zero. -/
def slotWord (v : Int) : Word := (sampleOf v) ++ (0 : BitVec 8)

/-- R170: the interpolation filter of sink k, a line or headphone output. -/
def interpRun (s : State) (k : Fin 6) : List Int × List Int :=
  runStage (.interpolate (bit (tword s.core.tab.proc (16 + k.val)) 20)) (8 * flen s.core.fab.f) s.conv.interp[k]
    (mutedInts (mget [] s.core.fab.playB k.val))

/-- R156, R159, R162, R166, R170: what the outputs have played in the frame that ends; a data output that nothing drives is 0. -/
def finishOutputs (s : State) : State :=
  let d := directSamples s
  let s1 := modFab s fun f =>
    { f with directB := normBlock d, playB := mapOver [] (playedBy f d) (List.range 80) }
  let s2 := modFab s1 fun f =>
    { f with tx := mapOver [] (fun n => (txRun s1 n).1) (List.range 64),
             txW := mapOver [] (fun n => (txRun s1 n).2.map slotWord) (List.range 64) }
  modConv s2 fun c =>
    { c with interp := .ofFn fun k => (interpRun s1 k).1,
             dac := .ofFn fun k => if (interpRun s1 k).2.all (· = 0) then [] else (interpRun s1 k).2 }

/-! Mix buses (R149, R150). -/

/-- R150: one bus of the frame that ends: its output block, and whether it clipped. -/
def busBlock (s : State) (b : Bus) : List Sample × Bool :=
  let r := mixBlock s b.entries (d48Len s.core.fab)
  (normBlock (r.map (·.1)), r.any (·.2))

/-- R161, R400: a frame in which the outputs of buses clipped, `b` the first of them, is counted and told. -/
def clipSeen (b : Option Nat) (s : State) : State :=
  match b with
  | some b => raiseLimited 33 0 b none (modFab s fun f => { f with busClip := sat8 f.busClip })
  | none => s

/-- R144, R150, R151, R154, R162: the gain ramps of buses, of bridge inputs and of the direct path after the frame that ends. -/
def busesOn (s : State) : State :=
  let clip := s.core.fab.buses.find? fun p => busProvided s.core.fab p.1 && (busBlock s p.2).2
  clipSeen (clip.map (·.1)) (modFab s fun f =>
    { f with buses := f.buses.map fun p => (p.1, { p.2 with entries := p.2.entries.map (entryOn (d48Len f)) }),
             sinks := f.sinks.map fun p =>
               if 80 ≤ p.1 then (p.1, { p.2 with entries := p.2.entries.map (entryOn (d48Len f)) }) else p,
             direct := { f.direct with e := entryOn (d48Len f) f.direct.e } })

/-- R152, R162: what has faded away is released. -/
def releaseEntries (s : State) : State :=
  modFab s fun f =>
    { f with
      buses := (f.buses.map fun p => (p.1, { p.2 with entries := liveEntries p.2.entries })).filter fun p => p.2 ≠ {}
      sinks := (f.sinks.map fun p => (p.1, { p.2 with entries := liveEntries p.2.entries })).filter fun p => p.2 ≠ {}
      direct := if f.direct.live && !f.direct.on && entryDone f.direct.e then {} else f.direct }

end Sys2Proof.Machine
end

