-- ==== Sys2Proof/Machine/RailOps.lean ====
section
/-!
DEFINITION. What the power dies have done in the frame that ends (R185, R190, R192, R195, R208): the rails' trajectories, the
modulators' demands against the rail, the rail guard, and the reports that the status registers show (log 47).
-/

namespace Sys2Proof.Machine

/-! The trajectory of a rail (R190, R192). -/

/-- R192: the need that a bridge's words give `i` switching periods after the frame began, in units of 10 mV / 4800: it runs
straight from each sample to the next, `per` periods on, and from the last to the first of the block that follows. -/
def needAt (per : Nat) (x next : Bridge) (i : Nat) : Nat :=
  let at_ (j : Nat) : Nat :=
    match x.needs[j]? with
    | some v => v.toNat
    | none => (if x.needs.isEmpty then x.need else next.needs.headD x.need).toNat
  (at_ (i / per) * (per - i % per) + at_ (i / per + 1) * (i % per)) * (4800 / per)

/-- R190: the target of die d, `i` switching periods after the frame of `old` began, in units of 10 mV / 4800. -/
def targetAt (per : Nat) (old s : State) (d : Fin 4) (i : Nat) : Nat :=
  let need (b : Fin 8) : Nat :=
    let x := s.bridges[b]
    (if x.st = 5 then 0 else needAt per old.bridges[b] x i) + 4800 * playingPeak x.exc
  targetOf 4800 s d (((List.finRange 8).filter fun b => dieOf b = d && contributes s.bridges[b]).map need)

/-- R190: one step of a trajectory: it rises by no more than `rise` and falls by no more than `fall`. -/
def slew (rise fall target at_ : Nat) : Nat := if at_ ≤ target then min target (at_ + rise) else max target (at_ - fall)

/-- R190, R202: the trajectory of die d after the frame of `old`; RISE and FALL are in V/ms. -/
def railPass (old s : State) (d : Fin 4) : Nat :=
  let x := s.dies[d]
  let w := dieWord s d.val
  let per := if old.core.fab.r96 then 8 else 16
  (List.range (16 * flen old.core.fab.f)).foldl (fun t i =>
    slew (625 * fld w 0 8) (625 * fld w 8 7) (if x.modOk then targetAt per old s d i else 4800 * x.target) t) x.traj

/-- R190, R204, R205: the trajectories of the powered dies whose boost works. -/
def railsOn (old s : State) : State :=
  { s with dies := vmap s.dies fun d x =>
      if dieOn s d.val && !x.bfault && !x.tshut then { x with traj := railPass old s d } else x }

/-! The modulators (R185, R195). -/

/-- R185, R182: what bridge sink k has played in the frame of `old` reaches the switching rate: the state of the interpolation, and
the demand of each switching period in units of VFS / (2^23 * 48 * 480). -/
def modRun (old s : State) (b : Fin 8) : List Int × List Int :=
  let f := old.core.fab
  let per := if joinsDirect f (8 + b.val) then 8 else if f.r96 then 2 else 1
  runStage (.modulate per) (16 * flen f.f) (s.bridges[b]).mod
    ((mget [] s.core.fab.playB (8 + b.val)).map fun y => y.x.toInt * y.u * y.g)

/-- R185, R195: the demand of a switching period, its signal and its excitation (in mV), exceeds 0.97 * (VRAIL - 1 V) with VRAIL in
10 mV. -/
def exceedsRail (mode : BitVec 2) (x wave : Int) (vrail : BitVec 16) : Bool :=
  97 * (10 * vrail.toNat - 1000) * (2 ^ 23 * 23040) < 100 * (x * (100 * vfs mode) + wave * (2 ^ 23 * 23040)).natAbs

/-- R195: the rail limited bridge b in some switching period of the frame of `old`. -/
def railLimits (old s : State) (b : Fin 8) (vrail : List (BitVec 16)) : Bool :=
  let x := s.bridges[b]
  contributes x && !x.held &&
  ((modRun old s b).2.zipIdx.any fun p =>
    match vrail[p.2]? with | some v => exceedsRail x.mode p.1 (playingWave x.exc p.2) v | none => false)

/-! Reports (R195, R208). -/

/-- R195, R208: the report of the frame of `old` from die d: its measurements, and what its rail limited, which the guard
answers. -/
def dieReport (old : State) (d : Fin 4) (m : DieMeas) (s : State) : State :=
  if dieOn s d.val then
    let s1 := modDie s d fun x => { x with vrail := m.vrail.getLastD x.vrail, ilimIn := m.ilimIn, tj := m.tj }
    let clip (b : Fin 8) : Bool := dieOf b = d && railLimits old s b m.vrail
    let s2 := { s1 with bridges := vmap s1.bridges fun b x => if clip b then { x with railClip := true } else x }
    if (List.finRange 8).any clip && bit (dieWord s d.val) 15 then
      updateRails (raiseLimited 86 d.val d.val none (modDie s2 d fun x => { x with guardOn := true, guard := true }))
    else s2
  else s

/-- R185: the modulators go on. -/
def modsOn (old s : State) : State :=
  { s with bridges := vmap s.bridges fun b x => if contributes x then { x with mod := (modRun old s b).1 } else x }

/-- R208: a saturating count of both. -/
def satSum (x y : BitVec 8) : BitVec 8 := BitVec.ofNat 8 (min 255 (x.toNat + y.toNat))

/-- R208: a bridge reports: its status register takes what has happened since the report before. -/
def brReport (x : Bridge) : Bridge :=
  let r := x.reg
  { x with
    trips := 0, shortSeen := false, clkSeen := false, railClip := false
    reg := { st := x.st, trips := satSum r.trips x.trips, prbFail := min 3 x.prbFail, shortSeen := r.shortSeen || x.shortSeen,
             clkSeen := r.clkSeen || x.clkSeen, railClip := r.railClip || x.railClip, probeZ := x.probeZ } }

/-- R208: a power die reports. -/
def pdReport (x : Die) : Die :=
  { x with reg := { tj := x.tj, tstep := x.tstep, twarn := x.twarn, tshut := x.tshut, bfault := x.bfault } }

/-- R208: the status registers are updated. -/
def reportAll (s : State) : State := { s with bridges := vmap s.bridges fun _ x => brReport x, dies := vmap s.dies fun _ x => pdReport x }

/-- R175, R190, R195: the power dies at a boundary: what the frame of `old` has done, and the steps that the limiters take. -/
def dieBoundary (inp : BoundaryIn) (old s : State) : State :=
  let s1 := (List.finRange 4).foldl (fun t d =>
    match inp.dies[d.val]? with | some m => dieReport old d m t | none => t) (railsOn old s)
  let s2 := modsOn old s1
  modFab s2 fun f => { f with ceilStep := s2.dies.map fun d => d.tstep }

end Sys2Proof.Machine
end

