-- ==== Sys2Proof/Machine/Redundancy.lean ====
section
/-!
DEFINITION. The commands of the feeds, of the mirror link and of takeover (R84, R287, R293-R305).
-/

namespace Sys2Proof.Machine

/-! The mirror link (R293-R297). -/

/-- R294: K, the capacity of a copy in block units. -/
def copyCap : FrameLen → Nat | .f16 => 1663 | .f32 => 3978 | .f48 => 6293 | .f96 => 13238

/-- R293-R295, R124: the copy in flight is complete: the deferred effects of the previous frame take effect, and what an
incomplete copy left stale is current again unless a fill runs. -/
def copyComplete (c : CopyRec) (s : State) : State :=
  let s1 := modMirror s fun m =>
    { m with last := some c, fly := none, flyDirty := [], flyJnl := [], ack := c.frame, staleAge := 0, overload := 0 }
  let s2 := modArb s1 fun a => { a with stale := a.stale && s.mirror.fill.isSome }
  applyDefs s2.hosts.defHeld (modHosts s2 fun h => { h with defHeld := [] })

/-- R305: an accepted takeover command is carried out at the first acknowledgement of the current frame's copy. -/
def takeAtAck (s : State) : State :=
  match s.arb.take with
  | some (_ + 1) => if stbyStale s then s else takeNow s
  | _ => s

/-- R293: the standby acknowledges the copy in flight, whose trailer is right and whose load fits the frame. -/
def copyAck (s : State) : State :=
  match s.mirror.fly with
  | some c =>
    if s.mirror.flyBad || copyCap s.core.fab.f < s.mirror.load then s else takeAtAck (copyComplete c s)
  | none => s

/-- COPY_ACK (R293). -/
def execCopyAck (s : State) : Out := act s copyAck

/-- R20, R293, R295: the mirror link fails, or a copy's CRC does not match: an event tells it; a copy in flight will be found
incomplete, and a link that fails with no copy in flight leaves the standby core stale at once (log 24). -/
def mirrorFault (crc : Bool) (s : State) : State :=
  let told := raiseLimited 21 0 (b2n crc) none
  if !s.arb.stbyUp then s
  else if s.mirror.fly.isSome then
    if s.mirror.flyBad then s else told (modMirror s fun m => { m with flyBad := true, crcerr := true })
  else if crc then s
  else told (if controlRuns s then modArb s fun a => { a with stale := true } else s)

/-- MIRROR_LINK_FAULT (R20, R293): `crc` tells a CRC mismatch from a link fault, which the payload of EV21 names (R400). -/
def execMirrorLinkFault (crc : Bool) (s : State) : Out := act s (mirrorFault crc)

/-- FILL_COMPLETE (R297): STBY_STALE follows FILL and the last copy found incomplete. -/
def execFillComplete (s : State) : Out := act s fun s => modMirror s fun m => { m with fill := none }

/-! Takeover (R84, R305). -/

/-- WATCHDOG_EXPIRY (R84): the watchdog of the active core die has counted its period: takeover cause 3. -/
def execWatchdogExpiry (s : State) : Out :=
  act s fun s => if s.arb.coreRun && s.core.tab.wdog ≤ s.core.wdog then coreCause 3 s else s

/-- TAKE_COMMAND (R305): a commit of ARB_CTRL with TAKE = 1. -/
def execTakeCommand (pv : PortView) (v : Word) (s : State) : Out := hostAct pv s (commitRow pv 3 0x40 (v ||| 1))

/-- TAKE_LAPSE (R305): 16 frames have passed since the commit. -/
def execTakeLapse (s : State) : Out :=
  act s fun s =>
    if s.arb.take = some 0 then ignore 0 14 s.arb.takePort.toNat 0x0343 (modArb s fun a => { a with take := none }) else s

/-- SIDE_DAWN_REQUEST (R303): a commit of ARB_CTRL with SDAWN = 1. -/
def execSideDawnRequest (pv : PortView) (v : Word) (s : State) : Out := hostAct pv s (commitRow pv 3 0x40 (v ||| 4))

/-- SIDE_DAWN_RETRY (R303): 60 s have passed for a side that is to be tried. -/
def execSideDawnRetry (x : Side) (s : State) : Out :=
  act s fun s => if s.pm.sideTry[sideIx x] && s.pm.st = 0 && s.arb.coreRun then startSide x s else s

/-! Feeds (R287, R288). -/

/-- The record of a feed changed. -/
def modFeed (x : Side) (f : Feed → Feed) (s : State) : State := { s with feeds := vmod s.feeds (sideIx x) f }

/-- FEED_PRESENT (R287). -/
def execFeedPresent (x : Side) (s : State) : Out :=
  actWake s fun s => if s.feeds[sideIx x].ok || s.feeds[sideIx x].ov then s else feedUp x s

/-- FEED_LOW (R287). -/
def execFeedLow (x : Side) (s : State) : Out := act s (modFeed x fun f => { f with low := true })

/-- FEED_LOW_CLEAR (R287). -/
def execFeedLowClear (x : Side) (s : State) : Out := act s (modFeed x fun f => { f with low := false })

/-- FEED_LOSS (R287, R288): declared of a feed that had ceased to be available by an overvoltage, it takes nothing more away. -/
def execFeedLoss (x : Side) (s : State) : Out :=
  actWake s fun s =>
    let s1 := raiseEv 0 (sideIx x).val (modFeed x (fun f => { f with ok := false, lost := true }) s)
    if s.feeds[sideIx x].ok then feedGone x s1 else s1

/-- FEED_OVERVOLTAGE (R287, R288). -/
def execFeedOvervoltage (x : Side) (s : State) : Out :=
  actWake s fun s =>
    if s.feeds[sideIx x].ov then s
    else
      let s1 := raiseEv 2 (sideIx x).val (modFeed x (fun f => { f with ok := false, ov := true }) s)
      if s.feeds[sideIx x].ok then feedGone x s1 else s1

/-- FEED_OV_CLEAR (R287): `present` says that the feed has been above 18.5 V for 10 ms without a break. -/
def execFeedOvClear (x : Side) (present : Bool) (s : State) : Out :=
  actWake s fun s =>
    if s.feeds[sideIx x].ov then
      let s1 := modFeed x (fun f => { f with ov := false }) s
      if present then feedUp x s1 else s1
    else s

end Sys2Proof.Machine
end

