-- ==== Sys2Proof/Machine/BoundOps.lean ====
section
/-!
DEFINITION. The steps of a frame boundary (R26): the blocks that stand from it on, the frame's engines, the resident program's
service, deferred effects, and the mirror copy.
-/

namespace Sys2Proof.Machine

/-! Inputs (R138-R140, R166-R169, R242-R245, R251). -/

/-- What hardware delivered under a number (log 14). -/
def delivered {α : Type} (xs : List (Nat × List α)) (n : Nat) : List α :=
  match xs.find? fun p => p.1 = n with | some p => p.2 | none => []

/-- R233, R242, R243, R250, R251: input `i`, numbered as INDOM, admits new samples. -/
def inputAdmits (s : State) (i : Nat) : Bool :=
  if i < 8 then domOn s 9 && inputOn s i
  else
    let q := (i - 8) / 2
    s.conv.pdmOn.toList.getD q false && !s.conv.pdmFade.toList.getD q false && !pdmSilent s

/-- R140, R138: input `i` delivers; at 96 kHz a microphone does so only at 1.536 MHz or faster. -/
def inputLive (s : State) (i : Nat) : Bool :=
  inputAdmits s i && (i < 8 || !s.core.fab.r96 || 2 ≤ (s.conv.pdmRate.toList.getD ((i - 8) / 2) 0).toNat)

/-- R244: the input carries level words. -/
def inputLevels (s : State) (i : Nat) : Bool := 8 ≤ i && !s.conv.rawMode

/-- R167, R168: the samples that input `i` captured pass DC removal and its high-pass filter, at 384 kHz; one that admits none
delivers what its filters still hold. -/
def highPassed (s : State) (raw : List Sample) (i : Nat) (x : InFilt) : InFilt × List Int :=
  let n := 8 * flen s.core.fab.f
  let code := fld (tword s.core.tab.proc i) 0 3
  let dc := runStage .dcRemoval n x.dc (if inputAdmits s i then (List.range n).map fun j => (raw.getD j 0).toInt else [])
  let hp := if code = 0 then (x.hp, dc.2) else runStage (.highPass code) n x.hp dc.2
  ({ x with dc := dc.1, hp := hp.1, cap := if hp.2.all (· = 0) then [] else hp.2 }, hp.2)

/-- R169: the phase response of an input's decimation. -/
def inputPhase (s : State) (i : Nat) : Bool := bit (tword s.core.tab.proc i) 3

/-- R242, R251: a block of decimated samples of input `i`; a microphone's fades, `step` samples of D48 to each of its own. -/
def inputBlock (s : State) (i step : Nat) (x : InFilt) (ys : List Int) : List Sample :=
  normBlock (if i < 8 then (if inputLive s i then ys.map sampleOf else []) else fadeBlock (inputLive s i) step x.gain (ys.map sampleOf))

/-- R245: the level words of a block: its levels, its peak, and its status. -/
def levelWords (levels stream : List Int) (valid clip : Bool) : List Sample :=
  (List.range 10).map (fun j => BitVec.ofNat 24 ((levels.getD j 0).toNat % 65536)) ++
  [sampleOf (stream.foldl (fun m v => max m v.natAbs) 0 : Nat), BitVec.ofNat 24 (b2n valid + 2 * b2n clip)]

/-- R245: a captured sample at full scale. -/
def fullScale (x : Sample) : Bool := x = 0x7FFFFF || x = 0x800000

/-- R138, R244, R245: the block that input `i` delivers to D48 at a boundary. -/
def deliverD48 (s : State) (raw : List Sample) (i : Nat) (x : InFilt) (ys : List Int) : InFilt :=
  let f := s.core.fab
  let live := inputLive s i
  if inputLevels s i then
    let d := runStage (.decimate 0 (inputPhase s i)) (flen f.f) x.dec ys
    let l := runStage .levels 10 x.lev d.2
    { x with dec := d.1, lev := l.1, gain := fadeTo live x.gain (flen f.f), bad := !live, got := [],
             blk := if live then levelWords l.2 d.2 (!x.bad && x.gain = 24) (raw.any fullScale) else [] }
  else
    let d := runStage (.decimate (b2n f.r96) (inputPhase s i)) (d48Len f) x.dec ys
    { x with dec := d.1, gain := fadeTo live x.gain (d48Len f), bad := !live, got := [], blk := inputBlock s i 1 x d.2 }

/-- R139, R169: the block that input `i` delivers to D16 at a D16 block boundary. -/
def deliverD16 (s : State) (i : Nat) (x : InFilt) : InFilt :=
  let n := d16Len s.core.fab
  let live := inputLive s i
  let d := runStage (.decimate 2 (inputPhase s i)) n x.dec x.got
  { x with dec := d.1, gain := fadeTo live x.gain (3 * n), bad := !live, got := [], blk := inputBlock s i 3 x d.2 }

/-- R140, R166: the inputs take the samples of the frame that ends; those that deliver to D48 form their blocks. -/
def captureInputs (inp : BoundaryIn) (s : State) : State :=
  modConv s fun c => { c with filt := vmap c.filt fun i x =>
    let raw := delivered inp.inputs i.val
    let r := highPassed s raw i.val x
    if s.core.fab.indom[i] then { r.1 with got := x.got ++ r.2 } else deliverD48 s raw i.val r.1 r.2 }

/-! Blocks (R135-R140, R154, R155, R159). -/

/-- R155, R156, R159: the converter of a TDM receive slot: its state, and the samples of the frame that ends.  Bits [7:0] of a
slot word are ignored; a port without its partner delivers what its converter still holds. -/
def rxRun (s : State) (inp : BoundaryIn) (a : Nat) : List Int × List Int :=
  let t := s.core.fab.tdm.toList.getD ((a - 32) / 16) {}
  if (tdmLive s t || t.rxGain ≠ 0) && (a - 32) % 16 < tdmSlots t.slots then
    runStage (.tdmReceive t.rate.toNat) (d48Len s.core.fab) (mget [] s.core.fab.rx a)
      (if tdmLive s t then (delivered inp.tdm a).map fun w => (w.extractLsb' 8 24).toInt else [])
  else ([], [])

/-- R159: the block of a TDM receive slot, under the fade of its port. -/
def tdmBlock (s : State) (inp : BoundaryIn) (a : Nat) : List Sample :=
  let t := s.core.fab.tdm.toList.getD ((a - 32) / 16) {}
  fadeBlock (tdmLive s t) 1 t.rxGain ((rxRun s inp a).2.map sampleOf)

/-- R144, R154: the filter from D16 to D48 on a D16 slot: its state, and its samples of the frame that ends; a D16 block that
spans three frames enters it in the first of them. -/
def upRun (s : State) (a : Nat) : List Int × List Int :=
  let f := s.core.fab
  if d16Runs s then
    runStage .bridgeUp (d48Len f) (mget [] f.up a) (if d16Boundary f then intsOf (slotBlock s a) else [])
  else ([], [])

/-- R144, R154: the block of channel `c` of the bridge from D16: sink 112 + c applies its gains to what the filter delivers. -/
def upBlock (s : State) (c : Nat) : List Sample :=
  let es := (getSink s.core.fab (112 + c)).entries
  let ys := es.map fun e => (e, (upRun s e.slot).2)
  (List.range (d48Len s.core.fab)).map fun j =>
    sampleOf (rnd (ys.foldl (fun n y => n + rampGain y.1.g0.toInt y.1.g1.toInt (y.1.k + j + 1) y.1.n * y.2.getD j 0) 0) 21)

/-- R143, R154: the sums of the bridge to D16, channel `c`, in the frame that ends. -/
def downSums (s : State) (c : Nat) : List Int :=
  intsOf ((mixBlock s (getSink s.core.fab (80 + c)).entries (d48Len s.core.fab)).map (·.1))

/-- R154: the filter of the bridge to D16, channel `c`, at a D16 block boundary. -/
def downRun (len : Nat) (f : Fabric) (c : Nat) : List Int × List Int :=
  runStage .bridgeDown len (mget [] f.down c) (mget [] f.downIn c)

/-- R138: the block that a D48 slot takes at a boundary. -/
def d48Block (s : State) (inp : BoundaryIn) (a : Nat) : List Sample :=
  let f := s.core.fab
  if !slotProvided f a then []
  else if a < 16 then []
  else if a < 32 then (if f.indom.toList.getD (a - 16) false then [] else (s.conv.filt.toList.getD (a - 16) {}).blk)
  else if a < 96 then tdmBlock s inp a
  else if a < 128 then (if d16Runs s then upBlock s (a - 96) else [])
  else if a < 192 then (busBlock s (getBus f (a - 128))).1
  else outBlock f a

/-- R139: the block that a D16 slot takes at a D16 block boundary; `old` is the device as its block was collected. -/
def d16Block (old s : State) (a : Nat) : List Sample :=
  if a < 528 then
    (if old.core.fab.indom.toList.getD (a - 512) false then (s.conv.filt.toList.getD (a - 512) {}).blk else [])
  else if a < 560 then (downRun (d16Len old.core.fab) s.core.fab (a - 528)).2.map sampleOf
  else outBlock old.core.fab a

/-- Blocks listed by ascending slot, those of zeros left out. -/
def blockMap (b : Nat → List Sample) (as : List Nat) : Map (List Sample) := mapOver [] (fun a => normBlock (b a)) as

/-- R159, R157: a TDM port after a frame: its fade has gone on, and a configuration that waited for it is taken. -/
def tdmOn (s : State) (t : TdmPort) : TdmPort :=
  tdmNext s.pm.tdmHalt { t with rxGain := fadeTo (tdmLive s t) t.rxGain (d48Len s.core.fab) }

/-- R30, R135, R136, R150, R154, R155: the blocks of D48 that stand from a boundary on; the buses, the bridges, the converters
and the ramps of the frame that ended move on.  The phase counter counts at every F, which the spec does not say (log 13). -/
def takeD48 (inp : BoundaryIn) (s : State) : State :=
  let m := blockMap (d48Block s inp) (List.range 512)
  let s1 := busesOn s
  let runs := d16Runs s
  releaseEntries (modFab s1 fun f =>
    { f with inB := m ++ f.inB.filter (fun p => 512 ≤ p.1), outW := f.outW.filter fun p => 512 * 256 ≤ p.1,
             up := if runs then mapOver [] (fun a => (upRun s a).1) ((List.range 128).map (· + 512)) else [],
             down := if runs then f.down else [],
             downIn := if runs then mapOver [] (fun c => mget [] f.downIn c ++ downSums s c) (List.range 32) else [],
             rx := mapOver [] (fun a => (rxRun s inp a).1) ((List.range 64).map (· + 32)),
             tdm := vmap f.tdm fun _ t => tdmOn s t,
             d16Phase := (f.d16Phase + 1) % 3 })

/-- R136: at a D16 block boundary the blocks of D16 that stand from it on; `old` is the device as the blocks were collected. -/
def takeD16 (old s : State) : State :=
  if !d16Runs s then modFab s fun f => { f with inB := f.inB.filter (fun p => p.1 < 512), outW := [], downIn := [], down := [], up := [] }
  else if d16Boundary s.core.fab then
    let s1 := modConv s fun c => { c with filt := vmap c.filt fun i x =>
      if old.core.fab.indom[i] then deliverD16 old i.val x else x }
    let m := blockMap (d16Block old s1) ((List.range 128).map (· + 512))
    let n := d16Len old.core.fab
    modFab s1 fun f =>
      { f with inB := f.inB.filter (fun p => p.1 < 512) ++ m, outW := [],
               down := mapOver [] (fun c => (downRun n f c).1) (List.range 32), downIn := [] }
  else s

/-! Engines (R30, R80, R136, R299). -/

/-- Every outstanding request of the core's engines completes (log 5). -/
def drainAll (s : State) : State := (List.finRange 25).foldl (fun t i => drain (i.castLE (by omega)) t) s

/-- R30: engine `i` has overrun: it runs and has not executed WAITF. -/
def overran (s : State) (i : Fin 25) : Bool :=
  let x := s.core.eng[i]
  engRuns x && x.run != .waitF && !(i.val = 24 && s.core.prog == .resident)

/-- R30: overruns are counted and reported. -/
def countOverruns (s : State) : State :=
  (List.finRange 25).foldl (fun t i =>
    if overran s i then
      let n := i.val + 32 * (sideIx s.arb.active).val
      raiseLimited 16 n n none (modEng t (i.castLE (by omega)) fun x => { x with overruns := x.overruns + 1 })
    else t) s

/-- R26 step 4, R80: an engine that waits for the frame is released. -/
def releaseEngine (x : Engine) : Engine :=
  match x.run with
  | .waitF => { x with run := .running }
  | .starting => { x with run := .running, waitfDone := false }
  | _ => x

/-- R26 step 4: every engine that waits is released. -/
def releaseEngines (s : State) : State := modCore s fun c => { c with eng := vmap c.eng fun _ x => releaseEngine x }

/-- R310, R311: block 12, asked on the way to NIGHT, agrees at this boundary: every running engine has executed WAITF, and
neither a SYS request nor a load is open. -/
def coreRests (s : State) : Bool :=
  (s.pm.entry.any fun e => e.block = 12 && e.target = 2 && !e.waiting && !e.window) && !loadOpen s && allWaiting s

/-- R26 step 4, R310: the engines are released, unless the core die goes to rest at this boundary. -/
def releaseOrRest (s : State) : State := if coreRests s then s else releaseEngines s

/-- R310, R311: the core die that goes to rest is saved and stopped, and the next block is asked. -/
def coreSleeps (s : State) : State :=
  match s.pm.entry with
  | some e => if coreRests s then nextBlock e (coreRetains s) else s
  | none => s

/-- R136: the semaphore of D16 block boundaries. -/
def signalD16 (s : State) : State :=
  match s.core.fab.d16Sem with
  | some n => if d16Runs s && d16Boundary s.core.fab then semSignal n.toFin s else s
  | none => s

/-- R299, R458: every running engine has executed WAITF since its release. -/
def allWaited (s : State) : Bool :=
  (List.finRange 25).all fun i =>
    let x := s.core.eng[i]
    (i.val = 24 && s.core.prog == .resident) || (x.run != .starting && (!engRuns x || x.waitfDone))

/-! The resident program (R36, R37, R196). -/

/-- R385: message 0 plays on by the `n` 24 kHz samples of a frame, which interpolation brings to `len` samples of D48. -/
def playOn (n len : Nat) (p : Play) : Play :=
  let q := times playSample (min n (msgSamples p.msg - p.pos)) { p with last := [] }
  let r := runStage .message len q.up (intsOf q.last)
  { q with up := r.1, out := r.2 }

/-- R36, R84, R324, R370: what the resident program has done in the frame that ends: its watchdog, the host queues, a load
that waits, and the message. -/
def residentFrame (s : State) : State :=
  if residentRuns s then
    let s1 := residentNext (residentServeAll s.hosts.q.length s)
    let s2 := modCore s1 fun c =>
      { c with wdog := 0, play := c.play.map (playOn (flen c.fab.f / 2) (d48Len c.fab)),
               eng := vmod c.eng 24 fun x => { x with waitfDone := true } }
    modPm s2 fun p => { p with wdogSince := true }
  else s

/-- R196: the rail need of bridge b in 10 mV while message 0 plays; where it is no whole number of units, which neighbour is
written is free (log 25). -/
def messageNeed (s : State) (p : Play) (b : Fin 8) : Nat :=
  let m := (s.bridges[b]).mode
  let num := fld (p.msg.getD 6 0) 0 24 * fld (p.msg.getD 5 0) 0 24 * vfs m * 1000
  let den := 97 * 2 ^ 44
  let up := if num % den = 0 then 0 else (freeVal s).toNat % 2
  min (railMax m) (num / den + up + 200)

/-- R196: a constant rail-need block. -/
def needBlock (run : Bool) (target len : Nat) : List (BitVec 24) :=
  List.replicate len (BitVec.ofNat 24 (target + 2 ^ 22 * b2n run + 2 ^ 23))

/-- R196: the rail slots as the resident program writes them. -/
def residentNeeds (s : State) : State :=
  let len := d48Len s.core.fab
  let one (t : State) (b : Fin 8) : State :=
    if !brUp t b || rslot t b.val = 0 then t
    else match s.core.play with
      | some p => takeNeeds b (needBlock true (messageNeed s p b) len) t
      | none => takeNeeds b (needBlock false 1200 len) t
  let t := (List.finRange 8).foldl one s
  if s.core.play.isSome then freeTaken t else t

/-- R191, R192: the rail-need blocks that a control program has written, by its slots `rs`. -/
def programNeeds (rs : List Nat) (s : State) : State :=
  (List.finRange 8).foldl (fun t b =>
    let a := rs.getD b.val 0
    if brUp t b && a ≠ 0 then takeNeeds b (mget [] s.core.fab.inB a) t else t) s

/-! Control blocks of a program (R214, R234). -/

/-- R234: the gain block: samples 0-7 are gains, and those above must be 0. -/
def takeGains (ws : List Sample) (s : State) : State :=
  let s1 := (List.finRange 8).foldl (fun t m => takeGain m (ws.getD m.val 0) t) s
  (ws.drop 8).foldl (fun t w => if w = 0 then t else ignoreCore 13 0 t) s1

/-- R214, R234: the blocks of SSLOT and CSLOT of the control program. -/
def programBlocks (s : State) : State :=
  if controlRuns s then
    let blk (a : Nat) : List Sample := mget [] s.core.fab.inB a
    let s1 := if sslot s = 0 then s else takeSupBlock (blk (sslot s)) s
    if cslot s1 = 0 then s1 else takeGains (blk (cslot s1)) s1
  else s

/-! Programs at a boundary (R129, R132, R248, R391). -/

/-- R248: the memories in which microphone samples may stand are wiped. -/
def permitWipe (s : State) : State :=
  modCore s fun c => { c with sram := [], eng := vmap c.eng fun _ x => { x with x := [], y := [] } }

/-- R132, R248, R391: the control program ends at a boundary: by PEXIT or a fault of SV, by the permit's end, or by the
life-cycle state that takes effect. -/
def programEnds (s : State) : State :=
  let s1 := lcBoundary s
  let s2 := if s1.conv.permitEnd then stopControl s1 else s1
  let s3 := if s2.core.svStop then controlEnds s2 else s2
  if s3.conv.permitEnd then modConv (permitWipe s3) fun c => { c with permitEnd := false } else s3

/-! Deferred effects and the mirror copy (R124, R292-R297). -/

/-- R295: the copy in flight is found incomplete: its marks and entries are kept, STBY_STALE is set, and after two in a row that
exceeded K a fill of the marked memories begins. -/
def copyIncomplete (s : State) : State :=
  if s.mirror.fly.isNone then s
  else
    let m := s.mirror
    let n := if copyCap s.core.fab.f < m.load then m.overload + 1 else 0
    let marks := m.flyDirty.foldl (fun d b => insNat b d) m.dirty
    let s1 := modArb s fun a => { a with stale := true }
    let s2 := modMirror s1 fun m =>
      { m with fly := none, flyBad := false, flyDirty := [], flyJnl := [], overload := if 2 ≤ n then 0 else n,
               dirty := if 2 ≤ n then [] else marks, jnl := m.flyJnl ++ m.jnl,
               fill := if 2 ≤ n then some (match m.fill with | some _ => .all | none => .marked) else m.fill }
    raiseLimited 22 0 s2.mirror.staleAge.toNat none s2

/-- R292, R38: copies are made: the standby is up and a control program runs. -/
def copyMay (s : State) : Bool := s.arb.stbyUp && controlRuns s

/-- R295, R306: STALE_AGE counts the boundaries since the last complete copy. -/
def ageOn (s : State) : State := modMirror s fun m => { m with staleAge := sat8 m.staleAge }

/-- R292: what of the fabric block store was written in the frame that ends: the blocks of slots that hardware fills and of
slots that engines have written, the windows of the limiters (from 640) and the rail-need blocks (from 784). -/
def storeItems (s : State) : List Nat :=
  let f := s.core.fab
  let wrote (a : Nat) : Bool := f.outW.any fun p => a * 256 ≤ p.1 && p.1 < a * 256 + 256
  ((List.range 640).filter fun a => slotProvided f a && (if isControlSlot a || isEngineSlot a then wrote a else true)) ++
  (outputSinks s).map (640 + ·) ++ ((List.range 8).filter fun b => bridgeFitted s b && rslot s b ≠ 0).map (784 + ·)

/-- R292: the 64-byte blocks of the store that were written are marked; which block holds what the spec does not give (log 42). -/
def markStore (s : State) : State :=
  if copyMay s then
    modMirror s fun m =>
      { m with dirty := ((storeItems s).flatMap Config.storeBlocks).foldl (fun d b => insNat (12800 + b % 3072) d) m.dirty }
  else s

/-- R26 step 6, R85, R292-R294, R306: the copy of this boundary, which carries `core`, the state at its t0. -/
def copyBegins (core : CoreSt) (s : State) : State :=
  if copyMay s then
    modMirror s fun m =>
      let n := m.dirty.length + (m.jnl.length + 7) / 8
      { m with fly := some { frame := s.time.frame, core := core }, flyBad := false, flyDirty := m.dirty, dirty := [],
               flyJnl := m.jnl, jnl := [], load := n, peak := BitVec.ofNat 16 (max m.peak.toNat (min 65535 n)) }
  else s

/-- R124: the deferred effects at a boundary; `ran` says that a control program ran in the frame that ended. -/
def deferBoundary (ran : Bool) (s : State) : State :=
  let s1 := applyDefs s.hosts.defHeld (modHosts s fun h => { h with defHeld := [] })
  if ran && copyMay s1 && !stbyStale s1 then modHosts s1 fun h => { h with defHeld := h.defNow, defNow := [] }
  else applyDefs s1.hosts.defNow (modHosts s1 fun h => { h with defNow := [] })

/-- R305: an accepted takeover command: its frames pass, or with no control program it is carried out. -/
def takeBoundary (s : State) : State :=
  match s.arb.take with
  | some (n + 1) => if controlRuns s then modArb s fun a => { a with take := some n } else takeNow s
  | _ => s

/-! Other steps. -/

/-- R403: the limiters whose interval is a frame. -/
def frameLimiters (s : State) : State := endLimiters (fun l => 18 ≤ l.src && l.src ≤ 20) s

/-- R20, R178: the link to the converter die at a boundary.  When valid words resume no command tells: a lost link carries them
again or not by a free bit (log 24); its mute ends at the first boundary at least one frame later. -/
def linkBoundary (s : State) : State :=
  if s.conv.linkOk then modConv s fun c => { c with linkWait := c.linkWait - 1 }
  else freeTaken (if bit (freeVal s) 0 then modConv s fun c => { c with linkOk := true, linkWait := 1 } else s)

/-- R299: the takeover mute is released. -/
def unmuteTakeover (s : State) : State :=
  if s.arb.toMute && allWaited s then modArb s fun a => { a with toMute := false } else s

/-- R44, R255, R259: the supervision ADC at a boundary while a core runs; `byCore` tells a boundary of that core from one that
the keeper made in its place. -/
def sadcBoundary (byCore : Bool) (s : State) : State :=
  writeScanMirror (scanBoundary (modClk s fun c => { c with sadcCore := byCore && domOn s 11 }))


/-- R84: the watchdog counts while a control program runs. -/
def watchBoundary (s : State) : State := if controlRuns s then modCore s fun c => { c with wdog := c.wdog + 1 } else s

/-- R25, R48: FRAME counts. -/
def frameOn (s : State) : State := modTime s fun t => { t with frame := t.frame + 1 }

/-- R145, R148: the commands of the pending table that stand in the start list of a control program that starts. -/
def startRows (s : State) : List (Sample × Sample) := if s.core.svStart then s.core.fab.rows.filter fun c => fabOp c.1 = 9 else []

/-- R145: the other commands of the pending table, those of the control slots first. -/
def frameItems (s : State) : List FabItem :=
  pendingItems s.core.fab ++ (s.core.fab.rows.filter fun c => !(startRows s).contains c).map rowItem

/-- R129 step 4, R148: the control program that PSTART 24 has started begins, `rows` being commands of its start list. -/
def programStarts (rows : List (Sample × Sample)) (s : State) : State :=
  if s.core.svStart then fabApply true (rows.map rowItem) (controlStarts s) else s

/-- R25, R26: a boundary while a core runs, `missing` strobes in a row having failed to come: one of the core with what `inp`
delivers, or one that the keeper makes in its place. -/
def boundary (missing : Nat) (inp : BoundaryIn) (s : State) : State :=
  let old := markStore (residentFrame (drainAll s))
  let ran := controlRuns old
  let rs := (List.range 8).map (rslot old)
  let s1 := countOverruns (frameOn (modTime (unmuteTakeover old) fun t => { t with missing := missing }))
  let s2 := copyBegins old.core (copyIncomplete (ageOn s1))
  let s3 := takeD48 inp (finishOutputs (captureInputs inp s2))
  let s4 := fabApply false (frameItems old) (modFab (stageBoundary s3) fun f => { f with rows := [] })
  let s5 := programStarts (startRows old) (programEnds s4)
  let s6 := programBlocks (takeD16 old s5)
  let s7 := if ran then programNeeds rs s6 else residentNeeds s6
  let s8 := signalD16 (releaseOrRest s7)
  let n := flen old.core.fab.f
  let s9 := settleBridges (growSoft n (outputsPass n (dieBoundary inp old (sadcBoundary (missing = 0) (linkBoundary s8)))))
  let s10 := updateRails (reportAll (tonesOn n (lineBoundary n s9)))
  let s11 := holdsBoundary (requestBoundary (duskBoundary (riseBoundary (runOutputs s10))))
  takeBoundary (coreSleeps (frameLimiters (watchBoundary (beginSave (deferBoundary ran s11)))))

/-- R26: a boundary of the active core. -/
def coreBoundary (inp : BoundaryIn) (s : State) : State := boundary 0 inp s

/-- R290, R26: an expected strobe of the running core has not come: the keeper makes the boundary, with all its steps, and no
upstream words are taken (log 24); the second in a row is takeover cause 2. -/
def missedBoundary (s : State) : State :=
  let n := s.time.missing + 1
  let s1 := boundary n { inputs := [], tdm := [], dies := [] } s
  if 2 ≤ n && s1.arb.coreRun then coreCause 2 s1 else s1

/-- R25, R317: a boundary of the keeper while no core runs frames; a DAWN whose steps are done ends at it, and the core's first
boundary is this one. -/
def idleBoundary (s : State) : State :=
  let s1 := scanBoundary (modClk (ageOn (frameOn (outputsPass (flen s.core.fab.f) s))) fun c => { c with sadcCore := false })
  let s2 := reportAll (finishDawn (beginSave (deferBoundary false (lcBoundary s1))))
  if s2.arb.coreRun then releaseEngines (writeScanMirror (modClk s2 fun c => { c with sadcCore := domOn s2 11 })) else s2

end Sys2Proof.Machine
end

