-- ==== Sys2Proof/Machine/Boundary.lean ====
section
/-!
DEFINITION. The frame boundaries (R25, R26, R290).
-/

namespace Sys2Proof.Machine

/-- FRAME_BOUNDARY (R26): the strobe of the active core, which its clocks must drive (R40, R46). -/
def execFrameBoundary (inp : BoundaryIn) (s : State) : Out :=
  actWake s fun s => if s.arb.coreRun && coreClocked s then coreBoundary inp s else s

/-- KEEPER_BOUNDARY (R25, R290): the keeper makes a boundary from KF. -/
def execKeeperBoundary (s : State) : Out :=
  actWake s fun s => if !s.clk.kfLock then s else if s.arb.coreRun then missedBoundary s else idleBoundary s

end Sys2Proof.Machine
end

