-- ==== Sys2Proof/Machine/Converters.lean ====
section
/-!
DEFINITION. The commands of the converter die: gains, overload, jack, privacy mute, MICPWR, quiet charge and PDM rates
(R234-R253).  The permit's register write stands in HostPort.lean's family of register writes.
-/

namespace Sys2Proof.Machine

/-- PERMIT_MINUTE (R247). -/
def execPermitMinute (s : State) : Out := act s permitMinute

/-- GAIN_COMMAND (R234): the word of sample m of the CSLOT block. -/
def execGainCommand (m : Fin 8) (w : BitVec 24) (s : State) : Out :=
  act s fun s => if controlRuns s && cslot s ≠ 0 then takeGain m w s else s

/-- GAIN_APPLY (R235). -/
def execGainApply (m : Fin 8) (s : State) : Out := act s fun s => if domOn s 9 then applyGain m s else s

/-- INPUT_OVERLOAD (R237). -/
def execInputOverload (m : Fin 8) (s : State) : Out :=
  act s fun s =>
    if domOn s 9 && inputOn s m then
      raiseLimited 40 m.val m.val none (modConv s fun c => { c with ovl := setBit c.ovl m.val true })
    else s

/-- JACK_INSERTION (R239, R240): classification starts while VO is powered. -/
def execJackInsertion (s : State) : Out :=
  act s fun s =>
    if s.conv.jdet then s
    else
      let s1 := modConv s fun c => { c with jdet := true, hpDet := detPol s }
      if domOn s 10 then setJack 1 s1 else s1

/-- JACK_REMOVAL (R239, R241). -/
def execJackRemoval (s : State) : Out :=
  act s fun s =>
    if s.conv.jdet then setJack 0 (modConv s fun c => { c with jdet := false, hpDet := !detPol s }) else s

/-- JACK_CLASSIFIED (R240): the loads of the two channels in milliohms; the lower class is the plug's. -/
def execJackClassified (r1 r2 : Nat) (s : State) : Out :=
  act s fun s =>
    if s.conv.jclass = 1 then setJack (BitVec.ofNat 3 (min (loadClass r1) (loadClass r2))) s else s

/-- R245, R250: the microphones' outputs stand at zero, and their blocks in progress are not measured whole. -/
def micsBad (s : State) : State :=
  modConv s fun c => { c with filt := vmap c.filt fun i x => if i.val < 8 then x else { x with bad := true, gain := 0 } }

/-- PRIVACY_ASSERT (R250, R251, R278, R281). -/
def execPrivacyAssert (s : State) : Out :=
  actWake s fun s =>
    if s.conv.privMute then s
    else
      let s1 := micsBad (modConv s fun c => { c with privMute := true, muteSeen := true, clkWait := false })
      let s2 := modWake s1 fun w => { w with pre := [], privNext := true, runs := [false], feed := [] }
      raiseEv 44 1 (releaseRate (updateClocks s2))

/-- PRIVACY_RELEASE (R251, R252): MICPWR returns, a fault of it to be tested again; the clocks follow 5 ms later. -/
def execPrivacyRelease (s : State) : Out :=
  actWake s fun s =>
    if s.conv.privMute then
      raiseEv 44 0 (updateMic (modConv (micsBad s) fun c => { c with privMute := false, micOff := false, muteSeen := true, clkWait := true }))
    else s

/-- PDM_CLOCK_RESTART (R251): the first 20 ms of samples are discarded and marked GAP (R281). -/
def execPdmClockRestart (s : State) : Out :=
  act s fun s =>
    if s.conv.clkWait && !s.conv.privMute then
      let s1 := modConv s fun c => { c with clkWait := false, pdmFade := vmap c.pdmFade fun q _ => pdmWanted s q }
      updateClocks (modWake s1 fun w => { w with gapNext := true })
    else s

/-- MICPWR_OVERCURRENT (R243). -/
def execMicpwrOvercurrent (s : State) : Out :=
  act s fun s =>
    if s.conv.micpwr then
      raiseEv 43 0 (noteFeed (modConv (micsBad s) fun c => { c with micpwr := false, micOff := true, micFlt := true }))
    else s

/-- MICPWR_RETRY (R243). -/
def execMicpwrRetry (s : State) : Out :=
  act s fun s => if s.conv.micOff then updateMic (modConv (micsBad s) fun c => { c with micOff := false }) else s

/-- R180: the bias has reached its operating value and step 3 begins; or the reverse sequence is over. -/
def chargeDone (up : Bool) (c : Conv) : Conv :=
  if up && c.vo = .up2 then { c with vo := .up3, voPos := 0 }
  else if !up && c.vo = .down1 then { c with vo := .rest, voPos := 0 }
  else c

/-- QUIET_CHARGE_DONE (R180). -/
def execQuietChargeDone (up : Bool) (s : State) : Out := act s fun s => modConv s (chargeDone up)

/-- PDM_RATE_CHANGE_END (R242). -/
def execPdmRateChangeEnd (q : Fin 4) (s : State) : Out :=
  act s fun s => noteFeed (modConv s fun c => { c with pdmFade := vset c.pdmFade q false })

end Sys2Proof.Machine
end

