-- ==== Sys2Proof/Machine/Enlia.lean ====
section
/-!
DEFINITION. The 32-bit words of Enlia instructions (R87-R128): which words are illegal on which engine and why, the
instruction a legal word stands for, and the word of an instruction.
-/

namespace Sys2Proof.Machine

/-- R122: what the RA field of a SYS function may name. -/
inductive RaKind | none | acc | any
  deriving DecidableEq, Repr

/-- R122: the SYS functions: the bits of IMM they use and what RA may name. -/
def sysInfo : Nat → Option (BitVec 16 × RaKind)
  | 0 => some (0, .none)
  | 1 => some (0, .acc)
  | 2 => some (0, .acc)
  | 4 => some (0, .acc)
  | 5 => some (63, .acc)
  | 6 => some (255, .acc)
  | 8 => some (127, .any)
  | 12 => some (255, .none)
  | 13 => some (65535, .acc)
  | 14 => some (255, .none)
  | 16 => some (0, .any)
  | 17 => some (0, .acc)
  | 18 => some (0, .acc)
  | 19 => some (0, .none)
  | 24 => some (3, .none)
  | 25 => some (0, .acc)
  | 26 => some (3855, .any)
  | 27 => some (0, .acc)
  | 28 => some (15, .none)
  | 29 => some (15, .none)
  | 32 => some (255, .none)
  | 33 => some (31, .none)
  | 34 => some (0, .none)
  | 35 => some (31, .none)
  | 36 => some (31, .none)
  | 37 => some (0, .none)
  | 38 => some (0, .acc)
  | _ => Option.none

/-- R122: RA is as the function asks. -/
def raOk (k : RaKind) (ra : BitVec 3) : Bool :=
  match k with
  | .none => ra = 0
  | .acc => 4 ≤ ra.toNat
  | .any => true

/-- R95: the operation codes of parallel arithmetic. -/
def paOpOk (op : Nat) : Bool := op ≤ 0x19 && op ≠ 7 || op = 0x1C || op = 0x1D || op = 0x1E

/-- R93, R94, R97: the S field is legal for the operation, and a search has its load. -/
def paSelOk (op : Nat) (sel : BitVec 4) (mv : Moves) : Bool :=
  if op = 0 || op = 0x0E then sel = 0
  else if op < 7 then sel.toNat < 10
  else if op < 0x1C then sel.toNat < 8
  else sel.toNat < 2 && (if bit sel 0 then mv.yk else mv.xk) = 1

/-- R91: the moves of a parallel-arithmetic word. -/
def movesOf (w : Word) : Moves :=
  { xk := w.extractLsb' 17 2, xr := w.extractLsb' 15 2, xp := w.extractLsb' 13 2, xm := w.extractLsb' 10 3,
    yk := w.extractLsb' 8 2, yr := w.extractLsb' 6 2, yp := w.extractLsb' 4 2, ym := w.extractLsb' 1 3 }

/-- R110: the codes that LOOPR may name. -/
def cregOk (c : BitVec 6) : Bool := (8 ≤ c.toNat && c.toNat < 16) || c = 44

/-- R105: the codes that ADDI may name. -/
def addiOk (c : BitVec 6) : Bool :=
  let n := c.toNat
  (8 ≤ n && n < 24) || (32 ≤ n && n < 40) || n = 44

/-- R128: the lowest of the causes whose conditions hold, in the order of their codes. -/
def lowest (reserved unassigned field unavailable : Bool) : Option Nat :=
  if reserved then some 1 else if unassigned then some 2 else if field then some 3
  else if unavailable then some 4 else none

/-- R127: the engine is WE. -/
def onWe (e : Eng) : Bool := e = 25

/-- R115, R116, R119: a delay word's fields are legal. -/
def dlyFieldsOk (w : Word) : Bool :=
  locOk (w.extractLsb' 22 3) (w.extractLsb' 20 2) false && w.extractLsb' 16 2 ≠ 3

/-- R128: why a word is illegal on engine `e`, of the causes that the word alone decides; SOP = 3 (R104) counts as an illegal
field value (log 12). -/
def illegalCause (e : Eng) (w : Word) : Option Nat :=
  if bit w 31 then
    let op := fld w 25 6
    let mv := movesOf w
    lowest (bit w 0) (!paOpOk op) (!paSelOk op (w.extractLsb' 19 4) mv || !movesOk mv) false
  else
    match fld w 28 3 with
    | 0 =>
      match fld w 24 4 with
      | 0 => lowest (fld w 0 24 ≠ 0) false false false
      | 1 => lowest (fld w 5 19 ≠ 0) false false (onWe e)
      | 2 => lowest (fld w 5 19 ≠ 0) false false (onWe e)
      | 3 => lowest (fld w 0 24 ≠ 0) false false false
      | _ => some 2
    | 1 => lowest (fld w 0 16 ≠ 0) false (!regOk (w.extractLsb' 22 6) || !regOk (w.extractLsb' 16 6)) false
    | 2 => lowest (bit w 24) false false false
    | 3 => lowest false false (!regOk (w.extractLsb' 22 6) || fld w 22 6 < 4) false
    | 4 => lowest (fld w 12 11 ≠ 0) false false false
    | 5 =>
      if bit w 27 then lowest false false (!addiOk (w.extractLsb' 21 6)) false
      else
        let sop := fld w 25 2
        lowest (fld w 6 14 ≠ 0) false
          (sop = 3 || (sop ≠ 0 && bit w 24) || (sop = 2 && (fld w 22 2 ≠ 0 || fld w 0 6 ≠ 0))) false
    | 6 =>
      match fld w 24 4 with
      | 0 => lowest (fld w 13 7 ≠ 0) false (14 ≤ fld w 20 4) false
      | 1 => lowest (fld w 13 7 ≠ 0) false (14 ≤ fld w 20 4) false
      | 2 => lowest (fld w 0 20 ≠ 0) false (14 ≤ fld w 20 4) false
      | 3 => none
      | 4 => lowest (fld w 13 5 ≠ 0) false (!cregOk (w.extractLsb' 18 6)) false
      | 5 => lowest (fld w 0 20 ≠ 0) false (14 ≤ fld w 20 4) false
      | 6 => lowest (fld w 13 7 ≠ 0) false (14 ≤ fld w 20 4) false
      | _ => some 2
    | _ =>
      match fld w 25 3 with
      | 0 => lowest (bit w 0) false (!locOk (w.extractLsb' 22 3) (w.extractLsb' 20 2) (bit w 19) || 640 ≤ fld w 9 10) (onWe e)
      | 1 => lowest (bit w 0) false (!locOk (w.extractLsb' 22 3) (w.extractLsb' 20 2) (bit w 19) || 640 ≤ fld w 9 10) (onWe e)
      | 2 => lowest false false (!dlyFieldsOk w) false
      | 3 => lowest false false (!dlyFieldsOk w) false
      | 4 =>
        match sysInfo (fld w 19 6) with
        | some (m, k) => lowest (w.extractLsb' 0 16 &&& ~~~m ≠ 0) false (!raOk k (w.extractLsb' 16 3)) (e ≠ 24)
        | Option.none => some 2
      | _ => some 2

/-- R95: the instruction of a parallel-arithmetic operation code. -/
def paInstr (op : Nat) (e : Eng) (d : BitVec 2) (sel : BitVec 4) (mv : Moves) : Option Instr :=
  match op with
  | 0 => some (.pmov e d sel mv)
  | 1 => some (.mpy e d sel mv)
  | 2 => some (.mpyn e d sel mv)
  | 3 => some (.mac e d sel mv)
  | 4 => some (.macn e d sel mv)
  | 5 => some (.macr e d sel mv)
  | 6 => some (.macnr e d sel mv)
  | 8 => some (.add e d sel mv)
  | 9 => some (.sub e d sel mv)
  | 10 => some (.mova e d sel mv)
  | 11 => some (.neg e d sel mv)
  | 12 => some (.abs e d sel mv)
  | 13 => some (.cmp e d sel mv)
  | 14 => some (.clr e d sel mv)
  | 15 => some (.rnd e d sel mv)
  | 16 => some (.lim e d sel mv)
  | 17 => some (.and e d sel mv)
  | 18 => some (.or e d sel mv)
  | 19 => some (.xor e d sel mv)
  | 20 => some (.not e d sel mv)
  | 21 => some (.asl e d sel mv)
  | 22 => some (.asr e d sel mv)
  | 23 => some (.lsr e d sel mv)
  | 24 => some (.max e d sel mv)
  | 25 => some (.min e d sel mv)
  | 28 => some (.maxi e d sel mv)
  | 29 => some (.mini e d sel mv)
  | 30 => some (.maxai e d sel mv)
  | _ => none

/-- R122: the instruction of a SYS function code. -/
def sysInstr (fn : Nat) (e : Eng) (ra : BitVec 3) (imm : BitVec 16) : Option Instr :=
  match fn with
  | 0 => some (.wdog e ra imm)
  | 1 => some (.rdframe e ra imm)
  | 2 => some (.rdtime e ra imm)
  | 4 => some (.cmdhead e ra imm)
  | 5 => some (.cmdword e ra imm)
  | 6 => some (.cmddone e ra imm)
  | 8 => some (.evraise e ra imm)
  | 12 => some (.resopen e ra imm)
  | 13 => some (.reswr e ra imm)
  | 14 => some (.respub e ra imm)
  | 16 => some (.rsaddr e ra imm)
  | 17 => some (.rsrd e ra imm)
  | 18 => some (.rswr e ra imm)
  | 19 => some (.cfgsave e ra imm)
  | 24 => some (.pwrreq e ra imm)
  | 25 => some (.pmstat e ra imm)
  | 26 => some (.stage e ra imm)
  | 27 => some (.stgstat e ra imm)
  | 28 => some (.pdmrate e ra imm)
  | 29 => some (.wakeclr e ra imm)
  | 32 => some (.plbegin e ra imm)
  | 33 => some (.pload e ra imm)
  | 34 => some (.plend e ra imm)
  | 35 => some (.pstart e ra imm)
  | 36 => some (.pstop e ra imm)
  | 37 => some (.pexit e ra imm)
  | 38 => some (.plstat e ra imm)
  | _ => none

/-- R104: the shift operation of a SOP code. -/
def shiftInstr (sop : Nat) (e : Eng) (r : Bool) (d src : BitVec 2) (k : BitVec 6) : Option Instr :=
  match sop with
  | 0 => some (.ash e r d src k)
  | 1 => some (.lsh e r d src k)
  | 2 => some (.cls e r d src k)
  | _ => none

/-- The instruction that a word has by its fields alone. -/
def wordInstr (e : Eng) (w : Word) : Option Instr :=
  if bit w 31 then paInstr (fld w 25 6) e (w.extractLsb' 23 2) (w.extractLsb' 19 4) (movesOf w)
  else
    match fld w 28 3 with
    | 0 =>
      match fld w 24 4 with
      | 0 => some (.nop e)
      | 1 => some (.sig e (w.extractLsb' 0 5))
      | 2 => some (.waits e (w.extractLsb' 0 5))
      | 3 => some (.waitf e)
      | _ => none
    | 1 => some (.mov e (w.extractLsb' 22 6) (w.extractLsb' 16 6))
    | 2 => if bit w 27 then some (.lda e (w.extractLsb' 25 2) (w.extractLsb' 0 24))
           else some (.ldx e (w.extractLsb' 25 2) (w.extractLsb' 0 24))
    | 3 => some (.ldi e (w.extractLsb' 22 6) (w.extractLsb' 0 22))
    | 4 => if bit w 27 then some (.mvy e (bit w 26) (w.extractLsb' 23 3) (w.extractLsb' 0 12))
           else some (.mvx e (bit w 26) (w.extractLsb' 23 3) (w.extractLsb' 0 12))
    | 5 => if bit w 27 then some (.addi e (w.extractLsb' 21 6) (w.extractLsb' 0 21))
           else shiftInstr (fld w 25 2) e (bit w 24) (w.extractLsb' 22 2) (w.extractLsb' 20 2) (w.extractLsb' 0 6)
    | 6 =>
      match fld w 24 4 with
      | 0 => some (.bra e (w.extractLsb' 20 4) (w.extractLsb' 0 13))
      | 1 => some (.call e (w.extractLsb' 20 4) (w.extractLsb' 0 13))
      | 2 => some (.ret e (w.extractLsb' 20 4))
      | 3 => some (.loop e (w.extractLsb' 13 11) (w.extractLsb' 0 13))
      | 4 => some (.loopr e (w.extractLsb' 18 6) (w.extractLsb' 0 13))
      | 5 => some (.exit e (w.extractLsb' 20 4))
      | 6 => some (.brx e (w.extractLsb' 20 4) (w.extractLsb' 0 13))
      | _ => none
    | _ =>
      let loc := w.extractLsb' 22 3
      let pq := w.extractLsb' 20 2
      match fld w 25 3 with
      | 0 => some (.frd e loc pq (bit w 19) (w.extractLsb' 9 10) (w.extractLsb' 1 8))
      | 1 => some (.fwr e loc pq (bit w 19) (w.extractLsb' 9 10) (w.extractLsb' 1 8))
      | 2 => some (.dlr e loc pq (w.extractLsb' 18 2) (w.extractLsb' 16 2) (w.extractLsb' 0 16))
      | 3 => some (.dlw e loc pq (w.extractLsb' 18 2) (w.extractLsb' 16 2) (w.extractLsb' 0 16))
      | 4 => sysInstr (fld w 19 6) e (w.extractLsb' 16 3) (w.extractLsb' 0 16)
      | _ => none

/-- R87: the instruction that a legal word stands for on engine `e`. -/
def decodeEnlia (e : Eng) (w : Word) : Option Instr :=
  if (illegalCause e w).isSome then none else wordInstr e w

/-- A flag as one bit. -/
def b1 (b : Bool) : BitVec 1 := BitVec.ofBool b

/-- R91: a parallel-arithmetic word. -/
def paWord (op : BitVec 6) (d : BitVec 2) (sel : BitVec 4) (mv : Moves) : Word :=
  1#1 ++ op ++ d ++ sel ++ mv.xk ++ mv.xr ++ mv.xp ++ mv.xm ++ mv.yk ++ mv.yr ++ mv.yp ++ mv.ym ++ 0#1

/-- R121: a SYS word. -/
def sysWord (fn : BitVec 6) (ra : BitVec 3) (imm : BitVec 16) : Word := 7#4 ++ 4#3 ++ fn ++ ra ++ imm

/-- R110: a conditional flow word with an address. -/
def flowWord (fop cond : BitVec 4) (addr : BitVec 13) : Word := 6#4 ++ fop ++ cond ++ 0#7 ++ addr

/-- The word of an instruction, for the rows that are instructions. -/
def encodeEnlia : Instr → Option Word
  | .nop _ => some 0
  | .pmov _ d sel mv => some (paWord 0#6 d sel mv)
  | .mpy _ d sel mv => some (paWord 1#6 d sel mv)
  | .mpyn _ d sel mv => some (paWord 2#6 d sel mv)
  | .mac _ d sel mv => some (paWord 3#6 d sel mv)
  | .macn _ d sel mv => some (paWord 4#6 d sel mv)
  | .macr _ d sel mv => some (paWord 5#6 d sel mv)
  | .macnr _ d sel mv => some (paWord 6#6 d sel mv)
  | .add _ d sel mv => some (paWord 8#6 d sel mv)
  | .sub _ d sel mv => some (paWord 9#6 d sel mv)
  | .mova _ d sel mv => some (paWord 10#6 d sel mv)
  | .neg _ d sel mv => some (paWord 11#6 d sel mv)
  | .abs _ d sel mv => some (paWord 12#6 d sel mv)
  | .cmp _ d sel mv => some (paWord 13#6 d sel mv)
  | .clr _ d sel mv => some (paWord 14#6 d sel mv)
  | .rnd _ d sel mv => some (paWord 15#6 d sel mv)
  | .lim _ d sel mv => some (paWord 16#6 d sel mv)
  | .and _ d sel mv => some (paWord 17#6 d sel mv)
  | .or _ d sel mv => some (paWord 18#6 d sel mv)
  | .xor _ d sel mv => some (paWord 19#6 d sel mv)
  | .not _ d sel mv => some (paWord 20#6 d sel mv)
  | .asl _ d sel mv => some (paWord 21#6 d sel mv)
  | .asr _ d sel mv => some (paWord 22#6 d sel mv)
  | .lsr _ d sel mv => some (paWord 23#6 d sel mv)
  | .max _ d sel mv => some (paWord 24#6 d sel mv)
  | .min _ d sel mv => some (paWord 25#6 d sel mv)
  | .maxi _ d sel mv => some (paWord 28#6 d sel mv)
  | .mini _ d sel mv => some (paWord 29#6 d sel mv)
  | .maxai _ d sel mv => some (paWord 30#6 d sel mv)
  | .sig _ n => some (0#4 ++ 1#4 ++ 0#19 ++ n)
  | .waits _ n => some (0#4 ++ 2#4 ++ 0#19 ++ n)
  | .waitf _ => some (0#4 ++ 3#4 ++ 0#24)
  | .mov _ dst src => some (1#4 ++ dst ++ src ++ 0#16)
  | .ldx _ r imm => some (2#4 ++ 0#1 ++ r ++ 0#1 ++ imm)
  | .lda _ r imm => some (2#4 ++ 1#1 ++ r ++ 0#1 ++ imm)
  | .ldi _ dst imm => some (3#4 ++ dst ++ imm)
  | .mvx _ st r a => some (4#4 ++ 0#1 ++ b1 st ++ r ++ 0#11 ++ a)
  | .mvy _ st r a => some (4#4 ++ 1#1 ++ b1 st ++ r ++ 0#11 ++ a)
  | .ash _ r d src k => some (5#4 ++ 0#1 ++ 0#2 ++ b1 r ++ d ++ src ++ 0#14 ++ k)
  | .lsh _ r d src k => some (5#4 ++ 0#1 ++ 1#2 ++ b1 r ++ d ++ src ++ 0#14 ++ k)
  | .cls _ r d src k => some (5#4 ++ 0#1 ++ 2#2 ++ b1 r ++ d ++ src ++ 0#14 ++ k)
  | .addi _ dst imm => some (5#4 ++ 1#1 ++ dst ++ imm)
  | .bra _ c a => some (flowWord 0 c a)
  | .call _ c a => some (flowWord 1 c a)
  | .ret _ c => some (flowWord 2 c 0)
  | .loop _ n a => some (6#4 ++ 3#4 ++ n ++ a)
  | .loopr _ c a => some (6#4 ++ 4#4 ++ c ++ 0#5 ++ a)
  | .exit _ c => some (flowWord 5 c 0)
  | .brx _ c a => some (flowWord 6 c a)
  | .frd _ loc pq ixa slot idx => some (7#4 ++ 0#3 ++ loc ++ pq ++ b1 ixa ++ slot ++ idx ++ 0#1)
  | .fwr _ loc pq ixa slot idx => some (7#4 ++ 1#3 ++ loc ++ pq ++ b1 ixa ++ slot ++ idx ++ 0#1)
  | .dlr _ loc pq k dm ofs => some (7#4 ++ 2#3 ++ loc ++ pq ++ k ++ dm ++ ofs)
  | .dlw _ loc pq k dm ofs => some (7#4 ++ 3#3 ++ loc ++ pq ++ k ++ dm ++ ofs)
  | .wdog _ ra imm => some (sysWord 0#6 ra imm)
  | .rdframe _ ra imm => some (sysWord 1#6 ra imm)
  | .rdtime _ ra imm => some (sysWord 2#6 ra imm)
  | .cmdhead _ ra imm => some (sysWord 4#6 ra imm)
  | .cmdword _ ra imm => some (sysWord 5#6 ra imm)
  | .cmddone _ ra imm => some (sysWord 6#6 ra imm)
  | .evraise _ ra imm => some (sysWord 8#6 ra imm)
  | .resopen _ ra imm => some (sysWord 12#6 ra imm)
  | .reswr _ ra imm => some (sysWord 13#6 ra imm)
  | .respub _ ra imm => some (sysWord 14#6 ra imm)
  | .rsaddr _ ra imm => some (sysWord 16#6 ra imm)
  | .rsrd _ ra imm => some (sysWord 17#6 ra imm)
  | .rswr _ ra imm => some (sysWord 18#6 ra imm)
  | .cfgsave _ ra imm => some (sysWord 19#6 ra imm)
  | .pwrreq _ ra imm => some (sysWord 24#6 ra imm)
  | .pmstat _ ra imm => some (sysWord 25#6 ra imm)
  | .stage _ ra imm => some (sysWord 26#6 ra imm)
  | .stgstat _ ra imm => some (sysWord 27#6 ra imm)
  | .pdmrate _ ra imm => some (sysWord 28#6 ra imm)
  | .wakeclr _ ra imm => some (sysWord 29#6 ra imm)
  | .plbegin _ ra imm => some (sysWord 32#6 ra imm)
  | .pload _ ra imm => some (sysWord 33#6 ra imm)
  | .plend _ ra imm => some (sysWord 34#6 ra imm)
  | .pstart _ ra imm => some (sysWord 35#6 ra imm)
  | .pstop _ ra imm => some (sysWord 36#6 ra imm)
  | .pexit _ ra imm => some (sysWord 37#6 ra imm)
  | .plstat _ ra imm => some (sysWord 38#6 ra imm)
  | _ => none

end Sys2Proof.Machine
end

