-- ==== Sys2Proof/Machine/Data.lean ====
section
/-!
DEFINITION. The data instructions (R87-R106): parallel arithmetic, register moves, immediates, absolute access, shifts and
immediate add, with NOP and the illegal instruction.
-/

namespace Sys2Proof.Machine

/-- MPY (R95): D := p. -/
def execMpy (e : Eng) (d : BitVec 2) (sel : BitVec 4) (mv : Moves) (s : State) : Out :=
  engRun s e (paMul aluMpy d sel mv)

/-- MPYN (R95): D := -p. -/
def execMpyn (e : Eng) (d : BitVec 2) (sel : BitVec 4) (mv : Moves) (s : State) : Out :=
  engRun s e (paMul aluMpyn d sel mv)

/-- MAC (R95): D := sat56(D + p). -/
def execMac (e : Eng) (d : BitVec 2) (sel : BitVec 4) (mv : Moves) (s : State) : Out :=
  engRun s e (paMul aluMac d sel mv)

/-- MACN (R95): D := sat56(D - p). -/
def execMacn (e : Eng) (d : BitVec 2) (sel : BitVec 4) (mv : Moves) (s : State) : Out :=
  engRun s e (paMul aluMacn d sel mv)

/-- MACR (R95): the exact sum is rounded, then saturated. -/
def execMacr (e : Eng) (d : BitVec 2) (sel : BitVec 4) (mv : Moves) (s : State) : Out :=
  engRun s e (paMul aluMacr d sel mv)

/-- MACNR (R95): the exact difference is rounded, then saturated. -/
def execMacnr (e : Eng) (d : BitVec 2) (sel : BitVec 4) (mv : Moves) (s : State) : Out :=
  engRun s e (paMul aluMacnr d sel mv)

/-- ADD (R95). -/
def execAdd (e : Eng) (d : BitVec 2) (sel : BitVec 4) (mv : Moves) (s : State) : Out :=
  engRun s e (paAlu aluAdd d sel mv)

/-- SUB (R95). -/
def execSub (e : Eng) (d : BitVec 2) (sel : BitVec 4) (mv : Moves) (s : State) : Out :=
  engRun s e (paAlu aluSub d sel mv)

/-- MOVA (R95). -/
def execMova (e : Eng) (d : BitVec 2) (sel : BitVec 4) (mv : Moves) (s : State) : Out :=
  engRun s e (paAlu aluMova d sel mv)

/-- NEG (R95). -/
def execNeg (e : Eng) (d : BitVec 2) (sel : BitVec 4) (mv : Moves) (s : State) : Out :=
  engRun s e (paAlu aluNeg d sel mv)

/-- ABS (R95). -/
def execAbs (e : Eng) (d : BitVec 2) (sel : BitVec 4) (mv : Moves) (s : State) : Out :=
  engRun s e (paAlu aluAbs d sel mv)

/-- CMP (R95). -/
def execCmp (e : Eng) (d : BitVec 2) (sel : BitVec 4) (mv : Moves) (s : State) : Out :=
  engRun s e (paAlu aluCmp d sel mv)

/-- RND (R95). -/
def execRnd (e : Eng) (d : BitVec 2) (sel : BitVec 4) (mv : Moves) (s : State) : Out :=
  engRun s e (paAlu aluRnd d sel mv)

/-- LIM (R95). -/
def execLim (e : Eng) (d : BitVec 2) (sel : BitVec 4) (mv : Moves) (s : State) : Out :=
  engRun s e (paAlu aluLim d sel mv)

/-- AND (R95). -/
def execAnd (e : Eng) (d : BitVec 2) (sel : BitVec 4) (mv : Moves) (s : State) : Out :=
  engRun s e (paAlu aluAnd d sel mv)

/-- OR (R95). -/
def execOr (e : Eng) (d : BitVec 2) (sel : BitVec 4) (mv : Moves) (s : State) : Out :=
  engRun s e (paAlu aluOr d sel mv)

/-- XOR (R95). -/
def execXor (e : Eng) (d : BitVec 2) (sel : BitVec 4) (mv : Moves) (s : State) : Out :=
  engRun s e (paAlu aluXor d sel mv)

/-- NOT (R95). -/
def execNot (e : Eng) (d : BitVec 2) (sel : BitVec 4) (mv : Moves) (s : State) : Out :=
  engRun s e (paAlu aluNot d sel mv)

/-- ASL (R95). -/
def execAsl (e : Eng) (d : BitVec 2) (sel : BitVec 4) (mv : Moves) (s : State) : Out :=
  engRun s e (paAlu aluAsl d sel mv)

/-- ASR (R95). -/
def execAsr (e : Eng) (d : BitVec 2) (sel : BitVec 4) (mv : Moves) (s : State) : Out :=
  engRun s e (paAlu aluAsr d sel mv)

/-- LSR (R95). -/
def execLsr (e : Eng) (d : BitVec 2) (sel : BitVec 4) (mv : Moves) (s : State) : Out :=
  engRun s e (paAlu aluLsr d sel mv)

/-- MAX (R95). -/
def execMax (e : Eng) (d : BitVec 2) (sel : BitVec 4) (mv : Moves) (s : State) : Out :=
  engRun s e (paAlu aluMax d sel mv)

/-- MIN (R95). -/
def execMin (e : Eng) (d : BitVec 2) (sel : BitVec 4) (mv : Moves) (s : State) : Out :=
  engRun s e (paAlu aluMin d sel mv)

/-- PMOV (R95, R94). -/
def execPmov (e : Eng) (d : BitVec 2) (sel : BitVec 4) (mv : Moves) (s : State) : Out :=
  engRun s e (paNone aluPmov d sel mv)

/-- CLR (R95, R94). -/
def execClr (e : Eng) (d : BitVec 2) (sel : BitVec 4) (mv : Moves) (s : State) : Out :=
  engRun s e (paNone aluClr d sel mv)

/-- MAXI (R97). -/
def execMaxi (e : Eng) (d : BitVec 2) (sel : BitVec 4) (mv : Moves) (s : State) : Out :=
  engRun s e (paSearch false (fun v a => a < v) d sel mv)

/-- MINI (R97). -/
def execMini (e : Eng) (d : BitVec 2) (sel : BitVec 4) (mv : Moves) (s : State) : Out :=
  engRun s e (paSearch false (fun v a => v < a) d sel mv)

/-- MAXAI (R97). -/
def execMaxai (e : Eng) (d : BitVec 2) (sel : BitVec 4) (mv : Moves) (s : State) : Out :=
  engRun s e (paSearch true (fun v a => a < v) d sel mv)

/-- NOP (R88): one cycle. -/
def execNop (e : Eng) (s : State) : Out := engRun s e fun x => .ok x []

/-- ILLEGAL_INSTRUCTION (R128): a fetched word that is illegal on engine `e` faults with the lowest cause that applies; a
word that is legal on it is no such event. -/
def execIllegalInstruction (e : Eng) (w : Word) (s : State) : Out :=
  match illegalCause e w with
  | some c => engRun s e fun _ => .flt c
  | none => .next s

/-- MOV (R99-R101). -/
def execMov (e : Eng) (dst src : BitVec 6) (s : State) : Out :=
  engRun s e fun x => if regOk dst && regOk src then .ok (regMove x dst src) [] else .flt 3

/-- LDX (R102). -/
def execLdx (e : Eng) (reg : BitVec 2) (imm : BitVec 24) (s : State) : Out :=
  engRun s e fun x => .ok { x with opr := vset x.opr (ix2 reg) imm } []

/-- LDA (R102). -/
def execLda (e : Eng) (reg : BitVec 2) (imm : BitVec 24) (s : State) : Out :=
  engRun s e fun x => .ok { x with acc := vset x.acc (ix2 reg) (widen imm) } []

/-- LDI (R102): codes 0-3 are illegal. -/
def execLdi (e : Eng) (dst : BitVec 6) (imm : BitVec 22) (s : State) : Out :=
  engRun s e fun x => if regOk dst && 4 ≤ dst.toNat then .ok (regWrite x dst imm.toInt) [] else .flt 3

/-- R103: an access of X or Y memory at an absolute address. -/
def absAccess (y st : Bool) (reg : BitVec 3) (addr : BitVec 12) (x : Engine) : Eff :=
  let i : Fin 4 := ⟨reg.toNat % 4, Nat.mod_lt _ (by decide)⟩
  if st then
    let v := if reg.toNat < 4 then (x.opr[i], false) else narrow x.acc[i]
    .ok { (memSet x y addr v.1) with fs := x.fs || v.2 } [(y, addr)]
  else if reg.toNat < 4 then .ok { x with opr := vset x.opr i (memGet x y addr) } []
  else .ok { x with acc := vset x.acc i (widen (memGet x y addr)) } []

/-- MVX (R103). -/
def execMvx (e : Eng) (st : Bool) (reg : BitVec 3) (addr : BitVec 12) (s : State) : Out :=
  engRun s e (absAccess false st reg addr)

/-- MVY (R103). -/
def execMvy (e : Eng) (st : Bool) (reg : BitVec 3) (addr : BitVec 12) (s : State) : Out :=
  engRun s e (absAccess true st reg addr)

/-- ASH (R104). -/
def execAsh (e : Eng) (rnd : Bool) (d src : BitVec 2) (k : BitVec 6) (s : State) : Out :=
  engRun s e fun x => .ok (applyAlu x (ix2 d) (aluAsh rnd x.acc[ix2 src] k.toInt)) []

/-- LSH (R104): RND must be 0. -/
def execLsh (e : Eng) (rnd : Bool) (d src : BitVec 2) (k : BitVec 6) (s : State) : Out :=
  engRun s e fun x => if rnd then .flt 3 else .ok (applyAlu x (ix2 d) (aluLsh x.acc[ix2 src] k.toInt)) []

/-- CLS (R104): RND, D and K must be 0. -/
def execCls (e : Eng) (rnd : Bool) (d src : BitVec 2) (k : BitVec 6) (s : State) : Out :=
  engRun s e fun x =>
    if rnd || d ≠ 0 || k ≠ 0 then .flt 3
    else .ok { x with ix := BitVec.ofNat 16 (signRun x.acc[ix2 src] 55) } []

/-- R105: ADDI's register and sum. -/
def addImm (dst : BitVec 6) (imm : BitVec 21) (x : Engine) : Eff :=
  let n := dst.toNat
  let i4 : Fin 4 := ⟨n % 4, Nat.mod_lt _ (by decide)⟩
  let i8 : Fin 8 := ⟨n % 8, Nat.mod_lt _ (by decide)⟩
  let k := imm.toInt
  if n < 8 then .flt 3
  else if n < 16 then .ok { x with p := vset x.p i8 (advance x.l[i8] x.p[i8] k) } []
  else if n < 24 then .ok { x with m := vset x.m i8 (BitVec.ofInt 12 (x.m[i8].toInt + k)) } []
  else if n < 32 then .flt 3
  else if n < 36 then .ok { x with dp := vset x.dp i4 (dadvance x i4 k) } []
  else if n < 40 then .ok { x with dbas := vset x.dbas i4 (BitVec.ofInt 21 (x.dbas[i4].toNat + k)) } []
  else if n = 44 then .ok { x with ix := BitVec.ofInt 16 (x.ix.toNat + k) } []
  else .flt 3

/-- ADDI (R105). -/
def execAddi (e : Eng) (dst : BitVec 6) (imm : BitVec 21) (s : State) : Out := engRun s e (addImm dst imm)

end Sys2Proof.Machine
end

