-- ==== Sys2Proof/Machine/EventRows.lean ====
section
/-!
DEFINITION. The commands of the event limiters and of the fault outputs' minimum pulse (R403, R407).
-/

namespace Sys2Proof.Machine

/-- LIMITER_EXPIRY (R403): the interval of the limiter of a source and qualifier ends. -/
def execLimiterExpiry (src qual : Nat) (s : State) : Out :=
  act s (endLimiters fun l => l.src = src && l.qual = qual)

/-- FAULT_MIN_PULSE_END (R407): FAULTn has been asserted for 100 ms. -/
def execFaultMinPulseEnd (n : Fin 4) (s : State) : Out :=
  act s fun s => { s with flt := { s.flt with minRun := setBit s.flt.minRun n.val false } }

end Sys2Proof.Machine
end

