-- ==== Sys2Proof/Machine/FabCmd.lean ====
section
/-!
DEFINITION. The fabric commands (R147), each as SV gives it: it enters the pending table, which takes effect at step 3 of the
next boundary (R27, R145, R153; log 13).
-/

namespace Sys2Proof.Machine

/-- R145: a command enters the pending table. -/
def pendCmd (w v : Sample) (s : State) : State := modFab s fun f => { f with rows := f.rows ++ [(w, v)] }

/-- R145, R147: a command with its row's operation code, under a control program. -/
def fabRow (op : Nat) (w v : BitVec 24) (s : State) : Out :=
  if fabOp w = op then act s fun s => if controlRuns s then pendCmd w v s else s else .fault .malformed

/-- END (R146): it leaves nothing behind; one with a non-zero reserved field will be an ignored item. -/
def execFabEnd (w : BitVec 24) (s : State) : Out :=
  if fabOp w = 0 then act s fun s => if controlRuns s && w ≠ 0 then pendCmd w 0 s else s else .fault .malformed
/-- BUSSRC (R149). -/
def execBussrc (w1 w2 : BitVec 24) (s : State) : Out := fabRow 1 w1 w2 s
/-- SINK (R152). -/
def execSink (w1 w2 : BitVec 24) (s : State) : Out := fabRow 2 w1 w2 s
/-- RAMP (R147). -/
def execRamp (w : BitVec 24) (s : State) : Out := fabRow 3 w 0 s
/-- BUSCLR (R147). -/
def execBusclr (w : BitVec 24) (s : State) : Out := fabRow 4 w 0 s
/-- INDOM (R140). -/
def execIndom (w : BitVec 24) (s : State) : Out := fabRow 5 w 0 s
/-- TDMCFG (R157). -/
def execTdmcfg (w : BitVec 24) (s : State) : Out := fabRow 6 w 0 s
/-- DIRECT (R162). -/
def execDirect (w1 w2 : BitVec 24) (s : State) : Out := fabRow 7 w1 w2 s
/-- D16SEM (R136). -/
def execD16sem (w : BitVec 24) (s : State) : Out := fabRow 8 w 0 s
/-- LOOKA (R148): it stands in the start list of a control program whose start is due; in a frame list of one that runs it will
be an ignored item. -/
def execLooka (w : BitVec 24) (s : State) : Out :=
  if fabOp w = 9 then act s fun s => if controlRuns s || (s.arb.coreRun && s.core.svStart) then pendCmd w 0 s else s
  else .fault .malformed

end Sys2Proof.Machine
end

