-- ==== Sys2Proof/Machine/FastPort.lean ====
section
/-!
DEFINITION. The fast port (R352-R354); `m3` is the level of F_SCK at the fall of F_CS_N, mode 3.
-/

namespace Sys2Proof.Machine

/-- WRQ (R352). -/
def execWrq (m3 : Bool) (page ptr : Byte) (bs : List Byte) (s : State) : Out := actWake s (fpWrite m3 page ptr bs)

/-- RDQ (R353). -/
def execRdq (m3 : Bool) (page ptr : Byte) (n : Nat) (s : State) : Out := actWake s (fpRead m3 page ptr n)

/-- RDSR (R354). -/
def execRdsr (m3 : Bool) (s : State) : Out := act s (fpReadStatus m3)

/-- FAST_BAD_OPCODE (R352). -/
def execFastBadOpcode (m3 : Bool) (op : Byte) (s : State) : Out := act s (fpBadOp m3 op)

/-- FAST_CS_RISE (R352). -/
def execFastCsRise (s : State) : Out := actWake s fpEnds

end Sys2Proof.Machine
end

