-- ==== Sys2Proof/Machine/HostCmd.lean ====
section
/-!
DEFINITION. Host commands by their operation codes (R364): the words of one command arrive, are admitted or ignored (R366), and
the running program serves the command when it has become the head (R369, R370).
-/

namespace Sys2Proof.Machine

/-- R363, R364: the words are those of one command with an operation code among `ops`. -/
def cmdWords (op : Nat → Bool) (ws : List Word) : Bool :=
  op (hdrOp (ws.getD 0 0)) && nwOk (ws.getD 0 0) && ws.length = hdrNw (ws.getD 0 0)

/-- R365, R366, R369, R370: a command is written through a port-view.  Behind an open assembly or a waiting check, or at a full
queue, its bytes take the way of the command FIFO. -/
def hostCommand (pv : PortView) (ws : List Word) (rc : Byte) (reply : Word) (s : State) : State :=
  let v := getPv s pv
  if !v.asm.isEmpty || !v.chk.isEmpty || cqFull s pv.host then
    (bytesOfWords ws).foldl (fun t b => fifoPush pv 1 0xF0 b t) s
  else
    let id := s.hosts.nextId
    let s1 := admitCmd pv ws s
    if s1.hosts.nextId = id then s1 else serveNew (hdrOp (ws.getD 0 0)) rc reply id s1

/-- A row of the operation-code table. -/
def cmdRow (op : Nat → Bool) (pv : PortView) (ws : List Word) (rc : Byte) (reply : Word) (s : State) : Out :=
  if cmdWords op ws then hostAct pv s (hostCommand pv ws rc reply) else .fault .malformed

/-- LOADSET (R364, R129). -/
def execLoadset (pv : PortView) (ws : List Word) (rc : Byte) (reply : Word) (s : State) : Out :=
  cmdRow (· = 0xE0) pv ws rc reply s

/-- STARTSET (R364, R129). -/
def execStartset (pv : PortView) (ws : List Word) (rc : Byte) (reply : Word) (s : State) : Out :=
  cmdRow (· = 0xE1) pv ws rc reply s

/-- LDSTAT (R364, R133). -/
def execLdstat (pv : PortView) (ws : List Word) (rc : Byte) (reply : Word) (s : State) : Out :=
  cmdRow (· = 0xE2) pv ws rc reply s

/-- CLAIM (R364, R371). -/
def execClaim (pv : PortView) (ws : List Word) (rc : Byte) (reply : Word) (s : State) : Out :=
  cmdRow (· = 0xF0) pv ws rc reply s

/-- RELEASE (R364, R371). -/
def execRelease (pv : PortView) (ws : List Word) (rc : Byte) (reply : Word) (s : State) : Out :=
  cmdRow (· = 0xF1) pv ws rc reply s

/-- WAKEACK (R364, R280). -/
def execWakeack (pv : PortView) (ws : List Word) (rc : Byte) (reply : Word) (s : State) : Out :=
  cmdRow (· = 0xF2) pv ws rc reply s

/-- SEENCLR (R364, R262). -/
def execSeenclr (pv : PortView) (ws : List Word) (rc : Byte) (reply : Word) (s : State) : Out :=
  cmdRow (· = 0xF3) pv ws rc reply s

/-- PROGRAM_COMMAND (R364): every other operation code, those that are not admitted among them. -/
def execProgramCommand (pv : PortView) (ws : List Word) (rc : Byte) (reply : Word) (s : State) : Out :=
  cmdRow (fun op => op < 0xE0 || (0xE3 ≤ op && op < 0xF0) || 0xF4 ≤ op) pv ws rc reply s

end Sys2Proof.Machine
end

