-- ==== Sys2Proof/Machine/Images.lean ====
section
/-!
DEFINITION. Image sets, messages, packages and saves (R382, R389, R395, R396, R399): each row of IMG_CTRL is a commit of that
register with its operation code.
-/

namespace Sys2Proof.Machine

/-- R399: IMG_CTRL committed with operation `op` and the other fields of `v`. -/
def imgRow (op : Nat) (pv : PortView) (v : Word) (s : State) : Out :=
  hostAct pv s (commitRow pv 8 0x50 ((v &&& ~~~ 7#32) ||| BitVec.ofNat 32 op))

/-- WRITE_SET (R389). -/
def execWriteSet (pv : PortView) (v : Word) (s : State) : Out := imgRow 1 pv v s

/-- WRITE_MESSAGE (R389). -/
def execWriteMessage (pv : PortView) (v : Word) (s : State) : Out := imgRow 2 pv v s

/-- DELETE_MESSAGE (R389). -/
def execDeleteMessage (pv : PortView) (v : Word) (s : State) : Out := imgRow 3 pv v s

/-- EXPORT (R395). -/
def execExportPkg (pv : PortView) (v : Word) (s : State) : Out := imgRow 4 pv v s

/-- IMPORT (R396). -/
def execImportPkg (pv : PortView) (v : Word) (s : State) : Out := imgRow 5 pv v s

/-- SAVE (R382). -/
def execSave (pv : PortView) (v : Word) (s : State) : Out := imgRow 6 pv v s

/-- ABORT (R399). -/
def execAbort (pv : PortView) (v : Word) (s : State) : Out := imgRow 7 pv v s

/-- IMAGE_FIFO_PUSH (R389). -/
def execImageFifoPush (pv : PortView) (b : Byte) (s : State) : Out := hostAct pv s (fifoPush pv 8 0xF0 b)

/-- IMAGE_FIFO_POP (R395). -/
def execImageFifoPop (pv : PortView) (s : State) : Out := hostAct pv s (popRow pv 8 0xF0)

/-- IMAGE_WRITE_CHECK_DONE (R389). -/
def execImageWriteCheckDone (s : State) : Out := act s imgChecked

/-- SAVE_DONE (R382). -/
def execSaveDone (s : State) : Out := act s endSave

end Sys2Proof.Machine
end

