-- ==== Sys2Proof/Machine/Lines.lean ====
section
/-!
DEFINITION. The commands of line supervision: the supervision and earth command words, and the ends of windows, sweeps and
tests (R214-R230).
-/

namespace Sys2Proof.Machine

/-- R214: a command word of bridge b with its row's OP is taken on, while a control program names an SSLOT. -/
def supRow (op : Nat) (b : Fin 8) (w : BitVec 24) (s : State) : Out :=
  if supOp w = op then act s fun s => if controlRuns s && sslot s ≠ 0 then takeSup b w s else s
  else .fault .malformed

/-- R214: the same of sample 8. -/
def earthRow (op : Nat) (w : BitVec 24) (s : State) : Out :=
  if supOp w = op then act s fun s => if controlRuns s && sslot s ≠ 0 then takeEarth w s else s
  else .fault .malformed

/-- SUPERVISION_STOP (R214). -/
def execSupervisionStop (b : Fin 8) (w : BitVec 24) (s : State) : Out := supRow 0 b w s
/-- PILOT_CONTINUOUS (R218). -/
def execPilotContinuous (b : Fin 8) (w : BitVec 24) (s : State) : Out := supRow 1 b w s
/-- PILOT_COUNTED (R218). -/
def execPilotCounted (b : Fin 8) (w : BitVec 24) (s : State) : Out := supRow 2 b w s
/-- SWEEP (R223). -/
def execSweep (b : Fin 8) (w : BitVec 24) (s : State) : Out := supRow 3 b w s
/-- FINGERPRINT_CAPTURE (R225). -/
def execFingerprintCapture (b : Fin 8) (w : BitVec 24) (s : State) : Out := supRow 4 b w s
/-- FILTER_CALIBRATION (R225). -/
def execFilterCalibration (b : Fin 8) (w : BitVec 24) (s : State) : Out := supRow 5 b w s
/-- EARTH_STOP (R214). -/
def execEarthStop (w : BitVec 24) (s : State) : Out := earthRow 0 w s
/-- EARTH_CONTINUOUS (R227). -/
def execEarthContinuous (w : BitVec 24) (s : State) : Out := earthRow 1 w s
/-- EARTH_COUNTED (R227). -/
def execEarthCounted (w : BitVec 24) (s : State) : Out := earthRow 2 w s

/-- SWEEP_START (R215). -/
def execSweepStart (b : Fin 8) (s : State) : Out := act s fun s => if controlRuns s then sweepStart b s else s
/-- PILOT_WINDOW_END (R216-R218). -/
def execPilotWindowEnd (b : Fin 8) (m : PilotMeas) (s : State) : Out := act s (windowEnd b m)
/-- SWEEP_INTEGRATION_END (R223). -/
def execSweepIntegrationEnd (b : Fin 8) (m : SweepMeas) (s : State) : Out :=
  act s fun s => if s.arb.coreRun then sweepEnd b m s else s
/-- EARTH_TEST_END (R227). -/
def execEarthTestEnd (m : EarthMeas) (s : State) : Out := act s (earthEnd m)
/-- SUPERVISION_GAP (R219): 90 s of DAY or DUSK without a verdict-bearing valid window. -/
def execSupervisionGap (b : Fin 8) (s : State) : Out :=
  act s fun s => if controlRuns s && s.pm.st.toNat < 2 then declareGap b s else s

end Sys2Proof.Machine
end

