-- ==== Sys2Proof/Machine/Sys.lean ====
section
/-!
DEFINITION. The SYS instructions of SV (R121-R126): one shared operation, and one request for each function but those that load,
start and stop programs.
-/

namespace Sys2Proof.Machine

/-- R123: what a SYS request answers: it is accepted, with the value that RA takes and the new state, or refused for a
reason (R375), with the value that RA takes all the same. -/
inductive SysAns
  | ok (val : Option Acc) (t : State)
  | refused (reason : Nat) (val : Option Acc)

/-- R121, R122, R128: the fault of a SYS whose fields are illegal, or on an engine that has none. -/
def sysFault (e : Eng) (mask : BitVec 16) (k : RaKind) (ra : BitVec 3) (imm : BitVec 16) : Option Nat :=
  if imm &&& ~~~mask ≠ 0 then some 1 else if !raOk k ra then some 3 else if e ≠ sv then some 4 else none

/-- R121, R123: RA as an argument in accumulator form. -/
def raAcc (x : Engine) (ra : BitVec 3) : Acc := x.acc[ix2 (ra.setWidth 2)]
/-- R122, R92: RA as a 24-bit value. -/
def raVal (x : Engine) (ra : BitVec 3) : BitVec 24 :=
  if ra.toNat < 4 then x.opr[ix2 (ra.setWidth 2)] else (narrow x.acc[ix2 (ra.setWidth 2)]).1

/-- R123: SV after a SYS: its PC moves on, and the result waits, or is there at once for a local function. -/
def sysCommit (localFn : Bool) (x0 : Engine) (ra : BitVec 3) (val : Option Acc) (c : Bool) (s : State) : State :=
  let y := getEng s sv
  let y1 :=
    if localFn then { (match val with | some v => raPut y ra v | none => y) with fc := c }
    else { y with sysq := y.sysq ++ [{ ra := ra, val := val, c := c }] }
  engCommit sv x0 (pcNext (freeVal s) y1) [] (if fetchFree x0 then freeTaken s else s)

/-- R121-R124: a SYS instruction of function `fn`: earlier requests complete first (log 5), then `f` answers for SV as it
stands. -/
def sysRun (fn : Nat) (localFn : Bool) (e : Eng) (ra : BitVec 3) (imm : BitVec 16) (s : State)
    (f : Engine → State → SysAns) : Out :=
  if engMay s e then
    let s1 := drain e s
    let x := getEng s1 e
    let m := (sysInfo fn).getD (0, .none)
    match sysFault e m.1 m.2 ra imm with
    | some c => .next (settle (engFault e c s1))
    | none =>
      match f x s1 with
      | .ok v t => .next (settle (sysCommit localFn x ra v false t))
      | .refused r v => .next (settle (sysCommit localFn x ra v true (ignoreCore r fn s1)))
  else .next s

/-- R122: a 32-bit word as an accumulator takes it. -/
def accWord (w : Word) : Acc := w.setWidth 56

/-- WDOG (R122, R84, R324). -/
def execWdog (e : Eng) (ra : BitVec 3) (imm : BitVec 16) (s : State) : Out :=
  sysRun 0x00 true e ra imm s fun _ t =>
    .ok none (modPm (modCore t fun c => { c with wdog := 0 }) fun p => { p with wdogSince := true })

/-- RDFRAME (R122). -/
def execRdframe (e : Eng) (ra : BitVec 3) (imm : BitVec 16) (s : State) : Out :=
  sysRun 0x01 true e ra imm s fun _ t => .ok (some (accWord t.time.frame)) t

/-- RDTIME (R122). -/
def execRdtime (e : Eng) (ra : BitVec 3) (imm : BitVec 16) (s : State) : Out :=
  sysRun 0x02 false e ra imm s fun _ t => .ok (some (t.time.sec.setWidth 41 ++ t.time.sub)) t

/-- R122: what CMDHEAD returns of an entry. -/
def headValue (e : CmdEnt) : Acc :=
  let w := e.words.getD 0 0
  BitVec.ofNat 56 (w.toNat + 2 ^ 32 * (hostIx e.host).val + 2 ^ 34 * hdrNw w)

/-- CMDHEAD (R122, R369): the head is presented and stays the head until CMDDONE retires it. -/
def execCmdhead (e : Eng) (ra : BitVec 3) (imm : BitVec 16) (s : State) : Out :=
  sysRun 0x04 false e ra imm s fun _ t =>
    match headEnt t with
    | some h => .ok (some (headValue h)) (modHosts (modCore t fun c => { c with cmdSeen := true }) fun x => { x with head := some h.id })
    | none => .refused 12 (some 0)

/-- CMDWORD (R122). -/
def execCmdword (e : Eng) (ra : BitVec 3) (imm : BitVec 16) (s : State) : Out :=
  sysRun 0x05 false e ra imm s fun _ t =>
    match headEnt t with
    | some h =>
      match h.words[fld imm 0 6]? with
      | some w => .ok (some (accWord w)) t
      | none => .refused 12 none
    | none => .refused 12 none

/-- CMDDONE (R122, R124, R370). -/
def execCmddone (e : Eng) (ra : BitVec 3) (imm : BitVec 16) (s : State) : Out :=
  sysRun 0x06 false e ra imm s fun x t =>
    match (if t.core.cmdSeen then headEnt t else none) with
    | some h => .ok none (deferDone h (imm.setWidth 8) ((raAcc x ra).setWidth 32) t)
    | none => .refused 12 none

/-- EVRAISE (R122, R401). -/
def execEvraise (e : Eng) (ra : BitVec 3) (imm : BitVec 16) (s : State) : Out :=
  sysRun 0x08 false e ra imm s fun x t =>
    let src := fld imm 0 7
    if 24 ≤ src && src < 32 then .ok none (defer (.evRaise src (raVal x ra)) t) else .refused 12 none

/-- RESOPEN (R122). -/
def execResopen (e : Eng) (ra : BitVec 3) (imm : BitVec 16) (s : State) : Out :=
  sysRun 0x0C false e ra imm s fun _ t => .ok none (defer (.resOpen (imm.setWidth 8)) t)

/-- RESWR (R122, R419). -/
def execReswr (e : Eng) (ra : BitVec 3) (imm : BitVec 16) (s : State) : Out :=
  sysRun 0x0D false e ra imm s fun x t =>
    if fld imm 0 8 < 32 then
      .ok none (defer (.resWr (imm.extractLsb' 8 8) (fld imm 0 8) ((raAcc x ra).setWidth 32)) t)
    else .refused 12 none

/-- RESPUB (R122, R419). -/
def execRespub (e : Eng) (ra : BitVec 3) (imm : BitVec 16) (s : State) : Out :=
  sysRun 0x0E false e ra imm s fun _ t => .ok none (defer (.resPub (imm.setWidth 8)) t)

/-- RSADDR (R122). -/
def execRsaddr (e : Eng) (ra : BitVec 3) (imm : BitVec 16) (s : State) : Out :=
  sysRun 0x10 true e ra imm s fun x t => .ok none (modCore t fun c => { c with rsa := raVal x ra })

/-- R124, R378: the word at an address as SV sees it, its own pending writes included; one that reads with an uncorrectable error
is free (log 46). -/
def rsSeen (s : State) (a : Nat) : Word :=
  let ws := (s.hosts.defHeld ++ s.hosts.defNow).filterMap fun d =>
    match d.eff with | .rsWr b w => if b = a then some w else none | _ => none
  ws.getLast?.getD (if rsErr s a 1 then (freeVal s).setWidth 32 else rsGet s a)

/-- R122: RSA after an access. -/
def rsaNext (s : State) : State := modCore s fun c => { c with rsa := c.rsa + 1 }

/-- RSRD (R122, R125, R319). -/
def execRsrd (e : Eng) (ra : BitVec 3) (imm : BitVec 16) (s : State) : Out :=
  sysRun 0x11 false e ra imm s fun _ t =>
    let a := t.core.rsa.toNat
    if storeUp t && rsrdOk a then .ok (some (accWord (rsSeen t a))) (rsaNext (iff (rsErr t a 1) freeTaken t)) else .refused 12 (some 0)

/-- RSWR (R122, R125, R319). -/
def execRswr (e : Eng) (ra : BitVec 3) (imm : BitVec 16) (s : State) : Out :=
  sysRun 0x12 false e ra imm s fun x t =>
    let a := t.core.rsa.toNat
    if storeUp t && rswrOk a then .ok none (rsaNext (defer (.rsWr a ((raAcc x ra).setWidth 32)) t)) else .refused 12 none

/-- CFGSAVE (R122, R319, R382). -/
def execCfgsave (e : Eng) (ra : BitVec 3) (imm : BitVec 16) (s : State) : Out :=
  sysRun 0x13 false e ra imm s fun _ t =>
    if storeUp t && !saveBusy t then
      .ok none (defer .cfgSave (modRet t fun r => { r with save := { r.save with held := true } }))
    else .refused 12 none

/-- PWRREQ (R122, R309, R328). -/
def execPwrreq (e : Eng) (ra : BitVec 3) (imm : BitVec 16) (s : State) : Out :=
  sysRun 0x18 false e ra imm s fun _ t =>
    if t.pm.set.isSome then .refused 6 none
    else if t.pm.req.isSome || fld imm 0 2 = 3 then .refused 12 none
    else .ok none (modPm t fun p => { p with req := some (imm.setWidth 2) })

/-- PMSTAT (R122). -/
def execPmstat (e : Eng) (ra : BitVec 3) (imm : BitVec 16) (s : State) : Out :=
  sysRun 0x19 false e ra imm s fun _ t => .ok (some (accWord (pmAbort t))) t

/-- R328, R126: a STAGE comes out of order. -/
def stageLate (s : State) : Bool :=
  s.pm.req.isSome || s.pm.entry.isSome || s.pm.dawn.isSome || s.pm.rise || s.pm.set.any (·.opened)

/-- STAGE (R122, R126, R328). -/
def execStage (e : Eng) (ra : BitVec 3) (imm : BitVec 16) (s : State) : Out :=
  sysRun 0x1A false e ra imm s fun x t =>
    match stageAccept (fld imm 8 4) (raVal x ra) (fld imm 0 4 + 1) t with
    | some u => .ok none u
    | none => .refused (if stageLate t then 6 else if stageAbsent t (fld imm 8 4) (raVal x ra) then 11 else 12) none

/-- STGSTAT (R122). -/
def execStgstat (e : Eng) (ra : BitVec 3) (imm : BitVec 16) (s : State) : Out :=
  sysRun 0x1B false e ra imm s fun _ t => .ok (some (accWord (pmStage t))) t

/-- PDMRATE (R122, R44, R277). -/
def execPdmrate (e : Eng) (ra : BitVec 3) (imm : BitVec 16) (s : State) : Out :=
  sysRun 0x1C false e ra imm s fun _ t => .ok none (setRate (imm.extractLsb' 0 2).toFin (imm.extractLsb' 2 2) t)

/-- WAKECLR (R122, R54). -/
def execWakeclr (e : Eng) (ra : BitVec 3) (imm : BitVec 16) (s : State) : Out :=
  sysRun 0x1D false e ra imm s fun _ t => .ok none (defer (.wakeClr (imm.setWidth 4)) t)

end Sys2Proof.Machine
end

