-- ==== Sys2Proof/Machine/Load.lean ====
section
/-!
DEFINITION. The commands that load, start and stop programs (R129-R133), and the ends of the checks and loads they begin.
-/

namespace Sys2Proof.Machine

/-- R129, R131, R375: the reason for which a step of a load is refused: an engine number that does not exist, or a step out of
order. -/
def loadReason (n : Nat) : Nat := if 26 ≤ n then 12 else 6

/-- R129: a step of a load that is taken, or refused for its reason. -/
def loadAns (reason : Nat) (r : Option State) : SysAns :=
  match r with | some t => .ok none t | none => .refused reason none

/-- PLBEGIN (R129 step 1). -/
def execPlbegin (e : Eng) (ra : BitVec 3) (imm : BitVec 16) (s : State) : Out :=
  sysRun 0x20 false e ra imm s fun _ t => loadAns 6 (plBegin (fld imm 0 8) t)

/-- HEADER_CHECK_DONE (R129, R383): the check of step 1 ends; the resident program that serves a load goes on. -/
def execHeaderCheckDone (s : State) : Out := act s fun s => if s.core.load.step = 1 then residentNext (headerDone s) else s

/-- PLOAD (R129 step 2, R131). -/
def execPload (e : Eng) (ra : BitVec 3) (imm : BitVec 16) (s : State) : Out :=
  sysRun 0x21 false e ra imm s fun _ t => loadAns (loadReason (fld imm 0 5)) (pLoad (fld imm 0 5) t)

/-- ENGINE_LOAD_DONE (R129 step 2, R131, R133). -/
def execEngineLoadDone (s : State) : Out :=
  act s fun s => if s.core.load.step = 7 then residentNext (engineLoadDone s) else s

/-- PLEND (R129 step 3). -/
def execPlend (e : Eng) (ra : BitVec 3) (imm : BitVec 16) (s : State) : Out :=
  sysRun 0x22 false e ra imm s fun _ t => loadAns 6 (plEnd t)

/-- PSTART (R129 step 4, R80, R131). -/
def execPstart (e : Eng) (ra : BitVec 3) (imm : BitVec 16) (s : State) : Out :=
  sysRun 0x23 false e ra imm s fun _ t => loadAns (loadReason (fld imm 0 5)) (pStart (fld imm 0 5) t)

/-- PSTOP (R131). -/
def execPstop (e : Eng) (ra : BitVec 3) (imm : BitVec 16) (s : State) : Out :=
  sysRun 0x24 false e ra imm s fun _ t => loadAns (loadReason (fld imm 0 5)) (pStop (fld imm 0 5) t)

/-- R132: PEXIT: the control program ends; SV issues nothing more of it. -/
def pExit (s : State) : State :=
  if s.core.prog == .control then modEng (stopControl s) sv fun x => { x with run := .stopped } else s

/-- PEXIT (R132). -/
def execPexit (e : Eng) (ra : BitVec 3) (imm : BitVec 16) (s : State) : Out :=
  sysRun 0x25 false e ra imm s fun _ t => .ok none (pExit t)

/-- PLSTAT (R133). -/
def execPlstat (e : Eng) (ra : BitVec 3) (imm : BitVec 16) (s : State) : Out :=
  sysRun 0x26 false e ra imm s fun _ t => .ok (some (accWord (loadStatus t))) t

end Sys2Proof.Machine
end

