-- ==== Sys2Proof/Machine/PortP.lean ====
section
/-!
DEFINITION. Port P as controller (R349-R351).
-/

namespace Sys2Proof.Machine

/-- PC_TRANSFER (R349): PC_XFER is committed with CLEAR = 0. -/
def execPcTransfer (pv : PortView) (v : Word) (s : State) : Out := hostAct pv s (commitRow pv 4 0x5C (setBit v 24 false))

/-- PC_BUS_CLEAR (R351): PC_XFER is committed with CLEAR = 1. -/
def execPcBusClear (pv : PortView) (v : Word) (s : State) : Out := hostAct pv s (commitRow pv 4 0x5C (setBit v 24 true))

/-- PC_TRANSFER_END (R349-R351). -/
def execPcTransferEnd (cleared : Bool) (r : PcEnd) (s : State) : Out := act s (pcTransferEnds cleared r)

/-- ARBITRATION_LOST (R350). -/
def execArbitrationLost (s : State) : Out := act s pcLost

/-- ARBITRATION_RETRY (R350). -/
def execArbitrationRetry (s : State) : Out := act s pcRetry

/-- PORTP_TX_PUSH (R416). -/
def execPortpTxPush (pv : PortView) (b : Byte) (s : State) : Out := hostAct pv s (fifoPush pv 4 0xF0 b)

/-- PORTP_RX_POP (R416). -/
def execPortpRxPop (pv : PortView) (s : State) : Out := hostAct pv s (popRow pv 4 0xF1)

end Sys2Proof.Machine
end

