-- ==== Sys2Proof/Machine/Power.lean ====
section
/-!
DEFINITION. The commands of the power stage: what the power dies take on, declare and complete (R191-R206).
-/

namespace Sys2Proof.Machine

/-- CLOCK_ERROR_MUTE (R202). -/
def execClockErrorMute (d : Fin 4) (s : State) : Out := act s (clockMute d)

/-- CLOCK_VALID (R198). -/
def execClockValid (d : Fin 4) (s : State) : Out := act s (clockValid d)

/-- RAIL_NEED_BLOCK (R191). -/
def execRailNeedBlock (b : Fin 8) (ws : List (BitVec 24)) (s : State) : Out :=
  act s fun s =>
    if brUp s b && s.arb.coreRun && rslot s b.val ≠ 0 then settleBridges (takeNeeds b ws s)
    else s

/-- SOFTSTART_DONE (R182, R198): step 3 is complete. -/
def execSoftstartDone (b : Fin 8) (s : State) : Out :=
  act s fun s =>
    if brUp s b && (s.bridges[b]).st = 1 && (s.bridges[b]).fade then modBridge s b fun x => { x with st := 2, fade := false } else s

/-- STOP_COMPLETE (R182, R198): u has reached 0, and the matched fall is complete. -/
def execStopComplete (b : Fin 8) (s : State) : Out :=
  act s fun s =>
    if brUp s b && (s.bridges[b]).st = 3 && (getSink s.core.fab (8 + b.val)).u = 0 then settleBridges (modBridge s b (enterState 0)) else s

/-- OVERCURRENT_TRIP (R199): `t` is the instant in ns. -/
def execOvercurrentTrip (b : Fin 8) (t : Nat) (s : State) : Out := act s (trip b t)

/-- TRIP_BLANKING_END (R199). -/
def execTripBlankingEnd (b : Fin 8) (s : State) : Out :=
  act s fun s => modBridge s b fun x => { x with blank := false }

/-- COOLDOWN_END (R201). -/
def execCooldownEnd (b : Fin 8) (s : State) : Out := act s (cooldownEnd b)

/-- PROBE_TONE_END (R201). -/
def execProbeToneEnd (b : Fin 8) (v cur : List (BitVec 16)) (s : State) : Out := act s (probeEnd b { v := v, i := cur })

/-- THERMAL_THRESHOLD (R204, R176). -/
def execThermalThreshold (d : Fin 4) (tj : BitVec 8) (s : State) : Out := act s (thermalRise d tj)

/-- THERMAL_STEP_FALL (R176). -/
def execThermalStepFall (d : Fin 4) (tj : BitVec 8) (s : State) : Out := act s (thermalFall d tj)

/-- THERMAL_SHUTDOWN_CLEAR (R204). -/
def execThermalShutdownClear (d : Fin 4) (tj : BitVec 8) (s : State) : Out := act s (thermalClear d tj)

/-- TWARN_CLEAR (R204). -/
def execTwarnClear (d : Fin 4) (tj : BitVec 8) (s : State) : Out := act s (twarnClear d tj)

/-- BOOST_FAULT (R205): `t` is the instant in ms. -/
def execBoostFault (d : Fin 4) (t : Nat) (s : State) : Out := act s (boostFault d t)

/-- BOOST_RESTART (R205). -/
def execBoostRestart (d : Fin 4) (s : State) : Out := act s (boostRestart d)

/-- RAIL_GUARD_END (R195). -/
def execRailGuardEnd (d : Fin 4) (s : State) : Out := act s (guardEnd d)

end Sys2Proof.Machine
end

