-- ==== Sys2Proof/Machine/PowerStates.lean ====
section
/-!
DEFINITION. The commands of the power manager (R311-R325): the entry handshake, the DAWN sequence, and the units of a staged set.
-/

namespace Sys2Proof.Machine

/-- HANDSHAKE_REPLY (R311): the block being asked answers as its condition stands; `t`, the DELAY time that it names, is not held (log 1). -/
def execHandshakeReply (_t : Nat) (s : State) : Out := act s handshakeReply

/-- HANDSHAKE_DELAY_END (R312). -/
def execHandshakeDelayEnd (s : State) : Out := act s delayEnd

/-- HANDSHAKE_NO_REPLY (R312): 10 us have passed. -/
def execHandshakeNoReply (s : State) : Out := act s noReply

/-- ENTRY_WINDOW_END (R315): 3 CK32 cycles have passed; a level source that rose meanwhile starts a DAWN (R316). -/
def execEntryWindowEnd (s : State) : Out :=
  act s fun s => let t := windowEnds s; if s.pm.st ≠ 2 && t.pm.st = 2 && (wakeCode t).isSome then dawnStart t else t

/-- DAWN_START (R316, R317). -/
def execDawnStart (s : State) : Out := act s dawnStart

/-- DAWN_STEP_READY (R317). -/
def execDawnStepReady (s : State) : Out := act s stepReady

/-- DAWN_STEP_TIMEOUT (R319). -/
def execDawnStepTimeout (why : BitVec 3) (dom : BitVec 4) (s : State) : Out := act s (stepTimeout why.toNat dom.toNat)

/-- DAWN_RETRY_OFF_END (R319). -/
def execDawnRetryOffEnd (s : State) : Out := act s retryOffEnd

/-- DAWN_REPEAT (R320). -/
def execDawnRepeat (s : State) : Out := act s dawnRepeat

/-- DELAY_SRAM_WIPE_DONE (R317). -/
def execDelaySramWipeDone (s : State) : Out := act s sramWiped

/-- UNIT_READY (R325, R326). -/
def execUnitReady (u : Fin 12) (s : State) : Out := act s (unitReady u)

end Sys2Proof.Machine
end

