-- ==== Sys2Proof/Machine/Reset.lean ====
section
/-!
DEFINITION. The commands of reset and of the start after it (R388, R394, R453).
-/

namespace Sys2Proof.Machine

/-- POWER_ON_RESET (R453): reset is held, and everything but what R378 keeps is lost. -/
def execPowerOnReset (s : State) : Out := .next (resetState s)

/-- RESET_N (R453): a low pulse of at least 1 us; reset is held until RESET_RELEASE. -/
def execResetN (s : State) : Out := .next (resetState s)

/-- RESET_RELEASE (R394, R453): the straps stand at FB_SEL and HADDR2-HADDR0, and the device leaves reset. -/
def execResetRelease (fbSel : Bool) (haddr : BitVec 3) (s : State) : Out :=
  if s.resetHeld then .next (settle (leaveReset (modPorts s fun p => { p with fbSel := fbSel, haddr := haddr }))) else .next s

/-- BOOT_LOAD (R388): the resident program begins the load of the image set that it is to start by itself. -/
def execBootLoad (s : State) : Out :=
  act s fun s =>
    match s.core.auto with
    | some n => if residentRuns s && !s.core.autoOn then startAuto n s else s
    | none => s

end Sys2Proof.Machine
end

