-- ==== Sys2Proof/Machine/Retained.lean ====
section
/-!
DEFINITION. Messages, the life cycle and the site key (R37, R386, R391-R393).
-/

namespace Sys2Proof.Machine

/-- R37, R387, R398: message 0 in play reaches its end: it repeats while EVAC_IN is asserted, unless EVAC_IN has been released;
another message 0 written meanwhile begins then.  A message that became undefined meanwhile stops, and EV12 is raised. -/
def messageEnds (s : State) : State :=
  match s.core.play with
  | none => s
  | some p =>
    let s1 := modCore s fun c => { c with play := none }
    if p.pos < msgSamples p.msg then s
    else if msgDefined s 0 then (if s.sadc.evac && residentRuns s then evacStart s1 else s1)
    else iff p.stopAfter (raiseEv 12 256) s1

/-- MESSAGE_0_END (R37). -/
def execMessage0End (s : State) : Out := act s messageEnds

/-- MESSAGE_RECHECK (R386): the daily check of every message begins. -/
def execMessageRecheck (s : State) : Out :=
  act s fun s => if storeUp s then modRet s fun r => { r with checking := true } else s

/-- MESSAGE_CHECK_DONE (R386): the check under way ends. -/
def execMessageCheckDone (s : State) : Out :=
  act s fun s =>
    if s.ret.checking then
      let s1 := modRet s fun r => { r with checking := false }
      checkMessages s1
    else s

/-- LC_TRANSITION (R391): LC_REQ is committed with GO = 1 and KEYW = 0. -/
def execLcTransition (pv : PortView) (v : Word) (s : State) : Out :=
  hostAct pv s (commitRow pv 8 0x08 (setBit (setBit v 31 true) 3 false))

/-- KEY_WRITE (R392): LC_REQ is committed with GO = 1 and KEYW = 1. -/
def execKeyWrite (pv : PortView) (v : Word) (s : State) : Out :=
  hostAct pv s (commitRow pv 8 0x08 (setBit (setBit v 31 true) 3 true))

/-- WIPE_DONE (R393). -/
def execWipeDone (s : State) : Out := act s wipeDone

end Sys2Proof.Machine
end

