-- ==== Sys2Proof/Machine/Sadc.lean ====
section
/-!
DEFINITION. The commands of the supervision ADC (R257, R266, R268).
-/

namespace Sys2Proof.Machine

/-- SCAN_PUBLISH (R257): bank S0 or S1 publishes the scan that it has completed. -/
def execScanPublish (bank1 : Bool) (m : ScanMeas) (s : State) : Out := actWake s (scanPublish bank1 m)

/-- NIGHT_SCAN (R268). -/
def execNightScan (m : ScanMeas) (s : State) : Out := actWake s (nightScan m)

/-- SENTINEL_TRIP (R266): the land of CI0 or CI1 has left its range. -/
def execSentinelTrip (n : Fin 2) (s : State) : Out := actWake s (sentinel n true)

/-- SENTINEL_RETURN (R266). -/
def execSentinelReturn (n : Fin 2) (s : State) : Out := actWake s (sentinel n false)

end Sys2Proof.Machine
end

