-- ==== Sys2Proof/Machine/Tap.lean ====
section
/-!
DEFINITION. The boundary-scan instructions (R438).
-/

namespace Sys2Proof.Machine

/-- R438, R390: the TAP works: in BLANK and in MAINTENANCE. -/
def tapWorks (s : State) : Bool := s.ret.lc = 0 || s.ret.lc = 3

/-- EXTEST (R438). -/
def execExtest (s : State) : Out :=
  act s fun s => if tapWorks s then setTap { ir := 0, extest := true, sample := false } s else s

/-- SAMPLE/PRELOAD (R438). -/
def execSamplePreload (s : State) : Out :=
  act s fun s => if tapWorks s then setTap { ir := 1, extest := false, sample := true } s else s

/-- BYPASS (R438). -/
def execBypass (s : State) : Out := act s fun s => if tapWorks s then setTap {} s else s

end Sys2Proof.Machine
end

