-- ==== Sys2Proof/Machine/Tdm.lean ====
section
/-!
DEFINITION. The commands of the TDM ports: the partner's faults and its return (R158, R159).
-/

namespace Sys2Proof.Machine

/-- R158: the TDM port of the running core changed. -/
def modTdm (p : Fin 4) (f : TdmPort → TdmPort) (s : State) : State :=
  modFab s fun x => { x with tdm := vmod x.tdm p f }

/-- R158, R159: the port becomes absent: its receive slots fade to zero from the next block on, and no rate is shown. -/
def tdmAbsent (t : TdmPort) : TdmPort := { t with st := 3, rateMeas := 0 }

/-- R158: the port watches its partner: it is enabled, acquiring or running, on a core that runs. -/
def tdmWatches (s : State) (p : Fin 4) : Bool :=
  let t := s.core.fab.tdm[p]
  s.arb.coreRun && t.en && (t.st = 1 || t.st = 2)

/-- TDM_CLOCK_MISSING (R158): a clock target sees no bit-clock edge. -/
def execTdmClockMissing (p : Fin 4) (s : State) : Out :=
  act s fun s =>
    if tdmWatches s p && !(s.core.fab.tdm[p]).role then
      raiseEv 32 p.val (modTdm p (fun t => { tdmAbsent t with miss := true }) s)
    else s

/-- TDM_WRONG_RATE (R158). -/
def execTdmWrongRate (p : Fin 4) (s : State) : Out :=
  act s fun s =>
    if tdmWatches s p && !(s.core.fab.tdm[p]).role then
      raiseEv 32 (p.val + 4) (modTdm p (fun t => { tdmAbsent t with wrate := true }) s)
    else s

/-- R158: a slot-sync error at `t` us; more than 8 within 10 ms make the port absent. -/
def tdmSyncError (now : Nat) (t : TdmPort) : TdmPort :=
  let ts := now :: t.sync10.filter fun u => now - u < 10000
  let t1 := { t with sync := true, syncCount := sat8 t.syncCount, sync10 := ts }
  if 8 < ts.length then { tdmAbsent t1 with sync10 := [] } else t1

/-- TDM_SLOT_SYNC_ERROR (R158): a misplaced frame pulse at `t` us. -/
def execTdmSlotSyncError (p : Fin 4) (t : Nat) (s : State) : Out :=
  act s fun s =>
    if tdmWatches s p && (s.core.fab.tdm[p]).st = 2 then
      raiseLimited 32 p.val (p.val + 8) none (modTdm p (tdmSyncError t) s)
    else s

/-- TDM_RETURN (R159): the partner has been good for 50 ms and the converter has locked; `meas` is the frame rate in units of
4 Hz. -/
def execTdmReturn (p : Fin 4) (meas : BitVec 16) (s : State) : Out :=
  act s fun s =>
    let t := s.core.fab.tdm[p]
    if s.arb.coreRun && t.en && !s.pm.tdmHalt && (t.st = 1 || t.st = 3) then
      raiseEv 32 (p.val + 12)
        (modTdm p (fun t => { t with st := 2, sync10 := [], rateMeas := meas }) s)
    else s

end Sys2Proof.Machine
end

