-- ==== Sys2Proof/Machine/TwoWire.lean ====
section
/-!
DEFINITION. The two-wire targets H0, H1 and port P (R333, R335, R339-R346): the framing of their transfers.
-/

namespace Sys2Proof.Machine

/-- TW_START (R339). -/
def execTwStart (tw : TwId) (s : State) : Out := actWake s (twStart tw)

/-- TW_STOP (R339, R347). -/
def execTwStop (tw : TwId) (s : State) : Out := actWake s (twStop tw)

/-- TW_ADDRESS_BYTE (R333): a read address delivers `nread` bytes. -/
def execTwAddressByte (tw : TwId) (b : Byte) (nread : Nat) (s : State) : Out := actWake s (twAddress tw b nread)

/-- TW_POINTER_BYTE (R335). -/
def execTwPointerByte (tw : TwId) (b : Byte) (s : State) : Out := actWake s (twPointer tw b)

/-- TW_ACK_SLOT_ABORT (R339). -/
def execTwAckSlotAbort (tw : TwId) (restart : Bool) (s : State) : Out := actWake s (twAbort tw restart)

/-- STRETCH_TIMEOUT (R342). -/
def execStretchTimeout (tw : TwId) (s : State) : Out := actWake s (stretchOut tw)

/-- INBAND_REQUEST (R343). -/
def execInbandRequest (tw : TwId) (s : State) : Out := act s (requestBegins tw)

/-- INBAND_REQUEST_END (R343). -/
def execInbandRequestEnd (tw : TwId) (s : State) : Out := act s (requestEnds tw)

/-- INBAND_REQUEST_REDUE (R343). -/
def execInbandRequestRedue (tw : TwId) (s : State) : Out := act s (requestAgain tw)

/-- NIGHT_ADDRESS_MATCH (R345). -/
def execNightAddressMatch (tw : TwId) (b : Byte) (s : State) : Out := actWake s (nightMatch tw b)

/-- PORT_LOGIC_READY (R346): a read that was held delivers `nread` bytes. -/
def execPortLogicReady (nread : Nat) (s : State) : Out := actWake s (logicReady nread)

end Sys2Proof.Machine
end

