-- ==== Sys2Proof/Machine/Wake.lean ====
section
/-!
DEFINITION. The commands of acoustic wake: the block strobe, the candidate limit and the end of a capture (R276, R277, R282).
-/

namespace Sys2Proof.Machine

/-- WAKE_BLOCK_STROBE (R276): 1 ms of the wake feed has passed. -/
def execWakeBlockStrobe (samples : List (BitVec 16 × BitVec 16)) (s : State) : Out := actWake s (wakeStrobe samples)

/-- CANDIDATE_TIMEOUT (R277): 1.5 s have passed since the candidate held began. -/
def execCandidateTimeout (s : State) : Out :=
  act s fun s => if s.wake.cand && s.wake.candAge < 1500 then candTimeout s else s

/-- CAPTURE_DONE (R282, R422). -/
def execCaptureDone (s : State) : Out := act s captureDone

/-- CAPTURE (R282): a commit of WAKE_CTRL with CAPTURE = 1. -/
def execCapture (pv : PortView) (v : Word) (s : State) : Out := hostAct pv s (commitRow pv 3 0x78 (v ||| 1))

/-- DET_ACK (R280): a commit of WAKE_STATUS with DET = 1. -/
def execDetAck (pv : PortView) (v : Word) (s : State) : Out := hostAct pv s (commitRow pv 3 0x64 (v ||| 0x20))

end Sys2Proof.Machine
end

