-- ==== Sys2Proof/Machine/Dispatch.lean ====
section
/-!
DEFINITION. The meaning of every command, one arm per row of the command table.
-/

namespace Sys2Proof.Machine

/-- The effect of a command on everything but the queue. -/
def exec (i : Instr) (s : State) : Host.Outcome State Fault Refusal :=
  match i with
  | .frameBoundary inp => Sys2Proof.Machine.execFrameBoundary inp s
  | .keeperBoundary => Sys2Proof.Machine.execKeeperBoundary s
  | .copyAck => Sys2Proof.Machine.execCopyAck s
  | .mirrorLinkFault crc => Sys2Proof.Machine.execMirrorLinkFault crc s
  | .fillComplete => Sys2Proof.Machine.execFillComplete s
  | .watchdogExpiry => Sys2Proof.Machine.execWatchdogExpiry s
  | .takeCommand pv v => Sys2Proof.Machine.execTakeCommand pv v s
  | .takeLapse => Sys2Proof.Machine.execTakeLapse s
  | .sideDawnRequest pv v => Sys2Proof.Machine.execSideDawnRequest pv v s
  | .sideDawnRetry x => Sys2Proof.Machine.execSideDawnRetry x s
  | .feedPresent x => Sys2Proof.Machine.execFeedPresent x s
  | .feedLow x => Sys2Proof.Machine.execFeedLow x s
  | .feedLowClear x => Sys2Proof.Machine.execFeedLowClear x s
  | .feedLoss x => Sys2Proof.Machine.execFeedLoss x s
  | .feedOvervoltage x => Sys2Proof.Machine.execFeedOvervoltage x s
  | .feedOvClear x present => Sys2Proof.Machine.execFeedOvClear x present s
  | .ck32Failure => Sys2Proof.Machine.execCk32Failure s
  | .ck32Return => Sys2Proof.Machine.execCk32Return s
  | .ck32StartTimeout => Sys2Proof.Machine.execCk32StartTimeout s
  | .kfLockLoss => Sys2Proof.Machine.execKfLockLoss s
  | .crystalPllFailure x pll => Sys2Proof.Machine.execCrystalPllFailure x pll s
  | .engineClockLoss x => Sys2Proof.Machine.execEngineClockLoss x s
  | .sadcLockLoss => Sys2Proof.Machine.execSadcLockLoss s
  | .converterLinkLoss => Sys2Proof.Machine.execConverterLinkLoss s
  | .clockErrorMute d => Sys2Proof.Machine.execClockErrorMute d s
  | .clockValid d => Sys2Proof.Machine.execClockValid d s
  | .alarmFire n => Sys2Proof.Machine.execAlarmFire n s
  | .periodicTimerFire => Sys2Proof.Machine.execPeriodicTimerFire s
  | .trimIntervalEnd => Sys2Proof.Machine.execTrimIntervalEnd s
  | .utimeLoad pv v => Sys2Proof.Machine.execUtimeLoad pv v s
  | .permitMinute => Sys2Proof.Machine.execPermitMinute s
  | .messageRecheck => Sys2Proof.Machine.execMessageRecheck s
  | .nop e => Sys2Proof.Machine.execNop e s
  | .illegalInstruction e w => Sys2Proof.Machine.execIllegalInstruction e w s
  | .pmov e d sel mv => Sys2Proof.Machine.execPmov e d sel mv s
  | .mpy e d sel mv => Sys2Proof.Machine.execMpy e d sel mv s
  | .mpyn e d sel mv => Sys2Proof.Machine.execMpyn e d sel mv s
  | .mac e d sel mv => Sys2Proof.Machine.execMac e d sel mv s
  | .macn e d sel mv => Sys2Proof.Machine.execMacn e d sel mv s
  | .macr e d sel mv => Sys2Proof.Machine.execMacr e d sel mv s
  | .macnr e d sel mv => Sys2Proof.Machine.execMacnr e d sel mv s
  | .add e d sel mv => Sys2Proof.Machine.execAdd e d sel mv s
  | .sub e d sel mv => Sys2Proof.Machine.execSub e d sel mv s
  | .mova e d sel mv => Sys2Proof.Machine.execMova e d sel mv s
  | .neg e d sel mv => Sys2Proof.Machine.execNeg e d sel mv s
  | .abs e d sel mv => Sys2Proof.Machine.execAbs e d sel mv s
  | .cmp e d sel mv => Sys2Proof.Machine.execCmp e d sel mv s
  | .clr e d sel mv => Sys2Proof.Machine.execClr e d sel mv s
  | .rnd e d sel mv => Sys2Proof.Machine.execRnd e d sel mv s
  | .lim e d sel mv => Sys2Proof.Machine.execLim e d sel mv s
  | .and e d sel mv => Sys2Proof.Machine.execAnd e d sel mv s
  | .or e d sel mv => Sys2Proof.Machine.execOr e d sel mv s
  | .xor e d sel mv => Sys2Proof.Machine.execXor e d sel mv s
  | .not e d sel mv => Sys2Proof.Machine.execNot e d sel mv s
  | .asl e d sel mv => Sys2Proof.Machine.execAsl e d sel mv s
  | .asr e d sel mv => Sys2Proof.Machine.execAsr e d sel mv s
  | .lsr e d sel mv => Sys2Proof.Machine.execLsr e d sel mv s
  | .max e d sel mv => Sys2Proof.Machine.execMax e d sel mv s
  | .min e d sel mv => Sys2Proof.Machine.execMin e d sel mv s
  | .maxi e d sel mv => Sys2Proof.Machine.execMaxi e d sel mv s
  | .mini e d sel mv => Sys2Proof.Machine.execMini e d sel mv s
  | .maxai e d sel mv => Sys2Proof.Machine.execMaxai e d sel mv s
  | .mov e dst src => Sys2Proof.Machine.execMov e dst src s
  | .ldx e reg imm => Sys2Proof.Machine.execLdx e reg imm s
  | .lda e reg imm => Sys2Proof.Machine.execLda e reg imm s
  | .ldi e dst imm => Sys2Proof.Machine.execLdi e dst imm s
  | .mvx e st reg addr => Sys2Proof.Machine.execMvx e st reg addr s
  | .mvy e st reg addr => Sys2Proof.Machine.execMvy e st reg addr s
  | .ash e rnd d src k => Sys2Proof.Machine.execAsh e rnd d src k s
  | .lsh e rnd d src k => Sys2Proof.Machine.execLsh e rnd d src k s
  | .cls e rnd d src k => Sys2Proof.Machine.execCls e rnd d src k s
  | .addi e dst imm => Sys2Proof.Machine.execAddi e dst imm s
  | .bra e cond addr => Sys2Proof.Machine.execBra e cond addr s
  | .call e cond addr => Sys2Proof.Machine.execCall e cond addr s
  | .ret e cond => Sys2Proof.Machine.execRet e cond s
  | .loop e count stop => Sys2Proof.Machine.execLoop e count stop s
  | .loopr e creg stop => Sys2Proof.Machine.execLoopr e creg stop s
  | .exit e cond => Sys2Proof.Machine.execExit e cond s
  | .brx e cond addr => Sys2Proof.Machine.execBrx e cond addr s
  | .sig e sem => Sys2Proof.Machine.execSig e sem s
  | .sigApply e => Sys2Proof.Machine.execSigApply e s
  | .waits e sem => Sys2Proof.Machine.execWaits e sem s
  | .waitf e => Sys2Proof.Machine.execWaitf e s
  | .frd e loc pq ixa slot idx => Sys2Proof.Machine.execFrd e loc pq ixa slot idx s
  | .fwr e loc pq ixa slot idx => Sys2Proof.Machine.execFwr e loc pq ixa slot idx s
  | .frdResult e => Sys2Proof.Machine.execFrdResult e s
  | .dlr e loc pq k dm ofs => Sys2Proof.Machine.execDlr e loc pq k dm ofs s
  | .dlw e loc pq k dm ofs => Sys2Proof.Machine.execDlw e loc pq k dm ofs s
  | .dlrResult e => Sys2Proof.Machine.execDlrResult e s
  | .sysResult => Sys2Proof.Machine.execSysResult s
  | .wdog e ra imm => Sys2Proof.Machine.execWdog e ra imm s
  | .rdframe e ra imm => Sys2Proof.Machine.execRdframe e ra imm s
  | .rdtime e ra imm => Sys2Proof.Machine.execRdtime e ra imm s
  | .cmdhead e ra imm => Sys2Proof.Machine.execCmdhead e ra imm s
  | .cmdword e ra imm => Sys2Proof.Machine.execCmdword e ra imm s
  | .cmddone e ra imm => Sys2Proof.Machine.execCmddone e ra imm s
  | .evraise e ra imm => Sys2Proof.Machine.execEvraise e ra imm s
  | .resopen e ra imm => Sys2Proof.Machine.execResopen e ra imm s
  | .reswr e ra imm => Sys2Proof.Machine.execReswr e ra imm s
  | .respub e ra imm => Sys2Proof.Machine.execRespub e ra imm s
  | .rsaddr e ra imm => Sys2Proof.Machine.execRsaddr e ra imm s
  | .rsrd e ra imm => Sys2Proof.Machine.execRsrd e ra imm s
  | .rswr e ra imm => Sys2Proof.Machine.execRswr e ra imm s
  | .cfgsave e ra imm => Sys2Proof.Machine.execCfgsave e ra imm s
  | .pwrreq e ra imm => Sys2Proof.Machine.execPwrreq e ra imm s
  | .pmstat e ra imm => Sys2Proof.Machine.execPmstat e ra imm s
  | .stage e ra imm => Sys2Proof.Machine.execStage e ra imm s
  | .stgstat e ra imm => Sys2Proof.Machine.execStgstat e ra imm s
  | .pdmrate e ra imm => Sys2Proof.Machine.execPdmrate e ra imm s
  | .wakeclr e ra imm => Sys2Proof.Machine.execWakeclr e ra imm s
  | .plbegin e ra imm => Sys2Proof.Machine.execPlbegin e ra imm s
  | .headerCheckDone => Sys2Proof.Machine.execHeaderCheckDone s
  | .pload e ra imm => Sys2Proof.Machine.execPload e ra imm s
  | .engineLoadDone => Sys2Proof.Machine.execEngineLoadDone s
  | .plend e ra imm => Sys2Proof.Machine.execPlend e ra imm s
  | .pstart e ra imm => Sys2Proof.Machine.execPstart e ra imm s
  | .pstop e ra imm => Sys2Proof.Machine.execPstop e ra imm s
  | .pexit e ra imm => Sys2Proof.Machine.execPexit e ra imm s
  | .plstat e ra imm => Sys2Proof.Machine.execPlstat e ra imm s
  | .fabEnd w => Sys2Proof.Machine.execFabEnd w s
  | .bussrc w1 w2 => Sys2Proof.Machine.execBussrc w1 w2 s
  | .sink w1 w2 => Sys2Proof.Machine.execSink w1 w2 s
  | .ramp w => Sys2Proof.Machine.execRamp w s
  | .busclr w => Sys2Proof.Machine.execBusclr w s
  | .indom w => Sys2Proof.Machine.execIndom w s
  | .tdmcfg w => Sys2Proof.Machine.execTdmcfg w s
  | .direct w1 w2 => Sys2Proof.Machine.execDirect w1 w2 s
  | .d16sem w => Sys2Proof.Machine.execD16sem w s
  | .looka w => Sys2Proof.Machine.execLooka w s
  | .supervisionStop b w => Sys2Proof.Machine.execSupervisionStop b w s
  | .pilotContinuous b w => Sys2Proof.Machine.execPilotContinuous b w s
  | .pilotCounted b w => Sys2Proof.Machine.execPilotCounted b w s
  | .sweep b w => Sys2Proof.Machine.execSweep b w s
  | .fingerprintCapture b w => Sys2Proof.Machine.execFingerprintCapture b w s
  | .filterCalibration b w => Sys2Proof.Machine.execFilterCalibration b w s
  | .earthStop w => Sys2Proof.Machine.execEarthStop w s
  | .earthContinuous w => Sys2Proof.Machine.execEarthContinuous w s
  | .earthCounted w => Sys2Proof.Machine.execEarthCounted w s
  | .sweepStart b => Sys2Proof.Machine.execSweepStart b s
  | .pilotWindowEnd b m => Sys2Proof.Machine.execPilotWindowEnd b m s
  | .sweepIntegrationEnd b m => Sys2Proof.Machine.execSweepIntegrationEnd b m s
  | .earthTestEnd m => Sys2Proof.Machine.execEarthTestEnd m s
  | .supervisionGap b => Sys2Proof.Machine.execSupervisionGap b s
  | .gainCommand m w => Sys2Proof.Machine.execGainCommand m w s
  | .gainApply m => Sys2Proof.Machine.execGainApply m s
  | .railNeedBlock b ws => Sys2Proof.Machine.execRailNeedBlock b ws s
  | .softstartDone b => Sys2Proof.Machine.execSoftstartDone b s
  | .stopComplete b => Sys2Proof.Machine.execStopComplete b s
  | .overcurrentTrip b t => Sys2Proof.Machine.execOvercurrentTrip b t s
  | .tripBlankingEnd b => Sys2Proof.Machine.execTripBlankingEnd b s
  | .cooldownEnd b => Sys2Proof.Machine.execCooldownEnd b s
  | .probeToneEnd b v cur => Sys2Proof.Machine.execProbeToneEnd b v cur s
  | .thermalThreshold d tj => Sys2Proof.Machine.execThermalThreshold d tj s
  | .thermalStepFall d tj => Sys2Proof.Machine.execThermalStepFall d tj s
  | .thermalShutdownClear d tj => Sys2Proof.Machine.execThermalShutdownClear d tj s
  | .boostFault d t => Sys2Proof.Machine.execBoostFault d t s
  | .boostRestart d => Sys2Proof.Machine.execBoostRestart d s
  | .railGuardEnd d => Sys2Proof.Machine.execRailGuardEnd d s
  | .scanPublish bank1 m => Sys2Proof.Machine.execScanPublish bank1 m s
  | .message0End => Sys2Proof.Machine.execMessage0End s
  | .nightScan m => Sys2Proof.Machine.execNightScan m s
  | .sentinelTrip n => Sys2Proof.Machine.execSentinelTrip n s
  | .inputOverload m => Sys2Proof.Machine.execInputOverload m s
  | .jackInsertion => Sys2Proof.Machine.execJackInsertion s
  | .jackRemoval => Sys2Proof.Machine.execJackRemoval s
  | .jackClassified r1 r2 => Sys2Proof.Machine.execJackClassified r1 r2 s
  | .privacyAssert => Sys2Proof.Machine.execPrivacyAssert s
  | .privacyRelease => Sys2Proof.Machine.execPrivacyRelease s
  | .pdmClockRestart => Sys2Proof.Machine.execPdmClockRestart s
  | .micpwrOvercurrent => Sys2Proof.Machine.execMicpwrOvercurrent s
  | .micpwrRetry => Sys2Proof.Machine.execMicpwrRetry s
  | .quietChargeDone up => Sys2Proof.Machine.execQuietChargeDone up s
  | .wakeBlockStrobe samples => Sys2Proof.Machine.execWakeBlockStrobe samples s
  | .candidateTimeout => Sys2Proof.Machine.execCandidateTimeout s
  | .capture pv v => Sys2Proof.Machine.execCapture pv v s
  | .captureDone => Sys2Proof.Machine.execCaptureDone s
  | .detAck pv v => Sys2Proof.Machine.execDetAck pv v s
  | .handshakeReply t => Sys2Proof.Machine.execHandshakeReply t s
  | .handshakeDelayEnd => Sys2Proof.Machine.execHandshakeDelayEnd s
  | .handshakeNoReply => Sys2Proof.Machine.execHandshakeNoReply s
  | .entryWindowEnd => Sys2Proof.Machine.execEntryWindowEnd s
  | .dawnStart => Sys2Proof.Machine.execDawnStart s
  | .dawnStepReady => Sys2Proof.Machine.execDawnStepReady s
  | .dawnStepTimeout why dom => Sys2Proof.Machine.execDawnStepTimeout why dom s
  | .dawnRetryOffEnd => Sys2Proof.Machine.execDawnRetryOffEnd s
  | .dawnRepeat => Sys2Proof.Machine.execDawnRepeat s
  | .unitReady u => Sys2Proof.Machine.execUnitReady u s
  | .limiterExpiry src qual => Sys2Proof.Machine.execLimiterExpiry src qual s
  | .faultMinPulseEnd n => Sys2Proof.Machine.execFaultMinPulseEnd n s
  | .powerOnReset => Sys2Proof.Machine.execPowerOnReset s
  | .resetN => Sys2Proof.Machine.execResetN s
  | .resetRelease fbSel haddr => Sys2Proof.Machine.execResetRelease fbSel haddr s
  | .bootLoad => Sys2Proof.Machine.execBootLoad s
  | .loadset pv ws rc reply => Sys2Proof.Machine.execLoadset pv ws rc reply s
  | .startset pv ws rc reply => Sys2Proof.Machine.execStartset pv ws rc reply s
  | .ldstat pv ws rc reply => Sys2Proof.Machine.execLdstat pv ws rc reply s
  | .claim pv ws rc reply => Sys2Proof.Machine.execClaim pv ws rc reply s
  | .release pv ws rc reply => Sys2Proof.Machine.execRelease pv ws rc reply s
  | .wakeack pv ws rc reply => Sys2Proof.Machine.execWakeack pv ws rc reply s
  | .seenclr pv ws rc reply => Sys2Proof.Machine.execSeenclr pv ws rc reply s
  | .programCommand pv ws rc reply => Sys2Proof.Machine.execProgramCommand pv ws rc reply s
  | .commandFifoPush pv b => Sys2Proof.Machine.execCommandFifoPush pv b s
  | .tagCheckDone pv => Sys2Proof.Machine.execTagCheckDone pv s
  | .assemblyTimeout pv => Sys2Proof.Machine.execAssemblyTimeout pv s
  | .eventFifoPop pv => Sys2Proof.Machine.execEventFifoPop pv s
  | .pageWrite pv b => Sys2Proof.Machine.execPageWrite pv b s
  | .registerWrite pv bs => Sys2Proof.Machine.execRegisterWrite pv bs s
  | .periodWrite pv v => Sys2Proof.Machine.execPeriodWrite pv v s
  | .permitWrite pv v => Sys2Proof.Machine.execPermitWrite pv v s
  | .rbSelWrite pv v => Sys2Proof.Machine.execRbSelWrite pv v s
  | .recSelWrite pv v => Sys2Proof.Machine.execRecSelWrite pv v s
  | .recordFifoPop pv => Sys2Proof.Machine.execRecordFifoPop pv s
  | .capturePortRead pv => Sys2Proof.Machine.execCapturePortRead pv s
  | .lcTransition pv v => Sys2Proof.Machine.execLcTransition pv v s
  | .keyWrite pv v => Sys2Proof.Machine.execKeyWrite pv v s
  | .wipeDone => Sys2Proof.Machine.execWipeDone s
  | .writeSet pv v => Sys2Proof.Machine.execWriteSet pv v s
  | .writeMessage pv v => Sys2Proof.Machine.execWriteMessage pv v s
  | .deleteMessage pv v => Sys2Proof.Machine.execDeleteMessage pv v s
  | .exportPkg pv v => Sys2Proof.Machine.execExportPkg pv v s
  | .importPkg pv v => Sys2Proof.Machine.execImportPkg pv v s
  | .save pv v => Sys2Proof.Machine.execSave pv v s
  | .abort pv v => Sys2Proof.Machine.execAbort pv v s
  | .imageFifoPush pv b => Sys2Proof.Machine.execImageFifoPush pv b s
  | .imageFifoPop pv => Sys2Proof.Machine.execImageFifoPop pv s
  | .imageWriteCheckDone => Sys2Proof.Machine.execImageWriteCheckDone s
  | .saveDone => Sys2Proof.Machine.execSaveDone s
  | .twStart tw => Sys2Proof.Machine.execTwStart tw s
  | .twStop tw => Sys2Proof.Machine.execTwStop tw s
  | .twAddressByte tw b nread => Sys2Proof.Machine.execTwAddressByte tw b nread s
  | .twPointerByte tw b => Sys2Proof.Machine.execTwPointerByte tw b s
  | .twAckSlotAbort tw restart => Sys2Proof.Machine.execTwAckSlotAbort tw restart s
  | .stretchTimeout tw => Sys2Proof.Machine.execStretchTimeout tw s
  | .inbandRequest tw => Sys2Proof.Machine.execInbandRequest tw s
  | .inbandRequestEnd tw => Sys2Proof.Machine.execInbandRequestEnd tw s
  | .nightAddressMatch tw b => Sys2Proof.Machine.execNightAddressMatch tw b s
  | .portLogicReady nread => Sys2Proof.Machine.execPortLogicReady nread s
  | .wrq m3 page ptr bs => Sys2Proof.Machine.execWrq m3 page ptr bs s
  | .rdq m3 page ptr n => Sys2Proof.Machine.execRdq m3 page ptr n s
  | .rdsr m3 => Sys2Proof.Machine.execRdsr m3 s
  | .fastBadOpcode m3 op => Sys2Proof.Machine.execFastBadOpcode m3 op s
  | .fastCsRise => Sys2Proof.Machine.execFastCsRise s
  | .pcTransfer pv v => Sys2Proof.Machine.execPcTransfer pv v s
  | .pcBusClear pv v => Sys2Proof.Machine.execPcBusClear pv v s
  | .pcTransferEnd cleared r => Sys2Proof.Machine.execPcTransferEnd cleared r s
  | .arbitrationLost => Sys2Proof.Machine.execArbitrationLost s
  | .arbitrationRetry => Sys2Proof.Machine.execArbitrationRetry s
  | .portpTxPush pv b => Sys2Proof.Machine.execPortpTxPush pv b s
  | .portpRxPop pv => Sys2Proof.Machine.execPortpRxPop pv s
  | .tdmClockMissing p => Sys2Proof.Machine.execTdmClockMissing p s
  | .tdmWrongRate p => Sys2Proof.Machine.execTdmWrongRate p s
  | .tdmSlotSyncError p t => Sys2Proof.Machine.execTdmSlotSyncError p t s
  | .tdmReturn p meas => Sys2Proof.Machine.execTdmReturn p meas s
  | .extest => Sys2Proof.Machine.execExtest s
  | .samplePreload => Sys2Proof.Machine.execSamplePreload s
  | .bypass => Sys2Proof.Machine.execBypass s
  | .kfLock => Sys2Proof.Machine.execKfLock s
  | .sadcLock => Sys2Proof.Machine.execSadcLock s
  | .sentinelReturn n => Sys2Proof.Machine.execSentinelReturn n s
  | .twarnClear d tj => Sys2Proof.Machine.execTwarnClear d tj s
  | .inbandRequestRedue tw => Sys2Proof.Machine.execInbandRequestRedue tw s
  | .messageCheckDone => Sys2Proof.Machine.execMessageCheckDone s
  | .delaySramWipeDone => Sys2Proof.Machine.execDelaySramWipeDone s
  | .pdmRateChangeEnd q => Sys2Proof.Machine.execPdmRateChangeEnd q s

end Sys2Proof.Machine
end

