-- ==== Sys2Proof/Safety.lean ====
section
/-!
DEFINITION. The words in which statements are made: a command answers a next state of which something holds, what a command
leaves unchanged, and the invariant that every step keeps.
-/

namespace Sys2Proof.Safety

open Sys2Proof.Machine

/-- The command runs: it answers a next state, and `P` holds of it. -/
def Gives (c : Instr) (s : State) (P : State → Prop) : Prop := ∃ t, exec c s = .next t ∧ P t

/-- The parts of the state that a frame speaks of. -/
inductive Part
  | feeds | clk | time | arb | mirror | pm | core | dies | bridges | lmu | conv | sadc | wake | ret | hosts | flt | pads
  | ports | tap | free
  deriving DecidableEq, Repr

/-- A part is unchanged, but for what entering events and driving the fault outputs may change of it (R402-R408): the event
queues with their counts and the entries that wait for them, the limiters and ignore counters, the levels of FAULT0-FAULT3
and ATTN_A, and the in-band requests that new entries make due (R343). -/
def Same : Part → State → State → Prop
  | .feeds, s, t => t.feeds = s.feeds
  | .clk, s, t => t.clk = s.clk
  | .time, s, t => t.time = s.time
  | .arb, s, t => t.arb = s.arb
  | .mirror, s, t => t.mirror = s.mirror
  | .pm, s, t => t.pm = s.pm
  | .core, s, t => t.core = s.core
  | .dies, s, t => t.dies = s.dies
  | .bridges, s, t => t.bridges = s.bridges
  | .lmu, s, t => t.lmu = s.lmu
  | .conv, s, t => t.conv = s.conv
  | .sadc, s, t => t.sadc = s.sadc
  | .wake, s, t => t.wake = s.wake
  | .ret, s, t => t.ret = s.ret
  | .hosts, s, t =>
    { t.hosts with evq := s.hosts.evq, evTouched := s.hosts.evTouched, evLost := s.hosts.evLost, nextSeq := s.hosts.nextSeq,
                   lims := s.hosts.lims, evBuf := s.hosts.evBuf, ign := s.hosts.ign } = s.hosts
  | .flt, s, t =>
    { t.flt with asserted := s.flt.asserted, latched := s.flt.latched, minRun := s.flt.minRun } = s.flt
  | .pads, s, t => { t.pads with fault := s.pads.fault, attn := s.pads.attn } = s.pads
  | .ports, s, t =>
    { t.ports with tw := vmap t.ports.tw fun i x => { x with due := (s.ports.tw[i]).due } } = s.ports
  | .tap, s, t => t.tap = s.tap
  | .free, s, t => t.freeCtr = s.freeCtr

/-- The frame of a command: nothing outside the listed parts changes; identity, reset and the queue never do. -/
def Frame (ps : List Part) (s t : State) : Prop :=
  t.serial = s.serial ∧ t.variant = s.variant ∧ t.resetHeld = s.resetHeld ∧ t.pending = s.pending ∧
  ∀ p, p ∉ ps → Same p s t

/-- The command runs, and leaves `t` as what follows every command leaves it: its events entered, the fault outputs driven
(R402-R407). -/
def Does (c : Instr) (s t : State) : Prop := exec c s = .next (settle t)

/-- The same of a command after which the power manager looks at its wake sources (R309, R316). -/
def DoesWake (c : Instr) (s t : State) : Prop := exec c s = .next (settle (pmWatch t))

/-! Engines. -/

/-- The state in which an instruction of engine `e` executes: what the engine had outstanding has arrived (log 5). -/
abbrev atIssue (s : State) (e : Eng) : State := drain e s

/-- Engine `e` issues instructions (R80, R83), no loop ends at its address, and its next address lies in its program memory
(R83). -/
def Ready (s : State) (e : Eng) : Prop :=
  engMay s e = true ∧ atLoopEnd (getEng (atIssue s e) e) = false ∧
  (e = weNum → (getEng (atIssue s e) e).pc.toNat + 1 < 4096)

/-- What an instruction that does not transfer control leaves of engine `e`: `y`, with the next program counter, and IX as the
next instruction's address stage sees it (R98); `st` are the data memory words it stored (R292). -/
def moveOn (s : State) (e : Eng) (y : Engine) (st : List (Bool × BitVec 12)) : State :=
  let s1 := atIssue s e
  let x := getEng s1 e
  markStores e st (setEng s1 e { y with pc := x.pc + 1, ixAg := x.ix, dvLate := false })

/-- The engine as an instruction finds it. -/
abbrev engIn (s : State) (e : Eng) : Engine := getEng (atIssue s e) e

/-- Nothing of an engine is in flight: no request, no result and no increment waits. -/
def Quiet (x : Engine) : Prop := x.dq = [] ∧ x.fq = [] ∧ x.sysq = [] ∧ x.sigq = []

/-- What an instruction that transfers control leaves of engine `e`: `y`, with its new program counter. -/
def jump (s : State) (e : Eng) (y : Engine) : State := setEng (atIssue s e) e { y with ixAg := (engIn s e).ix, dvLate := false }

/-- What a SYS instruction leaves of SV in state `t` (R121-R123): PC moves on, and its answer (C, and the value that RA takes) is
there at once for a local function, and waits as an outstanding result otherwise. -/
def sysNext (localFn : Bool) (ra : BitVec 3) (val : Option (BitVec 56)) (c : Bool) (t : State) : State :=
  let y := getEng t sv
  let z := if localFn then { (match val with | some v => raPut y ra v | none => y) with fc := c }
    else { y with sysq := y.sysq ++ [{ ra := ra, val := val, c := c }] }
  setEng t sv { z with pc := y.pc + 1, ixAg := y.ix, dvLate := false }

/-- R62: the nearest 56-bit value. -/
def clamp56 (q : Int) : Int := max (-(2 ^ 55)) (min (2 ^ 55 - 1) q)
/-- R64: the nearest 24-bit value. -/
def clamp24 (q : Int) : Int := max (-(2 ^ 23)) (min (2 ^ 23 - 1) q)

/-- R59, R95: an accumulator written with `q`, N and Z set from it, V and S as clipping goes, C as given or unchanged. -/
def accResult (x : Engine) (d : BitVec 2) (q : Int) (v : Bool) (c : Option Bool) (clip : Bool) : Engine :=
  { x with acc := vset x.acc (ix2 d) (BitVec.ofInt 56 q), fn := decide (q < 0), fz := decide (q = 0), fv := v,
           fc := c.getD x.fc, fs := x.fs || clip }

/-- R62, R95: a result `q` that saturates: V and S tell whether it clipped. -/
def accSat (x : Engine) (d : BitVec 2) (q : Int) (c : Option Bool) : Engine :=
  accResult x d (clamp56 q) (decide (clamp56 q ≠ q)) c (decide (clamp56 q ≠ q))

/-- R96: the next state of a parallel-arithmetic instruction whose arithmetic gives `x1`, with its two moves. -/
def paNext (s : State) (e : Eng) (mv : Moves) (x1 : Engine) : State :=
  let x := engIn s e
  let ax := (dataAddr x (xPtr mv) mv.xm).1
  let ay := (dataAddr x (yPtr mv) mv.ym).1
  moveOn s e (moveCommit x (moveCommit x { x1 with p := movePtrs x mv } false mv.xk mv.xr ax) true mv.yk mv.yr ay)
    (moveStores x mv)

/-! What every step keeps. -/

/-- The invariant that every step keeps: bit 5 of FLT_MASK0 is 1 (R407, R411); no event queue holds more than 32 entries, and no more
than 23 bytes of its oldest have been read (R374, R405); the life-cycle state, and those it is on its way to, are states of R390; and
the claim table, the port-views and the MRAM keep their canonical form. -/
def Inv (s : State) : Prop :=
  bit s.flt.mask[(0 : Fin 4)] 5 = true ∧ (∀ h : Fin 3, s.hosts.evq[h].length ≤ 32 ∧ s.hosts.evPos[h] < 24) ∧
  s.ret.lc.toNat ≤ 4 ∧ (∀ t, s.ret.pendWipe = some t → t.toNat ≤ 4) ∧ (∀ t, s.ret.lcNext = some t → t.toNat ≤ 4) ∧
  mwf 3 s.hosts.claims = true ∧ mwf {} s.ports.views = true ∧ mwf 0 s.ret.mram = true

/-- The parts of the state that a row may change, for the rows that reach no further than seven of them; the rows that set off a
power transition, a takeover, a reset or a boundary, or that commit a register, are not among them. -/
def touches : Instr → Option (List Part)
  | .takeLapse => some [.arb]
  | .softstartDone .. | .tripBlankingEnd .. => some [.bridges]
  | .ck32Failure | .ck32Return | .ck32StartTimeout | .kfLockLoss | .engineClockLoss .. | .sadcLock => some [.clk]
  | .permitMinute | .gainCommand .. | .gainApply .. | .inputOverload .. | .jackInsertion | .jackRemoval
  | .jackClassified .. | .quietChargeDone .. => some [.conv]
  | .fabEnd .. | .bussrc .. | .sink .. | .ramp .. | .busclr .. | .indom .. | .tdmcfg .. | .direct .. | .d16sem ..
  | .looka .. | .message0End | .bootLoad | .tdmClockMissing .. | .tdmWrongRate .. | .tdmSlotSyncError ..
  | .tdmReturn .. => some [.core]
  | .thermalStepFall .. | .railGuardEnd .. | .twarnClear .. => some [.dies]
  | .feedLow .. | .feedLowClear .. => some [.feeds]
  | .faultMinPulseEnd .. => some [.flt]
  | .limiterExpiry .. => some [.hosts]
  | .supervisionGap .. => some [.lmu]
  | .fillComplete => some [.mirror]
  | .mirrorLinkFault .. => some [.arb, .mirror]
  | .dawnRetryOffEnd | .unitReady .. | .delaySramWipeDone => some [.pm]
  | .assemblyTimeout .. | .inbandRequest .. | .inbandRequestEnd .. | .rdsr .. | .fastBadOpcode .. | .pcTransferEnd ..
  | .arbitrationLost | .arbitrationRetry | .inbandRequestRedue .. => some [.ports]
  | .messageRecheck | .saveDone => some [.ret]
  | .dawnRepeat => some [.arb, .pm]
  | .sweepStart .. => some [.bridges, .lmu]
  | .sideDawnRetry .. => some [.clk, .pm]
  | .sadcLockLoss => some [.clk, .sadc]
  | .pdmClockRestart | .candidateTimeout | .micpwrOvercurrent | .micpwrRetry | .pdmRateChangeEnd .. => some [.conv, .wake]
  | .converterLinkLoss => some [.core, .conv, .free]
  | .earthStop .. | .earthContinuous .. | .earthCounted .. => some [.core, .lmu]
  | .messageCheckDone => some [.core, .ret]
  | .sigApply .. | .sysResult => some [.core, .wake]
  | .clockErrorMute .. | .clockValid .. | .railNeedBlock .. | .stopComplete .. | .overcurrentTrip ..
  | .cooldownEnd .. | .thermalThreshold .. | .thermalShutdownClear .. | .boostFault ..
  | .boostRestart .. => some [.dies, .bridges]
  | .probeToneEnd .. => some [.dies, .bridges, .free]
  | .earthTestEnd .. => some [.lmu, .free]
  | .imageWriteCheckDone => some [.core, .lmu, .ret]
  | .handshakeDelayEnd => some [.pm, .lmu]
  | .captureDone => some [.wake, .ports]
  | .kfLock => some [.clk, .arb, .pm]
  | .headerCheckDone => some [.core, .wake, .conv, .hosts]
  | .extest | .samplePreload | .bypass => some [.dies, .bridges, .tap]
  | .pilotWindowEnd .. => some [.lmu, .hosts, .free]
  | .frdResult .. | .dlrResult .. => some [.mirror, .core, .wake]
  | .waits .. => some [.mirror, .core, .wake, .conv]
  | .tagCheckDone .. => some [.ret, .hosts, .ports]
  | .sweepIntegrationEnd .. => some [.bridges, .lmu, .hosts, .free]
  | .nop .. | .illegalInstruction .. | .pmov .. | .mpy .. | .mpyn .. | .mac .. | .macn .. | .macr .. | .macnr ..
  | .add .. | .sub .. | .mova .. | .neg .. | .abs .. | .cmp .. | .clr .. | .rnd .. | .lim .. | .and .. | .or ..
  | .xor .. | .not .. | .asl .. | .asr .. | .lsr .. | .max .. | .min .. | .maxi .. | .mini .. | .maxai .. | .mov ..
  | .ldx .. | .lda .. | .ldi .. | .mvx .. | .mvy .. | .ash .. | .lsh .. | .cls .. | .addi .. | .bra .. | .call ..
  | .ret .. | .loop .. | .loopr .. | .exit .. | .brx .. | .sig .. | .waitf .. | .frd .. | .fwr .. | .dlr ..
  | .dlw .. | .rdframe .. | .rdtime .. | .cmdword .. | .rsaddr .. | .rsrd .. | .pmstat .. | .stgstat ..
  | .plbegin .. | .pload .. | .plend .. | .pstart .. | .pstop .. | .pexit .. | .plstat .. | .pdmrate .. =>
    some [.mirror, .core, .wake, .conv, .free]
  | .engineLoadDone => some [.mirror, .core, .wake, .conv, .hosts]
  | .supervisionStop .. | .pilotContinuous .. | .pilotCounted .. | .sweep .. | .fingerprintCapture ..
  | .filterCalibration .. => some [.core, .bridges, .lmu, .hosts, .free]
  | .wipeDone => some [.core, .lmu, .conv, .wake, .ret]
  | .cmdhead .. | .cmddone .. | .evraise .. | .resopen .. | .reswr .. | .respub .. | .rswr .. | .wakeclr .. =>
    some [.mirror, .core, .wake, .conv, .hosts, .free]
  | .wdog .. | .pwrreq .. | .stage .. => some [.mirror, .pm, .core, .wake, .conv, .free]
  | .cfgsave .. => some [.mirror, .core, .wake, .conv, .ret, .hosts, .free]
  | _ => none

/-- The parts that a row may change before the power manager looks at its wake sources (R309, R314), for rows after which it
looks. -/
def touchesFirst : Instr → Option (List Part)
  | .alarmFire .. | .periodicTimerFire => some [.time]
  | .trimIntervalEnd => some [.conv, .time]
  | .sentinelTrip .. | .sentinelReturn .. => some [.sadc]
  | .scanPublish .. | .nightScan .. => some [.bridges, .core, .dies, .sadc, .tap]
  | .privacyAssert | .privacyRelease => some [.conv, .wake]
  | .wakeBlockStrobe .. => some [.conv, .wake, .free]
  | .nightAddressMatch .. => some [.arb, .pm, .ports]
  | .loadset .. | .startset .. | .ldstat .. | .claim .. | .release .. | .wakeack .. | .seenclr .. | .programCommand .. =>
    some [.core, .wake, .ret, .hosts, .ports]
  | .commandFifoPush .. | .eventFifoPop .. | .recordFifoPop .. | .capturePortRead .. | .imageFifoPush .. | .imageFifoPop ..
  | .twAddressByte .. | .portLogicReady .. | .rdq .. | .portpTxPush .. | .portpRxPop .. => some [.ret, .hosts, .ports]
  | .twStart .. | .twStop .. | .twPointerByte .. | .twAckSlotAbort .. | .stretchTimeout .. | .fastCsRise => some [.ports]
  | _ => none

end Sys2Proof.Safety
end

