-- ==== Sys2Proof/WellFormed.lean ====
section
/-!
DEFINITION. Which commands are well formed: operands that describe an event, instruction or access that the spec has.  The
row's operation code must stand in the words it carries (`rowOk`, which exec checks itself), and what hardware delivers must
have the length that its rule gives.
-/

namespace Sys2Proof

open Sys2Proof.Machine

/-- The words that a row carries are words of that row (R147, R214, R227, R364); a row without words of its own is. -/
def Instr.rowOk : Instr → Bool
  | .fabEnd w => fabOp w = 0
  | .bussrc w _ => fabOp w = 1
  | .sink w _ => fabOp w = 2
  | .ramp w => fabOp w = 3
  | .busclr w => fabOp w = 4
  | .indom w => fabOp w = 5
  | .tdmcfg w => fabOp w = 6
  | .direct w _ => fabOp w = 7
  | .d16sem w => fabOp w = 8
  | .looka w => fabOp w = 9
  | .supervisionStop _ w => supOp w = 0
  | .pilotContinuous _ w => supOp w = 1
  | .pilotCounted _ w => supOp w = 2
  | .sweep _ w => supOp w = 3
  | .fingerprintCapture _ w => supOp w = 4
  | .filterCalibration _ w => supOp w = 5
  | .earthStop w => supOp w = 0
  | .earthContinuous w => supOp w = 1
  | .earthCounted w => supOp w = 2
  | .loadset _ ws _ _ => cmdWords (· = 0xE0) ws
  | .startset _ ws _ _ => cmdWords (· = 0xE1) ws
  | .ldstat _ ws _ _ => cmdWords (· = 0xE2) ws
  | .claim _ ws _ _ => cmdWords (· = 0xF0) ws
  | .release _ ws _ _ => cmdWords (· = 0xF1) ws
  | .wakeack _ ws _ _ => cmdWords (· = 0xF2) ws
  | .seenclr _ ws _ _ => cmdWords (· = 0xF3) ws
  | .programCommand _ ws _ _ => cmdWords (fun op => op < 0xE0 || (0xE3 ≤ op && op < 0xF0) || 0xF4 ≤ op) ws
  | _ => true

/-- What hardware delivers with a row has the length that its rule gives: the dies of R3, conversions of all 16 channels
(R256, R268), the 16 samples of each channel in a wake block (R273), voltages
with their currents (R201, R210, R222), both halves of an earth test (R227). -/
def Instr.shapeOk : Instr → Bool
  | .frameBoundary inp => inp.dies.length ≤ 4
  | .scanPublish _ m => m.convs.length = 16 && m.convs.all (!·.isEmpty)
  | .nightScan m => m.convs.length = 16 && m.convs.all (!·.isEmpty)
  | .wakeBlockStrobe xs => xs.length = 16
  | .probeToneEnd _ v i => !v.isEmpty && i.length = v.length
  | .pilotWindowEnd _ m => !m.a.v.isEmpty && m.a.i.length = m.a.v.length && m.b.i.length = m.b.v.length
  | .sweepIntegrationEnd _ m => m.periods.all fun p => !p.v.isEmpty && p.i.length = p.v.length
  | .earthTestEnd m => !m.plus.isEmpty && !m.minus.isEmpty
  | .illegalInstruction e w => (illegalCause e w).isSome
  | _ => true

/-- A well-formed command. -/
def Instr.wf (c : Instr) : Bool := c.rowOk && c.shapeOk

/-- R55, R87: the engine that an instruction row names; the other rows name none. -/
def Instr.engine? : Instr → Option Eng
  | .nop e | .illegalInstruction e _ | .pmov e _ _ _ | .mpy e _ _ _ | .mpyn e _ _ _ | .mac e _ _ _ | .macn e _ _ _
  | .macr e _ _ _ | .macnr e _ _ _ | .add e _ _ _ | .sub e _ _ _ | .mova e _ _ _ | .neg e _ _ _ | .abs e _ _ _
  | .cmp e _ _ _ | .clr e _ _ _ | .rnd e _ _ _ | .lim e _ _ _ | .and e _ _ _ | .or e _ _ _ | .xor e _ _ _
  | .not e _ _ _ | .asl e _ _ _ | .asr e _ _ _ | .lsr e _ _ _ | .max e _ _ _ | .min e _ _ _ | .maxi e _ _ _
  | .mini e _ _ _ | .maxai e _ _ _ | .mov e _ _ | .ldx e _ _ | .lda e _ _ | .ldi e _ _ | .mvx e _ _ _ | .mvy e _ _ _
  | .ash e _ _ _ _ | .lsh e _ _ _ _ | .cls e _ _ _ _ | .addi e _ _ | .bra e _ _ | .call e _ _ | .ret e _ | .loop e _ _
  | .loopr e _ _ | .exit e _ | .brx e _ _ | .sig e _ | .sigApply e | .waits e _ | .waitf e | .frd e _ _ _ _ _
  | .fwr e _ _ _ _ _ | .frdResult e | .dlr e _ _ _ _ _ | .dlw e _ _ _ _ _ | .dlrResult e | .wdog e _ _ | .rdframe e _ _
  | .rdtime e _ _ | .cmdhead e _ _ | .cmdword e _ _ | .cmddone e _ _ | .evraise e _ _ | .resopen e _ _ | .reswr e _ _
  | .respub e _ _ | .rsaddr e _ _ | .rsrd e _ _ | .rswr e _ _ | .cfgsave e _ _ | .pwrreq e _ _ | .pmstat e _ _
  | .stage e _ _ | .stgstat e _ _ | .pdmrate e _ _ | .wakeclr e _ _ | .plbegin e _ _ | .pload e _ _ | .plend e _ _
  | .pstart e _ _ | .pstop e _ _ | .pexit e _ _ | .plstat e _ _ => some e
  | _ => none

end Sys2Proof
end

