-- ==== Sys2Proof/Certificates/Slice0/Obligations.lean ====
section
/-!
DEFINITION. The statements about the model, for the provers. Where a statement speaks of an engine as its instruction finds
it (`engIn`, `atIssue`, `Ready`), what the engine had outstanding has arrived: the model's choice, log 5. Where it names an
operation of the model in a next state, the operation is the one that carries the rules cited beside it.
-/

open Sys2Proof Sys2Proof.Machine Sys2Proof.Safety

/-- The queue of commands (the model's own, log 2): a step takes the command at its front and runs exec on it with the
queue's rest; on an empty queue one CK32 cycle passes. -/
def Obligations.StepTakesTheFrontCommand : Prop :=
  ∀ (s : State) (c : Instr) (cs : List Instr), s.pending = c :: cs → step s = exec c { s with pending := cs }

/-- What reset leaves, as the Reset columns of the register tables give it, and the invariant of `Safety.Inv`. -/
def Obligations.ResetState : Prop :=
  let s := State.reset
  -- R58, R81, R29, R147: engines, semaphores, fabric
  (∀ i : Fin 25, s.core.eng[i].acc = .replicate 4 0 ∧ s.core.eng[i].pc = 0 ∧ s.core.eng[i].loops = [] ∧
    s.core.eng[i].fs = false ∧ s.core.eng[i].fdv = false) ∧
  (∀ n : Fin 32, s.core.sems[n] = 0) ∧ s.core.fab.f = .f48 ∧ s.core.fab.lookA = 48 ∧ s.core.prog = .resident ∧
  -- R48, R49, R54
  s.time.frame = 0 ∧ s.time.sec = 0 ∧ s.time.sub = 0 ∧ s.time.valid = false ∧ s.time.period = 60 ∧ s.time.perEn = true ∧
  -- R35, R306, R330
  s.arb.active = .a ∧ s.arb.stbyUp = false ∧ s.arb.takeovers = 0 ∧ s.pm.st = 3 ∧ s.pm.on = 1 ∧ s.pm.held = true ∧
  s.pm.set = none ∧
  -- R208, R232, R253, R270, R284
  (∀ b : Fin 8, s.bridges[b].st = 0 ∧ s.bridges[b].trips = 0) ∧ (∀ b : Fin 8, s.lmu.line[b].lmode = 0 ∧ s.lmu.line[b].lfault = false) ∧
  s.conv.permit = 0 ∧ s.conv.micpwr = false ∧ s.sadc.s0.valid = false ∧ s.sadc.below = 0 ∧ s.wake.word = 0x3C ∧ s.wake.det = false ∧
  -- R366, R374, R377, R411, R356
  s.hosts.q = [] ∧ (∀ h : Fin 3, s.hosts.evq[h] = [] ∧ s.hosts.nextSeq[h] = 0) ∧
  s.flt.mask = #v[0xF7FFFFFF, 0x0007F800, 0x00000007, 0] ∧ s.flt.asserted = 0xF ∧ s.flt.attnFlt = true ∧
  s.ports.fp = {} ∧ s.tap.ir = 0b1111 ∧
  s.resetHeld = true ∧ s.pending = [] ∧ Inv s

/-- Every command completes in every state, when its words are words of its row (R147, R214, R227, R364); words of another
row are malformed. -/
def Obligations.EveryCommandRuns : Prop :=
  ∀ (c : Instr) (s : State), (c.rowOk = true → ∃ t, exec c s = .next t) ∧ (c.rowOk = false → exec c s = .fault .malformed)

/-- R87-R128: the words of Enlia: the word of an instruction decodes to it with every operand, and a legal word is the word
of the instruction it decodes to. -/
def Obligations.EngineWordsRoundTrip : Prop :=
  (∀ (i : Instr) (e : Eng) (w : Word), i.engine? = some e → encodeEnlia i = some w → wordInstr e w = some i) ∧
  (∀ (i : Instr) (e : Eng) (w : Word), decodeEnlia e w = some i → encodeEnlia i = some w ∧ i.engine? = some e) ∧
  (∀ (e : Eng) (w : Word), decodeEnlia e w = none ↔ ∃ c, illegalCause e w = some c ∧ 1 ≤ c ∧ c ≤ 4)

/-- R12, R371, R374, R378, R390, R411: every step keeps the invariant of `Safety.Inv`, and the queue's rest, the serial
number and the variant. -/
def Obligations.StepKeepsTheInvariant : Prop :=
  ∀ s t : State, step s = .next t → Inv s →
    Inv t ∧ t.serial = s.serial ∧ t.variant = s.variant ∧ t.pending = s.pending.tail

/-- What an instruction of an engine leaves unchanged (R58-R83, R128): every part of the state outside those of
`Safety.touches`, and, for every engine but SV, whose instructions start and stop engines, all of every other engine but
whether it runs. -/
def Obligations.FramesOfInstructions : Prop :=
  ∀ (c : Instr) (e : Eng) (s t : State), c.engine? = some e → exec c s = .next t →
    (∀ ps, touches c = some ps → Frame ps s t) ∧
    (e ≠ sv → ∀ j : Eng, j ≠ e → getEng t j = { getEng s j with run := (getEng t j).run })

/-- What the other rows leave unchanged: every part of the state outside those of `Safety.touches`; and, where the power manager
looks at its wake sources afterwards (R309, R314), every part outside those of `Safety.touchesFirst` until it does. -/
def Obligations.FramesOfDeviceRows : Prop :=
  (∀ (c : Instr) (s t : State) (ps : List Part), c.engine? = none → touches c = some ps → exec c s = .next t → Frame ps s t) ∧
  (∀ (c : Instr) (s t : State) (ps : List Part), s.resetHeld = false → touchesFirst c = some ps → exec c s = .next t →
    ∃ u, t = settle (pmWatch u) ∧ Frame ps s u)

/-- R93, R95, R61-R64: the multiply operations, with their moves. -/
def Obligations.MultiplyOperations : Prop :=
  ∀ (s : State) (e : Eng) (d : BitVec 2) (sel : BitVec 4) (mv : Moves) (a b : Sample), Ready s e → movesOk mv = true →
    pairOf (engIn s e) sel = some (a, b) →
    let x := engIn s e
    let p : Int := a.toInt * b.toInt * 2
    let q : Int := x.acc[ix2 d].toInt
    let sum := decide (2 ^ 56 ≤ x.acc[ix2 d].toNat + (p % 2 ^ 56).toNat)
    let diff := decide ((x.acc[ix2 d].toNat : Int) < p % 2 ^ 56)
    exec (.mpy e d sel mv) s = .next (paNext s e mv (accResult x d p false (some false) false)) ∧
    exec (.mpyn e d sel mv) s = .next (paNext s e mv (accResult x d (-p) false (some false) false)) ∧
    exec (.mac e d sel mv) s = .next (paNext s e mv (accSat x d (q + p) (some sum))) ∧
    exec (.macn e d sel mv) s = .next (paNext s e mv (accSat x d (q - p) (some diff))) ∧
    exec (.macr e d sel mv) s = .next (paNext s e mv (accSat x d (rnd (q + p) 24 * 2 ^ 24) (some sum))) ∧
    exec (.macnr e d sel mv) s = .next (paNext s e mv (accSat x d (rnd (q - p) 24 * 2 ^ 24) (some diff)))

/-- R94, R95: the arithmetic operations that saturate, and CMP, with their moves. -/
def Obligations.SaturatingOperations : Prop :=
  ∀ (s : State) (e : Eng) (d : BitVec 2) (sel : BitVec 4) (mv : Moves) (r : Sys2Proof.Acc), Ready s e → movesOk mv = true →
    srcOf (engIn s e) sel = some r →
    let x := engIn s e
    let q : Int := x.acc[ix2 d].toInt
    let sum := decide (2 ^ 56 ≤ x.acc[ix2 d].toNat + r.toNat)
    let diff := decide (x.acc[ix2 d].toNat < r.toNat)
    exec (.add e d sel mv) s = .next (paNext s e mv (accSat x d (q + r.toInt) (some sum))) ∧
    exec (.sub e d sel mv) s = .next (paNext s e mv (accSat x d (q - r.toInt) (some diff))) ∧
    exec (.cmp e d sel mv) s = .next (paNext s e mv
      { x with fn := decide (q < r.toInt), fz := decide (q = r.toInt), fv := decide (clamp56 (q - r.toInt) ≠ q - r.toInt),
               fc := diff }) ∧
    exec (.neg e d sel mv) s = .next (paNext s e mv (accSat x d (-r.toInt) none)) ∧
    exec (.abs e d sel mv) s = .next (paNext s e mv (accSat x d |r.toInt| none)) ∧
    exec (.rnd e d sel mv) s = .next (paNext s e mv (accSat x d (rnd r.toInt 24 * 2 ^ 24) none)) ∧
    exec (.asl e d sel mv) s = .next (paNext s e mv (accSat x d (r.toInt * 2) (some r.msb))) ∧
    exec (.lim e d sel mv) s = .next (paNext s e mv
      (let w := rnd r.toInt 24
       let clip := decide (clamp24 w ≠ w)
       accResult x d (clamp24 w * 2 ^ 24) clip none clip))

/-- R94, R95: the operations on bit patterns and the moves between accumulators, with their moves. R94, R95: PMOV and CLR,
with their moves; NOP (R88). -/
def Obligations.BitOperationsAndMoves : Prop :=
  (∀ (s : State) (e : Eng) (d : BitVec 2) (sel : BitVec 4) (mv : Moves) (r : Sys2Proof.Acc), Ready s e → movesOk mv = true →
    srcOf (engIn s e) sel = some r →
    let x := engIn s e
    let q := x.acc[ix2 d]
    let put (v : Sys2Proof.Acc) (c : Option Bool) := accResult x d v.toInt false c false
    exec (.mova e d sel mv) s = .next (paNext s e mv (put r none)) ∧
    exec (.and e d sel mv) s = .next (paNext s e mv (put (q &&& r) none)) ∧
    exec (.or e d sel mv) s = .next (paNext s e mv (put (q ||| r) none)) ∧
    exec (.xor e d sel mv) s = .next (paNext s e mv (put (q ^^^ r) none)) ∧
    exec (.not e d sel mv) s = .next (paNext s e mv (put (~~~ r) none)) ∧
    exec (.asr e d sel mv) s = .next (paNext s e mv (put (r.sshiftRight 1) (some (r.getLsbD 0)))) ∧
    exec (.lsr e d sel mv) s = .next (paNext s e mv (put (r >>> 1) (some (r.getLsbD 0)))) ∧
    exec (.max e d sel mv) s = .next (paNext s e mv
      (put (if q.toInt < r.toInt then r else q) (some (decide (q.toInt < r.toInt))))) ∧
    exec (.min e d sel mv) s = .next (paNext s e mv
      (put (if r.toInt < q.toInt then r else q) (some (decide (r.toInt < q.toInt)))))) ∧
  (∀ (s : State) (e : Eng) (d : BitVec 2) (mv : Moves), Ready s e →
    let x := engIn s e
    exec (.nop e) s = .next (moveOn s e x []) ∧
    (movesOk mv = true →
      exec (.pmov e d 0 mv) s = .next (paNext s e mv x) ∧
      exec (.clr e d 0 mv) s = .next (paNext s e mv
        { x with acc := vset x.acc (ix2 d) 0, fn := false, fz := true, fv := false })))

/-- R97: the searches: the comparison is strict, IX takes the word's address with bit 12 for Y memory; a search whose move
is not a load is illegal. -/
def Obligations.Searches : Prop :=
  (∀ (s : State) (e : Eng) (d : BitVec 2) (y : Bool) (mv : Moves), Ready s e → movesOk mv = true →
    (if y then mv.yk else mv.xk) = 1 →
    let x := engIn s e
    let sel : BitVec 4 := if y then 1 else 0
    let a := if y then (dataAddr x (yPtr mv) mv.ym).1 else (dataAddr x (xPtr mv) mv.xm).1
    let w : Int := (memGet x y a).toInt * 2 ^ 24
    let q : Int := x.acc[ix2 d].toInt
    let found (v : Int) (hit : Prop) [Decidable hit] : Engine :=
      if hit then { x with acc := vset x.acc (ix2 d) (BitVec.ofInt 56 v), fc := true,
                           ix := BitVec.ofNat 16 ((if y then 4096 else 0) + a.toNat) }
      else { x with fc := false }
    exec (.maxi e d sel mv) s = .next (paNext s e mv (found w (q < w))) ∧
    exec (.mini e d sel mv) s = .next (paNext s e mv (found w (w < q))) ∧
    exec (.maxai e d sel mv) s = .next (paNext s e mv (found |w| (q < |w|)))) ∧
  (∀ (s : State) (e : Eng) (d : BitVec 2) (sel : BitVec 4) (mv : Moves), engMay s e = true →
    (if sel.getLsbD 0 then mv.yk else mv.xk) ≠ 1 →
    let illegal : Out := .next (settle (engFault e 3 (atIssue s e)))
    exec (.maxi e d sel mv) s = illegal ∧ exec (.mini e d sel mv) s = illegal ∧ exec (.maxai e d sel mv) s = illegal)

/-- R63: convergent rounding: the nearest multiple, and the even one of two equally near. -/
def Obligations.ConvergentRounding : Prop :=
  ∀ (x : Int) (k : Nat), rnd x 0 = x ∧
    (0 < k → 2 * |x - rnd x k * 2 ^ k| ≤ 2 ^ k ∧ (2 * |x - rnd x k * 2 ^ k| = 2 ^ k → rnd x k % 2 = 0))

/-- R67, R70: modulo addressing: with length 0 the address wraps over the whole memory; otherwise it stays in the buffer,
and moves there by `m` modulo the length. R66: the addressing modes: the address used and the pointer afterwards. -/
def Obligations.Addressing : Prop :=
  ((∀ (l p : BitVec 12) (m : Int), l = 0 → ((advance l p m).toNat : Int) = (p.toNat + m) % 4096) ∧
  (∀ (l p : BitVec 12) (m : Int) (k : Nat), l ≠ 0 → l.toNat ≤ 2 ^ k → (∀ j, l.toNat ≤ 2 ^ j → k ≤ j) →
    let base := p.toNat / 2 ^ k * 2 ^ k
    ((advance l p m).toNat : Int) = base + ((p.toNat - base : Int) + m) % l.toNat) ∧
  (∀ (x : Engine) (k : Fin 4) (m : Int),
    (x.dlen[k] = 0 → ((dadvance x k m).toNat : Int) = (x.dp[k].toNat + m) % 2 ^ 21) ∧
    (x.dlen[k] ≠ 0 → x.dbas[k].toNat + x.dlen[k].toNat ≤ 2 ^ 21 →
      ((dadvance x k m).toNat : Int) = x.dbas[k].toNat + ((x.dp[k].toNat - x.dbas[k].toNat : Int) + m) % x.dlen[k].toNat))) ∧
  (∀ (x : Engine) (n : Fin 8),
    let p := x.p[n]
    dataAddr x n 0 = (p, p) ∧ dataAddr x n 1 = (p, advance x.l[n] p 1) ∧ dataAddr x n 2 = (p, advance x.l[n] p (-1)) ∧
    dataAddr x n 3 = (p, advance x.l[n] p x.m[n].toInt) ∧
    dataAddr x n 4 = (advance x.l[n] p (x.ixAg.extractLsb' 0 12).toInt, p) ∧
    dataAddr x n 5 = (advance x.l[n] p x.m[n].toInt, p) ∧ dataAddr x n 6 = (p, bitrevStep p x.m[n]))

/-- R99-R102, R105: register moves, immediate loads and the immediate add. R100, R101: what a register move writes: an
accumulator copied exactly, or narrowed, or written in accumulator form, and SR's six flags. -/
def Obligations.RegisterMovesAndImmediates : Prop :=
  (∀ (s : State) (e : Eng), Ready s e →
    let x := engIn s e
    (∀ dst src : BitVec 6, regOk dst = true → regOk src = true →
      exec (.mov e dst src) s = .next (moveOn s e (regMove x dst src) [])) ∧
    (∀ (r : BitVec 2) (imm : BitVec 24),
      exec (.ldx e r imm) s = .next (moveOn s e { x with opr := vset x.opr (ix2 r) imm } []) ∧
      exec (.lda e r imm) s = .next (moveOn s e { x with acc := vset x.acc (ix2 r) (BitVec.ofInt 56 (imm.toInt * 2 ^ 24)) } [])) ∧
    (∀ (dst : BitVec 6) (imm : BitVec 22), regOk dst = true → 4 ≤ dst.toNat →
      exec (.ldi e dst imm) s = .next (moveOn s e (regWrite x dst imm.toInt) [])) ∧
    (∀ (n : Fin 8) (imm : BitVec 21),
      exec (.addi e (BitVec.ofNat 6 (8 + n.val)) imm) s =
        .next (moveOn s e { x with p := vset x.p n (advance x.l[n] x.p[n] imm.toInt) } []) ∧
      exec (.addi e (BitVec.ofNat 6 (16 + n.val)) imm) s =
        .next (moveOn s e { x with m := vset x.m n (BitVec.ofInt 12 (x.m[n].toInt + imm.toInt)) } [])) ∧
    (∀ (n : Fin 4) (imm : BitVec 21),
      exec (.addi e (BitVec.ofNat 6 (32 + n.val)) imm) s =
        .next (moveOn s e { x with dp := vset x.dp n (dadvance x n imm.toInt) } []) ∧
      exec (.addi e (BitVec.ofNat 6 (36 + n.val)) imm) s =
        .next (moveOn s e { x with dbas := vset x.dbas n (BitVec.ofInt 21 (x.dbas[n].toNat + imm.toInt)) } [])) ∧
    (∀ imm : BitVec 21,
      exec (.addi e 44 imm) s = .next (moveOn s e { x with ix := BitVec.ofInt 16 (x.ix.toNat + imm.toInt) } [])) ∧
    (∀ (dst : BitVec 6) (imm : BitVec 21), dst.toNat < 8 ∨ (24 ≤ dst.toNat ∧ dst.toNat < 32) ∨ (40 ≤ dst.toNat ∧ dst ≠ 44) →
      exec (.addi e dst imm) s = .next (settle (engFault e 3 (atIssue s e))))) ∧
  (∀ x : Engine,
    (∀ d r : Fin 4, regMove x (BitVec.ofNat 6 d.val) (BitVec.ofNat 6 r.val) = { x with acc := vset x.acc d x.acc[r] }) ∧
    (∀ d r : Fin 4,
      let w := rnd x.acc[r].toInt 24
      regMove x (BitVec.ofNat 6 (4 + d.val)) (BitVec.ofNat 6 r.val) =
        { x with opr := vset x.opr d (BitVec.ofInt 24 (clamp24 w)), fs := x.fs || decide (clamp24 w ≠ w) }) ∧
    (∀ d r : Fin 4, regMove x (BitVec.ofNat 6 d.val) (BitVec.ofNat 6 (4 + r.val)) =
      { x with acc := vset x.acc d (BitVec.ofInt 56 (x.opr[r].toInt * 2 ^ 24)) }) ∧
    (∀ (d : Fin 8) (r : Fin 4), regMove x (BitVec.ofNat 6 (16 + d.val)) (BitVec.ofNat 6 (4 + r.val)) =
      { x with m := vset x.m d (BitVec.ofInt 12 x.opr[r].toInt) }) ∧
    (∀ r : Fin 4, regMove x 46 (BitVec.ofNat 6 (4 + r.val)) =
      { x with fn := x.opr[r].getLsbD 0, fz := x.opr[r].getLsbD 1, fv := x.opr[r].getLsbD 2, fc := x.opr[r].getLsbD 3,
               fs := x.opr[r].getLsbD 4, fdv := x.opr[r].getLsbD 5 || x.dvLate }))

/-- R103: loads and stores of one word of X or Y memory at an absolute address. Sparse memories: a write is read back, it
changes no other address, and it keeps the canonical form. -/
def Obligations.DataMemory : Prop :=
  (∀ (s : State) (e : Eng) (r : Fin 4) (a : BitVec 12), Ready s e →
    let x := engIn s e
    let o : BitVec 3 := BitVec.ofNat 3 r.val
    let c : BitVec 3 := BitVec.ofNat 3 (4 + r.val)
    let w := rnd x.acc[r].toInt 24
    let v : Sample := BitVec.ofInt 24 (clamp24 w)
    let clip := x.fs || decide (clamp24 w ≠ w)
    exec (.mvx e false o a) s = .next (moveOn s e { x with opr := vset x.opr r (mget 0 x.x a.toNat) } []) ∧
    exec (.mvy e false o a) s = .next (moveOn s e { x with opr := vset x.opr r (mget 0 x.y a.toNat) } []) ∧
    exec (.mvx e false c a) s =
      .next (moveOn s e { x with acc := vset x.acc r (BitVec.ofInt 56 ((mget 0 x.x a.toNat).toInt * 2 ^ 24)) } []) ∧
    exec (.mvy e false c a) s =
      .next (moveOn s e { x with acc := vset x.acc r (BitVec.ofInt 56 ((mget 0 x.y a.toNat).toInt * 2 ^ 24)) } []) ∧
    exec (.mvx e true o a) s = .next (moveOn s e { x with x := mset 0 x.x a.toNat x.opr[r] } [(false, a)]) ∧
    exec (.mvy e true o a) s = .next (moveOn s e { x with y := mset 0 x.y a.toNat x.opr[r] } [(true, a)]) ∧
    exec (.mvx e true c a) s = .next (moveOn s e { x with x := mset 0 x.x a.toNat v, fs := clip } [(false, a)]) ∧
    exec (.mvy e true c a) s = .next (moveOn s e { x with y := mset 0 x.y a.toNat v, fs := clip } [(true, a)])) ∧
  ((∀ (m : Map Sample) (k j : Nat) (v : Sample), mwf 0 m = true →
    mget 0 (mset 0 m k v) k = v ∧ (j ≠ k → mget 0 (mset 0 m k v) j = mget 0 m j) ∧ mwf 0 (mset 0 m k v) = true) ∧
  (∀ (m : Map Word) (k j : Nat) (v : Word), mwf 0 m = true →
    mget 0 (mset 0 m k v) k = v ∧ (j ≠ k → mget 0 (mset 0 m k v) j = mget 0 m j) ∧ mwf 0 (mset 0 m k v) = true))

/-- R104: shifts by K from -32 to 31 with their carry, and the count of sign bits. -/
def Obligations.Shifts : Prop :=
  ∀ (s : State) (e : Eng) (d src : BitVec 2) (k : BitVec 6), Ready s e →
    let x := engIn s e
    let r := x.acc[ix2 src]
    let n := k.toInt
    let out : Bool := if 0 < n then r.getLsbD (56 - n.toNat) else if n < 0 then r.getLsbD ((-n).toNat - 1) else false
    (0 ≤ n → ∀ rd, exec (.ash e rd d src k) s = .next (moveOn s e (accSat x d (r.toInt * 2 ^ n.toNat) (some out)) [])) ∧
    (n < 0 → exec (.ash e false d src k) s = .next (moveOn s e (accSat x d (r.toInt / 2 ^ (-n).toNat) (some out)) [])) ∧
    (n < 0 → exec (.ash e true d src k) s = .next (moveOn s e (accSat x d (rnd r.toInt (-n).toNat) (some out)) [])) ∧
    (0 ≤ n → exec (.lsh e false d src k) s =
      .next (moveOn s e (accResult x d (r <<< n.toNat).toInt false (some out) false) [])) ∧
    (n < 0 → exec (.lsh e false d src k) s =
      .next (moveOn s e (accResult x d (r >>> (-n).toNat).toInt false (some out) false) [])) ∧
    (∃ c : Nat, c ≤ 55 ∧ (∀ i, 55 - c ≤ i → i ≤ 55 → r.getLsbD i = r.msb) ∧ (c < 55 → r.getLsbD (54 - c) ≠ r.msb) ∧
      exec (.cls e false 0 src 0) s = .next (moveOn s e { x with ix := BitVec.ofNat 16 c } []))

/-- R111: the condition codes. R79, R112: the conditional transfers: not taken they fall through; taken they change PC and their stack. -/
def Obligations.ConditionalTransfers : Prop :=
  (∀ x : Engine,
    condHolds x 0 = true ∧ condHolds x 1 = x.fz ∧ condHolds x 2 = !x.fz ∧ condHolds x 3 = x.fn ∧ condHolds x 4 = !x.fn ∧
    condHolds x 5 = (!x.fn && !x.fz) ∧ condHolds x 6 = (x.fn || x.fz) ∧ condHolds x 7 = x.fv ∧ condHolds x 8 = !x.fv ∧
    condHolds x 9 = x.fc ∧ condHolds x 10 = !x.fc ∧ condHolds x 11 = x.fs ∧ condHolds x 12 = !x.fs ∧
    condHolds x 13 = x.fdv ∧ (∀ c : BitVec 4, condOk c = true ↔ c ≠ 14 ∧ c ≠ 15)) ∧
  ∀ (s : State) (e : Eng) (c : BitVec 4) (a : BitVec 13), Ready s e → condOk c = true →
    let x := engIn s e
    let t := a + x.ixAg.extractLsb' 0 13
    (condHolds x c = false →
      exec (.bra e c a) s = .next (moveOn s e x []) ∧ exec (.call e c a) s = .next (moveOn s e x []) ∧
      exec (.ret e c) s = .next (moveOn s e x []) ∧ exec (.brx e c a) s = .next (moveOn s e x []) ∧
      exec (.exit e c) s = .next (moveOn s e x [])) ∧
    (condHolds x c = true → (e = weNum → a.toNat < 4096) →
      exec (.bra e c a) s = .next (jump s e { x with pc := a }) ∧
      (x.rets.length < 8 → exec (.call e c a) s = .next (jump s e { x with pc := a, rets := (x.pc + 1) :: x.rets }))) ∧
    (condHolds x c = true → ∀ r rs, x.rets = r :: rs → (e = weNum → r.toNat < 4096) →
      exec (.ret e c) s = .next (jump s e { x with pc := r, rets := rs })) ∧
    (condHolds x c = true → (e = weNum → t.toNat < 4096) → exec (.brx e c a) s = .next (jump s e { x with pc := t })) ∧
    (condHolds x c = true → ∀ l m ls, x.loops = l :: m :: ls → (e = weNum → l.stop.toNat + 1 < 4096) →
      exec (.exit e c) s = .next (freeTaken (jump s e { x with pc := l.stop + 1, loops := m :: ls, lc := m.count }))) ∧
    (condHolds x c = true → ∀ l, x.loops = [l] → (e = weNum → l.stop.toNat + 1 < 4096) → ∃ v,
      exec (.exit e c) s = .next (freeTaken (jump s e { x with pc := l.stop + 1, loops := [], lc := v })))

/-- R77, R110, R112: LOOP and LOOPR push a level and set LC; a count of 0 skips the body. R78: at the end address of the
innermost level the loop continues at its start, or is popped; transfers and waits there are engine faults with cause 5. -/
def Obligations.Loops : Prop :=
  (∀ (s : State) (e : Eng) (stop : BitVec 13), Ready s e → (engIn s e).pc.toNat < stop.toNat →
    (∀ l ∈ (engIn s e).loops, l.stop ≠ stop) → (e = weNum → stop.toNat + 1 < 4096) →
    let x := engIn s e
    let after (n : BitVec 16) (o : Out) : Prop :=
      (n = 0 → o = .next (jump s e { x with pc := stop + 1 })) ∧
      (n ≠ 0 → x.loops = [] →
        o = .next (jump s e { x with pc := x.pc + 1, lc := n, loops := [{ start := x.pc + 1, stop := stop, count := n }] })) ∧
      (∀ l ls, n ≠ 0 → x.loops = l :: ls → x.loops.length < 4 →
        o = .next (jump s e { x with pc := x.pc + 1, lc := n, loops :=
          { start := x.pc + 1, stop := stop, count := n } :: { l with count := x.lc } :: ls }))
    (∀ count : BitVec 11, after (count.setWidth 16) (exec (.loop e count stop) s)) ∧
    (∀ n : Fin 8, after (x.p[n].setWidth 16) (exec (.loopr e (BitVec.ofNat 6 (8 + n.val)) stop) s)) ∧
    after x.ixAg (exec (.loopr e 44 stop) s)) ∧
  (∀ (s : State) (e : Eng) (l : LoopLevel) (ls : List LoopLevel), engMay s e = true → (engIn s e).loops = l :: ls →
    l.stop = (engIn s e).pc → (e = weNum → l.start.toNat < 4096 ∧ l.stop.toNat + 1 < 4096) →
    let x := engIn s e
    let five : Out := .next (settle (engFault e 5 (atIssue s e)))
    (1 < x.lc.toNat → ∃ k, exec (.nop e) s = .next { jump s e { x with pc := l.start, lc := x.lc - 1 } with freeCtr := k }) ∧
    (∀ m ms, x.lc = 1 → ls = m :: ms →
      exec (.nop e) s = .next (jump s e { x with pc := x.pc + 1, loops := m :: ms, lc := m.count })) ∧
    (x.lc = 1 → ls = [] → ∃ v,
      exec (.nop e) s = .next (freeTaken (jump s e { x with pc := x.pc + 1, loops := [], lc := v }))) ∧
    (∀ c a, condOk c = true → exec (.bra e c a) s = five ∧ exec (.call e c a) s = five ∧ exec (.ret e c) s = five ∧
      exec (.brx e c a) s = five ∧ exec (.exit e c) s = five) ∧
    exec (.waitf e) s = five ∧ (e ≠ weNum → ∀ n, exec (.waits e n) s = five))

/-- R80, R81, R108, R109: the synchronisation instructions and the increment of a semaphore. R81, R82: SIG_APPLY: an
increment takes effect; at 255 the count stays and the event is raised; of the engines that wait for the semaphore the
lowest is released with one decrement. -/
def Obligations.Semaphores : Prop :=
  (∀ (s : State) (e : Eng), Ready s e →
    let x := engIn s e
    let s1 := atIssue s e
    exec (.waitf e) s = .next (moveOn s e { x with run := .waitF, waitfDone := true } []) ∧
    (∀ n : BitVec 5, e ≠ weNum →
      let m : Fin 32 := ⟨n.toNat, n.isLt⟩
      (s1.core.sems[m] = 0 → exec (.waits e n) s = .next (moveOn s e { x with run := .waitS m } [])) ∧
      (s1.core.sems[m] ≠ 0 → exec (.waits e n) s =
        .next (modCore (moveOn s e x []) fun c => { c with sems := vset c.sems m (s1.core.sems[m] - 1) }))) ∧
    (∀ n : BitVec 5, e ≠ weNum → Quiet (getEng s e) →
      exec (.sig e n) s =
        .next (moveOn s e { x with sigq := [{ sem := ⟨n.toNat, n.isLt⟩, dAhead := 0, fAhead := 0 }] } []))) ∧
  (∀ (s : State) (e : Eng) (g : SigReq), s.resetHeld = false → s.arb.coreRun = true → e ≠ weNum →
    (getEng s e).sigq = [g] → g.dAhead = 0 → g.fAhead = 0 →
    let s1 := setEng s e { getEng s e with sigq := [] }
    let n := g.sem
    ((∀ i : Fin 25, s.core.eng[i].run ≠ .waitS n) → s.core.sems[n] ≠ 255 →
      exec (.sigApply e) s =
        .next (settle (modCore s1 fun c => { c with sems := vset c.sems n (s.core.sems[n] + 1) }))) ∧
    ((∀ i : Fin 25, s.core.eng[i].run ≠ .waitS n) → s.core.sems[n] = 255 →
      exec (.sigApply e) s = .next (settle (raiseLimited 20 0 n.val none s1))) ∧
    (∀ i : Fin 25, s1.core.eng[i].run = .waitS n → (∀ j : Fin 25, j ≠ i → s1.core.eng[j].run ≠ .waitS n) →
      s.core.sems[n] = 0 →
      exec (.sigApply e) s = .next (settle (modCore s1 fun c =>
        { c with sems := vset c.sems n 0, eng := vmod c.eng i fun y => { y with run := .running } }))))

/-- R83, R128: an illegal instruction, an illegal field or an instruction that the engine does not have halts the engine
before it commits. R79, R77, R113: the faults of the stacks. R121, R122, R128: SYS on an engine other than SV halts it with
cause 4; RA or IMM that a function does not allow halt it with cause 3 or 1. -/
def Obligations.InstructionFaults : Prop :=
  (∀ (s : State) (e : Eng), engMay s e = true →
    let halt (n : Nat) : Out := .next (settle (engFault e n (atIssue s e)))
    (∀ w c, illegalCause e w = some c → exec (.illegalInstruction e w) s = halt c) ∧
    (∀ d sel mv, 10 ≤ sel.toNat ∨ movesOk mv = false →
      exec (.mpy e d sel mv) s = halt 3 ∧ exec (.mpyn e d sel mv) s = halt 3 ∧ exec (.mac e d sel mv) s = halt 3 ∧
      exec (.macn e d sel mv) s = halt 3 ∧ exec (.macr e d sel mv) s = halt 3 ∧ exec (.macnr e d sel mv) s = halt 3) ∧
    (∀ d sel mv, 8 ≤ sel.toNat ∨ movesOk mv = false →
      exec (.add e d sel mv) s = halt 3 ∧ exec (.sub e d sel mv) s = halt 3 ∧ exec (.cmp e d sel mv) s = halt 3 ∧
      exec (.mova e d sel mv) s = halt 3 ∧ exec (.lim e d sel mv) s = halt 3 ∧ exec (.max e d sel mv) s = halt 3) ∧
    (∀ d sel mv, sel ≠ 0 ∨ movesOk mv = false → exec (.pmov e d sel mv) s = halt 3 ∧ exec (.clr e d sel mv) s = halt 3) ∧
    (∀ dst src, regOk dst = false ∨ regOk src = false → exec (.mov e dst src) s = halt 3) ∧
    (∀ dst imm, dst.toNat < 4 ∨ regOk dst = false → exec (.ldi e dst imm) s = halt 3) ∧
    (∀ dst imm, dst.toNat < 8 ∨ (24 ≤ dst.toNat ∧ dst.toNat < 32) ∨ (40 ≤ dst.toNat ∧ dst.toNat ≠ 44) →
      exec (.addi e dst imm) s = halt 3) ∧
    (∀ d src k, exec (.lsh e true d src k) s = halt 3 ∧
      (d ≠ 0 ∨ k ≠ 0 → exec (.cls e false d src k) s = halt 3)) ∧
    (∀ c a, condOk c = false → exec (.bra e c a) s = halt 3 ∧ exec (.call e c a) s = halt 3 ∧ exec (.ret e c) s = halt 3 ∧
      exec (.exit e c) s = halt 3 ∧ exec (.brx e c a) s = halt 3) ∧
    (∀ n stop, stop.toNat ≤ (engIn s e).pc.toNat → exec (.loop e n stop) s = halt 3) ∧
    (∀ n, e = weNum → exec (.sig e n) s = halt 4 ∧ exec (.waits e n) s = halt 4)) ∧
  (∀ (s : State) (e : Eng), engMay s e = true → atLoopEnd (engIn s e) = false →
    let x := engIn s e
    let halt (n : Nat) : Out := .next (settle (engFault e n (atIssue s e)))
    (∀ c a, condOk c = true → condHolds x c = true →
      (8 ≤ x.rets.length → exec (.call e c a) s = halt 8) ∧ (x.rets = [] → exec (.ret e c) s = halt 9) ∧
      (x.loops = [] → exec (.exit e c) s = halt 7)) ∧
    (∀ (n : BitVec 11) (stop : BitVec 13), x.pc.toNat < stop.toNat → (∀ l ∈ x.loops, l.stop ≠ stop) → n ≠ 0 →
      4 ≤ x.loops.length → exec (.loop e n stop) s = halt 6)) ∧
  (∀ (s : State) (e : Eng), engMay s e = true →
    let halt (n : Nat) : Out := .next (settle (engFault e n (atIssue s e)))
    (e ≠ sv →
      exec (.wdog e 0 0) s = halt 4 ∧ exec (.rdframe e 4 0) s = halt 4 ∧ exec (.rsaddr e 0 0) s = halt 4 ∧
      exec (.plend e 0 0) s = halt 4 ∧ exec (.pexit e 0 0) s = halt 4 ∧ exec (.pload e 0 0) s = halt 4) ∧
    (∀ (ra : BitVec 3) (imm : BitVec 16), imm ≠ 0 → exec (.wdog e ra imm) s = halt 1 ∧ exec (.rdframe e ra imm) s = halt 1) ∧
    (∀ ra : BitVec 3, ra ≠ 0 → exec (.wdog e ra 0) s = halt 3) ∧
    (∀ ra : BitVec 3, ra.toNat < 4 → exec (.rdframe e ra 0) s = halt 3))

/-- R83, R132: what an engine fault does: the engine stands halted; of the core the event names engine, cause, PC and die; a
fault of SV ends the control program; a fault of WE ends wake detection, and a candidate that it reports. -/
def Obligations.EngineFaults : Prop :=
  ∀ (s : State) (e : Eng) (c : Nat),
    let x := getEng s e
    let s1 := setEng s e { x with run := .halted }
    (e.val < 24 → engFault e c s =
      raiseEv 17 (e.val + 32 * c + 512 * x.pc.toNat + (if s.arb.active = .b then 2 ^ 22 else 0)) s1) ∧
    (e = weNum → engFault e c s = raiseEv 106 c (endCandidate (modWake s1 fun w => { w with wflt := true }))) ∧
    (e = sv → s.core.prog = .control →
      (engFault e c s).core.svStop = true ∧ (getEng (engFault e c s) sv).run = .halted ∧
      (engFault e c s).core.load = {} ∧
      ∀ i : Fin 25, i.val < 24 → (engRuns s.core.eng[i] = true → (engFault e c s).core.eng[i].run = .stopped) ∧
        (s.core.eng[i].run = .halted → (engFault e c s).core.eng[i] = s.core.eng[i]))

/-- R71, R119, R127: DLR and DLW: the address and DPk, the window check, the request queued; outside the window DV is set
and the event raised, a read returns 0 and a write is discarded. R117, R118, R141: FRD and FWR: the sample index, the
request queued; a failed access returns 0 or is discarded and raises the fabric-access event, or in degraded mode is an
ignored item (R47). -/
def Obligations.DelayAndFabricAccess : Prop :=
  (∀ (s : State) (e : Eng) (loc : BitVec 3) (pq k dm : BitVec 2) (ofs : BitVec 16), Ready s e → Quiet (getEng s e) →
    dlyOk loc pq dm = true →
    let x := getEng s e
    let k' := ix2 k
    let a := if dm = 1 then x.dp[k'] else dadvance x k' ofs.toInt
    let p := if dm = 0 then x.dp[k'] else dadvance x k' ofs.toInt
    let y := { locAdvance x loc pq with dp := vset x.dp k' p, pc := x.pc + 1, ixAg := x.ix, dvLate := false }
    let z := { y with fdv := true, dvLate := (freeVal s).getLsbD 32 }
    let dst := locOf x loc pq
    let v := locDelay x dst
    let event (t : State) := raiseLimited 18 (e.val + (if t.arb.active = .b then 32 else 0)) e.val none t
    let inside := x.winBase ≤ a.toNat ∧ a.toNat < x.winBase + x.winLen
    let scan := 0x1FFF80 ≤ a.toNat
    (e = weNum ∨ scan ∨ inside → exec (.dlr e loc pq k dm ofs) s = .next (setEng s e { y with dq := [.read a dst] })) ∧
    (e ≠ weNum → ¬ scan → ¬ inside → exec (.dlr e loc pq k dm ofs) s =
      .next (settle (event (setEng (freeTaken s) e { z with dq := [.zero dst] })))) ∧
    (e ≠ weNum → ¬ scan → inside → exec (.dlw e loc pq k dm ofs) s =
      .next (setEng s e { y with dq := [.write a v.1], fs := x.fs || v.2 })) ∧
    (e ≠ weNum → scan ∨ ¬ inside → exec (.dlw e loc pq k dm ofs) s =
      .next (settle (event (setEng (freeTaken s) e { z with fs := x.fs || v.2 })))) ∧
    (e = weNum → exec (.dlw e loc pq k dm ofs) s = .next (setEng (freeTaken s) e { z with fs := x.fs || v.2 }))) ∧
  (∀ (s : State) (e : Eng) (loc : BitVec 3) (pq : BitVec 2) (ixa : Bool) (slot : BitVec 10) (idx : BitVec 8), Ready s e →
    Quiet (getEng s e) → fabOk loc pq ixa slot = true → e ≠ weNum →
    let x := getEng s e
    let j := if loc = 4 ∨ loc = 5 then (x.p[locPtr loc pq].toNat + idx.toNat) % 256
      else if ixa then (x.ixAg.toNat + idx.toNat) % 256 else idx.toNat
    let y := { locAdvance x loc pq with pc := x.pc + 1, ixAg := x.ix, dvLate := false }
    let dst := locOf x loc pq
    let v := locSample x dst
    let n := slot.toNat
    let there := slotProvided s.core.fab n = true ∧ j < slotLen s.core.fab n
    let event (t : State) := raiseLimited 19 (e.val + (if t.arb.active = .b then 32 else 0)) e.val none t
    let down := s.clk.degraded = true ∧ 512 ≤ n
    (¬ down → there → isControlSlot n = false →
      exec (.frd e loc pq ixa slot idx) s = .next (setEng s e { y with fq := [.read n j dst] })) ∧
    (¬ down → ¬ there ∨ isControlSlot n = true →
      exec (.frd e loc pq ixa slot idx) s = .next (settle (event (setEng s e { y with fq := [.zero dst] })))) ∧
    (down → exec (.frd e loc pq ixa slot idx) s = .next (settle (ignoreCore 15 0 (setEng s e { y with fq := [.zero dst] })))) ∧
    (¬ down → there → slotWritable e n = true →
      exec (.fwr e loc pq ixa slot idx) s = .next (setEng s e { y with fq := [.write n j v.1], fs := x.fs || v.2 })) ∧
    (¬ down → ¬ there ∨ slotWritable e n = false →
      exec (.fwr e loc pq ixa slot idx) s = .next (settle (event (setEng s e { y with fs := x.fs || v.2 })))) ∧
    (down → exec (.fwr e loc pq ixa slot idx) s =
      .next (settle (ignoreCore 15 0 (setEng s e { y with fs := x.fs || v.2 })))))

/-- R65, R72, R116, R120, R123: the oldest request of an engine completes: a word read reaches its register, a word written
the delay SRAM or the fabric, a SYS result RA and C. -/
def Obligations.AccessResults : Prop :=
  ∀ (s : State) (e : Eng), s.resetHeld = false →
    let x := getEng s e
    let after (dly : Bool) := x.sigq.map (sigAhead dly)
    (∀ a i ds, x.dq = .read a (.opr i) :: ds → e ≠ weNum →
      exec (.dlrResult e) s = .next (settle (setEng s e { x with
        dq := ds, sigq := after true
        opr := vset x.opr i (BitVec.ofInt 24 (clamp24 (Machine.rnd (mget 0 s.core.sram a.toNat).toInt 8)))
        fs := x.fs || decide (clamp24 (Machine.rnd (mget 0 s.core.sram a.toNat).toInt 8) ≠
          Machine.rnd (mget 0 s.core.sram a.toNat).toInt 8) }))) ∧
    (∀ a i ds, x.dq = .read a (.acc i) :: ds → e ≠ weNum →
      exec (.dlrResult e) s = .next (settle (setEng s e { x with
        dq := ds, sigq := after true
        acc := vset x.acc i (BitVec.ofInt 56 ((mget 0 s.core.sram a.toNat).toInt * 2 ^ 16)) }))) ∧
    (∀ i ds, x.dq = .zero (.acc i) :: ds →
      exec (.dlrResult e) s = .next (settle (setEng s e { x with dq := ds, sigq := after true, acc := vset x.acc i 0 }))) ∧
    (∀ a w ds, x.dq = .write a w :: ds → s.arb.stbyUp = false →
      exec (.dlrResult e) s = .next (settle (modCore (setEng s e { x with dq := ds, sigq := after true })
        fun c => { c with sram := mset 0 c.sram a.toNat w }))) ∧
    (∀ slot j i fs, x.fq = .read slot j (.opr i) :: fs → e ≠ weNum →
      exec (.frdResult e) s = .next (settle (setEng s e { x with
        fq := fs, sigq := after false, opr := vset x.opr i (slotSample s slot j) }))) ∧
    (∀ slot j i fs, x.fq = .read slot j (.acc i) :: fs → e ≠ weNum →
      exec (.frdResult e) s = .next (settle (setEng s e { x with
        fq := fs, sigq := after false, acc := vset x.acc i (BitVec.ofInt 56 ((slotSample s slot j).toInt * 2 ^ 24)) }))) ∧
    (∀ slot j v fs, x.fq = .write slot j v :: fs → e ≠ weNum →
      exec (.frdResult e) s = .next (settle (modFab (setEng s e { x with fq := fs, sigq := after false })
        fun f => { f with outW := mset 0 f.outW (slot * 256 + j) v }))) ∧
    (∀ r rs v, (getEng s sv).sysq = r :: rs → r.val = some v → 4 ≤ r.ra.toNat →
      let y := getEng s sv
      exec .sysResult s = .next (settle (setEng s sv { y with
        sysq := rs, fc := r.c, acc := vset y.acc ⟨r.ra.toNat % 4, Nat.mod_lt _ (by decide)⟩ v })))

/-- R121-R124: the SYS functions of the watchdog, the times and the host queues. R44, R122, R126, R309, R328: the SYS
functions of the power manager and of the microphones. -/
def Obligations.SysQueries : Prop :=
  (∀ (s : State) (r : Fin 4), Ready s sv →
    let x := engIn s sv
    let t := atIssue s sv
    let ra : BitVec 3 := BitVec.ofNat 3 (4 + r.val)
    exec (.wdog sv 0 0) s = .next (settle (sysNext true 0 none false
      (modPm (modCore t fun c => { c with wdog := 0 }) fun p => { p with wdogSince := true }))) ∧
    exec (.rdframe sv ra 0) s = .next (settle (sysNext true ra (some (t.time.frame.setWidth 56)) false t)) ∧
    exec (.rdtime sv ra 0) s = .next (settle (sysNext false ra (some (t.time.sec.setWidth 41 ++ t.time.sub)) false t)) ∧
    (∀ h, headEnt t = some h →
      exec (.cmdhead sv ra 0) s = .next (settle (sysNext false ra
        (some (BitVec.ofNat 56 ((h.words.getD 0 0).toNat + 2 ^ 32 * (hostIx h.host).val + 2 ^ 34 * hdrNw (h.words.getD 0 0)))) false
        (modHosts (modCore t fun c => { c with cmdSeen := true }) fun q => { q with head := some h.id }))) ∧
      (∀ (n : Fin 64) w, h.words[n.val]? = some w →
        exec (.cmdword sv ra (BitVec.ofNat 16 n.val)) s = .next (settle (sysNext false ra (some (w.setWidth 56)) false t))) ∧
      (∀ rc : BitVec 8, t.core.cmdSeen = true →
        exec (.cmddone sv ra (rc.setWidth 16)) s = .next (settle (sysNext false ra none false
          (deferDone h rc (x.acc[r].setWidth 32) t))))) ∧
    (headEnt t = none →
      exec (.cmdhead sv ra 0) s = .next (settle (sysNext false ra (some 0) true (ignoreCore 12 4 t))) ∧
      exec (.cmdword sv ra 0) s = .next (settle (sysNext false ra none true (ignoreCore 12 5 t))) ∧
      exec (.cmddone sv ra 0) s = .next (settle (sysNext false ra none true (ignoreCore 12 6 t))))) ∧
  (∀ (s : State) (r : Fin 4), Ready s sv →
    let x := engIn s sv
    let t := atIssue s sv
    let ra : BitVec 3 := BitVec.ofNat 3 (4 + r.val)
    let ok (o : Out) (u : State) (ra : BitVec 3) := o = .next (settle (sysNext false ra none false u))
    (∀ n : Fin 3, t.pm.set = none → t.pm.req = none →
      ok (exec (.pwrreq sv 0 (BitVec.ofNat 16 n.val)) s) (modPm t fun p => { p with req := some (BitVec.ofNat 2 n.val) }) 0) ∧
    exec (.pmstat sv ra 0) s = .next (settle (sysNext false ra (some ((pmAbort t).setWidth 56)) false t)) ∧
    exec (.stgstat sv ra 0) s = .next (settle (sysNext false ra (some ((pmStage t).setWidth 56)) false t)) ∧
    (∀ (kind d : BitVec 4) (ra : BitVec 3) (u : State), stageAccept kind.toNat (raVal x ra) (d.toNat + 1) t = some u →
      ok (exec (.stage sv ra (kind.setWidth 8 ++ d.setWidth 8)) s) u ra) ∧
    (∀ (q : Fin 4) (rate : BitVec 2), ok (exec (.pdmrate sv 0 (BitVec.ofNat 16 (q.val + 4 * rate.toNat))) s) (setRate q rate t) 0))

/-- R124, R125, R382, R401, R419: the SYS functions whose effect waits for the frame's state copy, and RSADDR with RSRD. -/
def Obligations.SysDeferredEffects : Prop :=
  ∀ (s : State) (r : Fin 4), Ready s sv →
    let x := engIn s sv
    let t := atIssue s sv
    let ra : BitVec 3 := BitVec.ofNat 3 (4 + r.val)
    let low := x.acc[r].setWidth 32
    let later (eff : DefEff) (u : State) := modHosts u fun h => { h with defNow := h.defNow ++ [{ frame := t.time.frame, eff := eff }] }
    let ok (o : Out) (u : State) (ra : BitVec 3) := o = .next (settle (sysNext false ra none false u))
    (∀ (n : Fin 8) (ra : BitVec 3), ok (exec (.evraise sv ra (BitVec.ofNat 16 (24 + n.val))) s)
      (later (.evRaise (24 + n.val) (raVal x ra)) t) ra) ∧
    (∀ i : BitVec 8, ok (exec (.resopen sv 0 (i.setWidth 16)) s) (later (.resOpen i) t) 0) ∧
    (∀ i : BitVec 8, ok (exec (.respub sv 0 (i.setWidth 16)) s) (later (.resPub i) t) 0) ∧
    (∀ (i : BitVec 8) (n : Fin 32), ok (exec (.reswr sv ra (i ++ BitVec.ofNat 8 n.val)) s) (later (.resWr i n.val low) t) ra) ∧
    (∀ n : BitVec 4, ok (exec (.wakeclr sv 0 (n.setWidth 16)) s) (later (.wakeClr n) t) 0) ∧
    (∀ ra : BitVec 3, exec (.rsaddr sv ra 0) s =
      .next (settle (sysNext true ra none false (modCore t fun c => { c with rsa := raVal x ra })))) ∧
    (storeUp t = true →
      (rsrdOk t.core.rsa.toNat = true → exec (.rsrd sv ra 0) s = .next (settle (sysNext false ra
        (some ((rsSeen t t.core.rsa.toNat).setWidth 56)) false
        (modCore (if rsErr t t.core.rsa.toNat 1 then freeTaken t else t) fun c => { c with rsa := c.rsa + 1 })))) ∧
      (rswrOk t.core.rsa.toNat = true → ok (exec (.rswr sv ra 0) s)
        (modCore (later (.rsWr t.core.rsa.toNat low) t) fun c => { c with rsa := c.rsa + 1 }) ra) ∧
      (saveBusy t = false → ok (exec (.cfgsave sv 0 0) s)
        (later .cfgSave (modRet t fun q => { q with save := { q.save with held := true } })) 0))

/-- R129-R133: the SYS functions that load, start and stop programs. -/
def Obligations.SysLoads : Prop :=
  ∀ (s : State) (r : Fin 4), Ready s sv →
    let t := atIssue s sv
    let ra : BitVec 3 := BitVec.ofNat 3 (4 + r.val)
    let ok (o : Out) (u : State) := o = .next (settle (sysNext false 0 none false u))
    let word (n : Nat) : BitVec 16 := BitVec.ofNat 16 n
    (∀ n : BitVec 8, t.core.prog = .resident → loadOpen t = false → t.core.svStart = false →
      ok (exec (.plbegin sv 0 (n.setWidth 16)) s) (modCore t fun c => { c with load := { step := 1, set := n } })) ∧
    (∀ n : Fin 32, ∀ u, pLoad n.val t = some u → ok (exec (.pload sv 0 (word n.val)) s) u) ∧
    (∀ u, plEnd t = some u → ok (exec (.plend sv 0 0) s) u) ∧
    (∀ n : Fin 32, ∀ u, pStart n.val t = some u → ok (exec (.pstart sv 0 (word n.val)) s) u) ∧
    (∀ n : Fin 32, t.core.prog = .control → n.val < 24 → engRuns (getEng t (engOf n.val)) = true →
      ok (exec (.pstop sv 0 (word n.val)) s) (modEng t (engOf n.val) fun y => { y with run := .stopped })) ∧
    (t.core.prog = .control →
      ok (exec (.pexit sv 0 0) s) (modEng (stopControl t) sv fun y => { y with run := .stopped })) ∧
    exec (.plstat sv ra 0) s = .next (settle (sysNext false ra (some ((loadStatus t).setWidth 56)) false t))

/-- R40, R42, R46: the clock monitors: each failure and each return changes its bit, and a failure is logged by EV3. R47: a
failed fabric PLL of the active core with no standby: the links are muted and frames resume from KF in the degraded mode: F
is 48, the fabric runs at 48 kHz, and the TDM ports are off. R20: a converter link that carries valid words loses them, once. -/
def Obligations.ClockMonitors : Prop :=
  (∀ s : State, s.resetHeld = false →
    (s.clk.ck32Ok = true →
      Does .ck32Failure s (raiseEv 3 0 { s with clk := { s.clk with ck32Ok := false, holdover := true } })) ∧
    (s.clk.ck32Ok = false → Does .ck32Failure s s) ∧
    Does .ck32Return s { s with clk := { s.clk with ck32Ok := true, holdover := false, internal := false } } ∧
    (s.clk.ck32Ok = false → s.clk.holdover = false →
      Does .ck32StartTimeout s { s with clk := { s.clk with internal := true } }) ∧
    (s.clk.ck32Ok = true ∨ s.clk.holdover = true → Does .ck32StartTimeout s s) ∧
    (s.clk.kfLock = true → Does .kfLockLoss s (raiseEv 3 1 { s with clk := { s.clk with kfLock := false } })) ∧
    (s.clk.ck32Ok = true ∨ s.clk.holdover = true ∨ s.clk.internal = true →
      Does .kfLock s (bootDawn { s with clk := { s.clk with kfLock := true } }) ∧
      (s.pm.st ≠ 3 → Does .kfLock s { s with clk := { s.clk with kfLock := true } })) ∧
    (s.clk.sadcLock = true → Does .sadcLockLoss s (raiseEv 3 8
      { s with clk := { s.clk with sadcLock := false }
               sadc := { s.sadc with s0 := { s.sadc.s0 with bad := true }, s1 := { s.sadc.s1 with bad := true } } })) ∧
    (domOn s 11 = true → Does .sadcLock s { s with clk := { s.clk with sadcLock := true } }) ∧
    (∀ x : Side, s.clk.el[sideIx x] = true → Does (.engineClockLoss x) s
      (raiseEv 3 (6 + (sideIx x).val) { s with clk := { s.clk with el := vset s.clk.el (sideIx x) false } })) ∧
    (∀ x : Side, s.arb.active = x → s.arb.coreRun = false → s.pm.dawn = none →
      (s.clk.xo[sideIx x] = true → Does (.crystalPllFailure x false) s
        (raiseEv 3 (2 + (sideIx x).val) { s with clk := { s.clk with xo := vset s.clk.xo (sideIx x) false } })) ∧
      (s.clk.fl[sideIx x] = true → Does (.crystalPllFailure x true) s
        (raiseEv 3 (4 + (sideIx x).val) { s with clk := { s.clk with fl := vset s.clk.fl (sideIx x) false } }))) ∧
    (∀ x : Side, s.arb.active ≠ x → s.arb.stbyUp = true → s.pm.dawn = none → s.clk.xo[sideIx x] = true → ∃ t,
      Does (.crystalPllFailure x false) s t ∧ t.arb.stbyUp = false ∧ t.arb.active = s.arb.active ∧ domOn t (coreDom x) = false) ∧
    (s.conv.linkOk = false → Does .converterLinkLoss s s) ∧
    (s.conv.linkOk = true → ∃ t, Does .converterLinkLoss s t ∧ t.conv = { s.conv with linkOk := false } ∧
      t.core.fab.outB.filter (fun p => 6 ≤ p.1) = s.core.fab.outB.filter (fun p => 6 ≤ p.1))) ∧
  (∀ (s : State) (x : Side), s.resetHeld = false → s.arb.active = x → s.arb.coreRun = true → s.arb.stbyUp = false →
    s.clk.fl[sideIx x] = true →
    ∃ t, exec (.crystalPllFailure x true) s = .next t ∧ t.clk.degraded = true ∧ t.core.fab.f = .f48 ∧
      t.core.fab.r96 = false ∧ (∀ p : Fin 4, t.core.fab.tdm[p].st = 0) ∧ t.clk.fl[sideIx x] = true ∧
      t.clk.el[sideIx x] = true ∧ t.conv.linkOk = false)

/-- R287, R288, R316: the feed monitors. R287: with the last feed lost the device stops, and starts again from reset. -/
def Obligations.FeedMonitors : Prop :=
  (∀ (s : State) (x : Side), s.resetHeld = false →
    let i := sideIx x
    let put (f : Feed → Feed) : State := { s with feeds := vmod s.feeds i f }
    Does (.feedLow x) s (put fun f => { f with low := true }) ∧
    Does (.feedLowClear x) s (put fun f => { f with low := false }) ∧
    (s.feeds[i].ok = false → s.feeds[i].ov = false → DoesWake (.feedPresent x) s (feedUp x s) ∧
      (feedUp x s).feeds[i].ok = true ∧ (s.pm.st = 2 → (feedUp x s).pm.fret = true)) ∧
    (s.feeds[i].ok = true →
      DoesWake (.feedLoss x) s (feedGone x (raiseEv 0 i.val (put fun f => { f with ok := false, lost := true })))) ∧
    (s.feeds[i].ok = false → DoesWake (.feedLoss x) s (raiseEv 0 i.val (put fun f => { f with ok := false, lost := true }))) ∧
    (s.feeds[i].ov = false → s.feeds[i].ok = false →
      DoesWake (.feedOvervoltage x) s (raiseEv 2 i.val (put fun f => { f with ok := false, ov := true }))) ∧
    (s.feeds[i].ov = false → s.feeds[i].ok = true →
      DoesWake (.feedOvervoltage x) s (feedGone x (raiseEv 2 i.val (put fun f => { f with ok := false, ov := true })))) ∧
    (s.feeds[i].ov = true → DoesWake (.feedOvClear x false) s (put fun f => { f with ov := false })) ∧
    (s.feeds[i].ov = true → DoesWake (.feedOvClear x true) s (feedUp x (put fun f => { f with ov := false })))) ∧
  (∀ (s : State) (x : Side), s.resetHeld = false → s.feeds[sideIx x].ok = true →
    s.feeds[if sideIx x = 0 then (1 : Fin 2) else 0].ok = false →
    ∃ t, exec (.feedLoss x) s = .next (settle (pmWatch t)) ∧ t = resetState (raiseEv 0 (sideIx x).val
      { s with feeds := vmod s.feeds (sideIx x) fun f => { f with ok := false, lost := true } }))

/-- R49, R51, R54, R247: what a CK32 cycle and the timers do. R49, R51, R54: on an empty queue one CK32 cycle passes (the
model's choice, log 2): a load waits for it; a tick is taken, or skipped by the trim; a carry from the sub-second field advances
the seconds by one. -/
def Obligations.Timebase : Prop :=
  (∀ s : State, s.resetHeld = false →
    (∀ n : Fin 2, s.time.alEn[n] = true → s.time.alArm[n] = true → s.time.alVal[n].toNat ≤ s.time.sec.toNat →
      DoesWake (.alarmFire n) s
        { s with time := { s.time with alFlag := vset s.time.alFlag n true, alArm := vset s.time.alArm n false } }) ∧
    (s.time.period ≠ 0 →
      DoesWake .periodicTimerFire s { s with time := { s.time with perFlag := true, downCnt := s.time.period } }) ∧
    (0 ≤ s.time.trim.toInt → s.time.sub.toNat + s.time.trim.toInt.toNat < 2 ^ 15 →
      let sub : BitVec 15 := BitVec.ofNat 15 (s.time.sub.toNat + s.time.trim.toInt.toNat)
      DoesWake .trimIntervalEnd s { s with time := { s.time with trimCnt := 0, sub := sub } }) ∧
    (s.time.trim.toInt < 0 →
      let skip := s.time.trimSkip + s.time.trim.toInt.natAbs
      DoesWake .trimIntervalEnd s { s with time := { s.time with trimCnt := 0, trimSkip := skip } }) ∧
    (s.conv.permit = 0 → Does .permitMinute s s) ∧
    (1 < s.conv.permit.toNat → Does .permitMinute s { s with conv := { s.conv with permit := s.conv.permit - 1 } }) ∧
    (storeUp s = true → Does .messageRecheck s { s with ret := { s.ret with checking := true } }) ∧
    (s.ret.checking = true → ∃ t, Does .messageCheckDone s t ∧
      t = checkMessages { s with ret := { s.ret with checking := false } } ∧ t.ret.checking = false ∧
      ∀ n : Nat, n ∈ s.ret.msgBad → n ∈ t.ret.msgBad)) ∧
  (∀ s : State, s.pending = [] →
    (s.clk.ck32Ok = false → s.clk.holdover = false → s.clk.internal = false → step s = .next s) ∧
    (s.resetHeld = true → step s = .next s) ∧
    (s.resetHeld = false → s.clk.ck32Ok = true → s.time.load = true → ∃ t, step s = .next (settle (pmWatch t)) ∧
      t = { s with time := { s.time with
        sec := (s.time.setHi ++ s.time.setLo : BitVec 64), sub := s.time.setSub.setWidth 15, valid := true, trimSkip := 0
        trimCnt := 0, load := false } }) ∧
    (s.resetHeld = false → s.clk.ck32Ok = true → s.time.load = false →
      (0 < s.time.trimSkip → s.time.trimCnt + 1 ≠ 0 →
        let u := { s.time with trimSkip := s.time.trimSkip - 1, trimCnt := s.time.trimCnt + 1 }
        step s = .next (settle (pmWatch { s with time := u }))) ∧
      (s.time.trimSkip = 0 → s.time.trimCnt + 1 ≠ 0 → s.time.sub.toNat + 1 < 2 ^ 15 →
        let u := { s.time with sub := s.time.sub + 1, trimCnt := s.time.trimCnt + 1 }
        step s = .next (settle (pmWatch { s with time := u }))) ∧
      (s.time.trimSkip = 0 → s.time.trimCnt + 1 ≠ 0 → s.time.sub.toNat + 1 = 2 ^ 15 → s.conv.permit = 0 → ∃ t,
        step s = .next (settle (pmWatch t)) ∧ t.time.sub = 0 ∧ t.time.sec = s.time.sec + 1)))

/-- R182, R190, R191, R195, R198, R199, R202: rail needs, the ends of soft-start and stop, the clock-error mute and its end.
R191, R198, R202: what those changes do to one bridge: needs held by an invalid word, the muted states, and the resume. -/
def Obligations.RailsAndClocks : Prop :=
  (∀ s : State, s.resetHeld = false →
    (∀ (b : Fin 8) (ws : List (BitVec 24)), brUp s b = true → s.arb.coreRun = true → rslot s b.val ≠ 0 →
      let x := s.bridges[b]
      let ns := needsOf x.need ws
      let y := { x with needs := ns, need := ns.getLastD x.need }
      let w := ws.getD 0 0
      let z := if bit w 23 then { y with runBit := bit w 22, startReq := bit w 22 && (x.startReq || !x.runBit) } else y
      Does (.railNeedBlock b ws) s (settleBridges (modBridge s b fun _ => z))) ∧
    (∀ b : Fin 8, brUp s b = true → (s.bridges[b]).st = 1 → (s.bridges[b]).fade = true →
      Does (.softstartDone b) s (modBridge s b fun x => { x with st := 2, fade := false })) ∧
    (∀ b : Fin 8, (s.bridges[b]).st ≠ 1 ∨ (s.bridges[b]).fade = false → Does (.softstartDone b) s s) ∧
    (∀ b : Fin 8, brUp s b = true → (s.bridges[b]).st = 3 → (getSink s.core.fab (8 + b.val)).u = 0 →
      ∃ t, Does (.stopComplete b) s (settleBridges t) ∧ (t.bridges[b]).st = 0 ∧
        ∀ e : Fin 8, e ≠ b → t.bridges[e] = s.bridges[e]) ∧
    (∀ b : Fin 8, (s.bridges[b]).st ≠ 3 ∨ (getSink s.core.fab (8 + b.val)).u ≠ 0 → Does (.stopComplete b) s s) ∧
    (∀ b : Fin 8, Does (.tripBlankingEnd b) s (modBridge s b fun x => { x with blank := false })) ∧
    (∀ d : Fin 4, (s.dies[d]).guardOn = true →
      Does (.railGuardEnd d) s (updateRails (modDie s d fun x => { x with guardOn := false }))) ∧
    (∀ d : Fin 4, dieOn s d.val = true →
      Does (.clockErrorMute d) s (raiseEv 84 d.val (raiseEv 3 (9 + d.val)
        { s with bridges := vmap s.bridges fun b x => if b.val / 2 = d.val then muteBridge x else x
                 dies := vmod s.dies d fun x => { x with modOk := false } }))) ∧
    (∀ d : Fin 4, dieOn s d.val = true → s.arb.coreRun = true →
      let out (y : Bridge) : Bridge := if y.st = 7 || (y.st = 8 && !dieHeldOff s d) then brResume y else y
      Does (.clockValid d) s (settleBridges
        { s with bridges := vmap s.bridges fun b x => if b.val / 2 = d.val then out x else x
                 dies := vmod s.dies d fun x => { x with modOk := true } }))) ∧
  ((∀ (n : BitVec 14) (w : BitVec 24) (ws : List (BitVec 24)),
    needsOf n (w :: ws) = (let m := if bit w 23 then w.setWidth 14 else n; m :: needsOf m ws)) ∧
  (∀ x : Bridge,
    (x.st = 1 ∨ x.st = 2 ∨ x.st = 3 → (muteBridge x).st = 7 ∧ (muteBridge x).clkSeen = true) ∧
    (x.st = 5 → (muteBridge x).st = 4 ∧ (muteBridge x).cooled = true ∧ (muteBridge x).shortSeen = true ∧
      (muteBridge x).clkSeen = true) ∧
    (x.st = 0 ∨ x.st = 4 ∨ x.st = 6 ∨ x.st = 7 ∨ x.st = 8 → muteBridge x = x) ∧
    (x.runBit = true → (brResume x).st = 1) ∧ (x.runBit = false → (brResume x).st = 0)) ∧
  (∀ (s : State) (b : Fin 8) (x : Bridge),
    (x.st = 0 → x.startReq = true → startReady s b = true → (brNext s b x).st = 1) ∧
    (x.st = 0 → startReady s b = false → brNext s b x = x) ∧
    (x.st = 1 ∨ x.st = 2 → x.runBit = false → (brNext s b x).st = 3) ∧
    (x.st = 1 ∨ x.st = 2 → x.runBit = true → brNext s b x = x) ∧
    (x.st = 3 ∨ x.st = 5 ∨ x.st = 7 ∨ x.st = 8 → brNext s b x = x) ∧
    (rslot s b.val = 0 → startReady s b = false)))

/-- R199, R201, R206: overcurrent trips, the SHORT state, and the probe that leaves it or counts toward LOCKOUT, on a bridge and
on both bridges of a loop pair. The probe measures by the DFT at 1 kHz of the tone's samples, an opaque constant (log 45); that
end A of a pair is probed before end B is the model's choice (log 47). -/
def Obligations.ShortAndProbe : Prop :=
  ∀ (s : State) (b : Fin 8), s.resetHeld = false → brUp s b = true →
    let x := s.bridges[b]
    let w := brWord s b.val
    (∀ t : Nat, contributes x = true ∨ x.st = 7 →
      let win := t :: x.win.filter fun u => u ≤ t && t - u ≤ 950000
      let hit := modBridge s b fun x =>
        { x with win := win, trips := sat8 x.trips, blank := x.st ≠ 7, probeTrip := x.probeTrip || x.tone }
      (win.length ≤ fld w 15 6 ∨ x.st = 5 →
        Does (.overcurrentTrip b t) s (raiseLimited 81 b.val b.val none hit)) ∧
      (fld w 15 6 < win.length → x.st ≠ 5 → isLoop s b.val = false → ∃ u,
        Does (.overcurrentTrip b t) s (updateRails (raiseEv 80 (b.val + 8 * min 63 win.length) u)) ∧
        (u.bridges[b]).st = 4 ∧ (u.bridges[b]).cooled = false ∧ (u.bridges[b]).shortSeen = true ∧
        ∀ e : Fin 8, e ≠ b → u.bridges[e] = s.bridges[e]) ∧
      (fld w 15 6 < win.length → x.st ≠ 5 → isLoop s b.val = true → ∃ u,
        Does (.overcurrentTrip b t) s (updateRails u) ∧ (u.bridges[b]).st = 4 ∧ (u.bridges[mate b]).st = 4 ∧
        ∀ e : Fin 8, e ≠ b → e ≠ mate b → u.bridges[e] = s.bridges[e])) ∧
    (∀ t : Nat, contributes x = false → x.st ≠ 7 → Does (.overcurrentTrip b t) s s) ∧
    (x.st = 4 → isLoop s b.val = false →
      Does (.cooldownEnd b) s (settleBridges (modBridge s b fun x => { x with cooled := true }))) ∧
    (x.st = 4 → isLoop s b.val = true → Does (.cooldownEnd b) s (settleBridges
      (modBridge (modBridge s b fun x => { x with cooled := true }) (mate b) fun x => { x with cooled := true }))) ∧
    (x.st ≠ 4 → Does (.cooldownEnd b) s s) ∧
    (∀ m : EndMeas, x.st = 5 → x.tone = true → isLoop s b.val = false →
      let q := probeOhms (bit (freeVal s) 0) m
      ∃ t, Does (.probeToneEnd b m.v m.i) s t ∧
      (probeClear x.mode m = true → x.probeTrip = false → ∃ u, t = settleBridges (raiseEv 82 (b.val + 8 * q.toNat) u) ∧
        (u.bridges[b]).probeZ = q ∧ (u.bridges[b]).prbFail = 0 ∧
        (bit w 29 = true → (u.bridges[b]).st = 1 ∧ (u.bridges[b]).fade = true) ∧
        (bit w 29 = false → (u.bridges[b]).st = 0 ∧ (u.bridges[b]).startReq = false)) ∧
      (probeClear x.mode m = false ∨ x.probeTrip = true →
        (fld w 27 2 = 0 ∨ x.prbFail + 1 < fld w 27 2 → ∃ u, t = updateRails u ∧
          (u.bridges[b]).st = 4 ∧ (u.bridges[b]).cooled = false ∧ (u.bridges[b]).prbFail = min 3 (x.prbFail + 1)) ∧
        (fld w 27 2 ≠ 0 → fld w 27 2 ≤ x.prbFail + 1 → ∃ u, t = updateRails (raiseEv 83 (b.val + 8 * q.toNat) u) ∧
          (u.bridges[b]).st = 6 ∧ (u.bridges[b]).startReq = false))) ∧
    (∀ m : EndMeas, x.st = 5 → x.tone = true → isLoop s b.val = true → b.val % 2 = 0 → ∃ u,
      Does (.probeToneEnd b m.v m.i) s (updateRails u) ∧ (u.bridges[b]).held = true ∧ (u.bridges[b]).st = 5 ∧
      (u.bridges[mate b]).held = false ∧ (u.bridges[mate b]).st = (s.bridges[mate b]).st) ∧
    (∀ m : EndMeas, x.st = 5 → x.tone = true → isLoop s b.val = true → b.val % 2 = 1 →
      let pass := probeClear x.mode m = true ∧ x.probeTrip = false ∧ (s.bridges[mate b]).probeOk = true
      ∃ t, Does (.probeToneEnd b m.v m.i) s t ∧
      (pass → ∃ u, t = settleBridges u ∧ ∀ e ∈ [b, mate b],
        (u.bridges[e]).prbFail = 0 ∧ (u.bridges[e]).st = (if bit w 29 then 1 else 0)) ∧
      (¬ pass → ∃ u, t = updateRails u ∧ ∀ e ∈ [b, mate b],
        (u.bridges[e]).prbFail = min 3 (x.prbFail + 1) ∧
        (u.bridges[e]).st = (if fld w 27 2 = 0 ∨ x.prbFail + 1 < fld w 27 2 then 4 else 6))) ∧
    (∀ m : EndMeas, x.st ≠ 5 ∨ x.tone = false → Does (.probeToneEnd b m.v m.i) s s)

/-- R176, R198, R204, R205, R206: thermal thresholds and boost faults of a power die. -/
def Obligations.ThermalAndBoost : Prop :=
  ∀ (s : State) (d : Fin 4), s.resetHeld = false → dieOn s d.val = true →
    let x := s.dies[d]
    (∀ tj : BitVec 8, 214 ≤ tj.toNat → x.tshut = false →
      Does (.thermalThreshold d tj) s (thermalEvent d (updateRails (modDieBridges d toDieOff (modDie s d fun _ =>
        { x with tj := tj, twarn := true, tstep := max x.tstep 4, tshut := true }))))) ∧
    (∀ tj : BitVec 8, 189 ≤ tj.toNat → tj.toNat < 199 → x.twarn = false →
      Does (.thermalThreshold d tj) s (thermalEvent d (modDie s d fun _ => { x with tj := tj, twarn := true }))) ∧
    (∀ tj : BitVec 8, tj.toNat < 189 → Does (.thermalThreshold d tj) s (modDie s d fun _ => { x with tj := tj })) ∧
    (∀ tj : BitVec 8, x.twarn = true → x.tstep < stepOf tj → tj.toNat < 214 →
      Does (.thermalThreshold d tj) s (thermalEvent d (modDie s d fun _ => { x with tj := tj, tstep := stepOf tj }))) ∧
    (∀ tj : BitVec 8, 0 < x.tstep → tj.toNat < 190 + 4 * x.tstep →
      Does (.thermalStepFall d tj) s (thermalEvent d (modDie s d fun x => { x with tj := tj, tstep := x.tstep - 1 }))) ∧
    (∀ tj : BitVec 8, x.tshut = true → tj.toNat < 194 →
      Does (.thermalShutdownClear d tj) s (leaveDieOff d (modDie s d fun x => { x with tj := tj, tshut := false }))) ∧
    (∀ tj : BitVec 8, x.twarn = true → tj.toNat < 184 →
      Does (.twarnClear d tj) s (modDie s d fun x => { x with tj := tj, twarn := false })) ∧
    (∀ t : Nat, x.bfault = false →
      let win := t :: x.bwin.filter fun u => u ≤ t && t - u ≤ 60000
      Does (.boostFault d t) s (raiseEv 87 (d.val + 4 * min 3 win.length) (modDieBridges d toDieOff (modDie s d fun x =>
        { x with bfault := true, bwin := win, bdead := x.bdead || 3 ≤ win.length })))) ∧
    (x.bfault = true → x.bdead = false →
      Does (.boostRestart d) s (leaveDieOff d (modDie s d fun x =>
        { x with bfault := false, target := 1200, traj := 4800 * 1200 }))) ∧
    (∀ u : State, let free := (u.dies[d]).modOk && !dieHeldOff u d
      (free = false → leaveDieOff d u = u) ∧
      (free = true → leaveDieOff d u = settleBridges (modDieBridges d (fun y => if y.st = 8 then brResume y else y) u))) ∧
    (∀ y : Bridge, (y.st = 4 ∨ y.st = 6 → toDieOff y = y) ∧ (y.st ≠ 4 → y.st ≠ 6 → (toDieOff y).st = 8))

/-- R25, R26, R30, R80, R84, R290: a strobe of the active core, or of the keeper in its place, makes a boundary; at it waiting
engines are released, and an engine that has not executed WAITF has overrun; the second missing strobe is cause 2. -/
def Obligations.FrameBoundaries : Prop :=
  (∀ (s : State) (inp : BoundaryIn), s.resetHeld = false →
    (s.arb.coreRun = true → coreClocked s = true → DoesWake (.frameBoundary inp) s (coreBoundary inp s)) ∧
    (s.arb.coreRun = false ∨ coreClocked s = false → DoesWake (.frameBoundary inp) s s) ∧
    (s.clk.kfLock = true → s.arb.coreRun = false → DoesWake .keeperBoundary s (idleBoundary s)) ∧
    (s.clk.kfLock = false → DoesWake .keeperBoundary s s) ∧
    (s.clk.kfLock = true → s.arb.coreRun = true →
      let t := boundary (s.time.missing + 1) { inputs := [], tdm := [], dies := [] } s
      (s.time.missing = 0 → DoesWake .keeperBoundary s t) ∧
      (1 ≤ s.time.missing → t.arb.coreRun = true → DoesWake .keeperBoundary s (coreCause 2 t)))) ∧
  (∀ x : Engine,
    (x.run = .waitF → releaseEngine x = { x with run := .running }) ∧
    (x.run = .starting → releaseEngine x = { x with run := .running, waitfDone := false }) ∧
    (x.run = .halted ∨ x.run = .running ∨ x.run = .stopped → releaseEngine x = x)) ∧
  (∀ (s : State) (i : Fin 25), (s.core.eng[i]).run = .waitF → overran s i = false)

/-- R25, R48, R26, R290: at every frame boundary, whichever core die or keeper makes it, FRAME counts one up; a boundary of the
core ends a run of missing strobes. -/
def Obligations.FrameCounts : Prop :=
  ∀ (s : State) (inp : BoundaryIn), s.resetHeld = false →
    (s.arb.coreRun = true → coreClocked s = true → ∃ t, exec (.frameBoundary inp) s = .next t ∧
      t.time.frame = s.time.frame + 1 ∧ t.time.missing = 0) ∧
    (s.clk.kfLock = true → ∃ t, exec .keeperBoundary s = .next t ∧ t.time.frame = s.time.frame + 1)

/-- R124, R293, R295, R297, R305: the mirror copy: its acknowledgement makes it the last copy, its age and the overload
count clear, STBY_STALE clears unless a fill runs, and the deferred effects of its frame take effect; a link fault spoils
the copy in flight, whose marks return at the next boundary. R84, R303, R305: the watchdog's cause, and the commands of
takeover and side DAWN. -/
def Obligations.MirrorAndTakeover : Prop :=
  (∀ s : State, s.resetHeld = false →
    (∀ c : CopyRec, s.mirror.fly = some c → s.mirror.flyBad = false → s.mirror.load ≤ copyCap s.core.fab.f →
      let s1 : State :=
        { s with
          mirror := { s.mirror with last := some c, fly := none, flyDirty := [], flyJnl := [], ack := c.frame, staleAge := 0,
                                    overload := 0 }
          arb := { s.arb with stale := s.arb.stale && s.mirror.fill.isSome }
          hosts := { s.hosts with defHeld := [] } }
      Does .copyAck s (takeAtAck (applyDefs s.hosts.defHeld s1))) ∧
    (s.mirror.fly = none → Does .copyAck s s) ∧
    (∀ c : CopyRec, s.mirror.fly = some c → (s.mirror.flyBad = true ∨ copyCap s.core.fab.f < s.mirror.load) →
      Does .copyAck s s) ∧
    (∀ (c : CopyRec) (crc : Bool), s.arb.stbyUp = true → s.mirror.fly = some c → s.mirror.flyBad = false →
      Does (.mirrorLinkFault crc) s (raiseLimited 21 0 (if crc then 1 else 0) none
        { s with mirror := { s.mirror with flyBad := true, crcerr := true } })) ∧
    (s.arb.stbyUp = true → s.mirror.fly = none → controlRuns s = true → Does (.mirrorLinkFault false) s
      (raiseLimited 21 0 0 none { s with arb := { s.arb with stale := true } })) ∧
    (∀ crc : Bool, s.arb.stbyUp = false → Does (.mirrorLinkFault crc) s s) ∧
    Does .fillComplete s { s with mirror := { s.mirror with fill := none } } ∧
    (∀ c : CopyRec, s.mirror.fly = some c → (copyIncomplete s).arb.stale = true ∧ (copyIncomplete s).mirror.fly = none ∧
      (copyIncomplete s).mirror.jnl = s.mirror.flyJnl ++ s.mirror.jnl) ∧
    copyCap .f16 = 1663 ∧ copyCap .f32 = 3978 ∧ copyCap .f48 = 6293 ∧ copyCap .f96 = 13238) ∧
  (∀ s : State, s.resetHeld = false →
    (s.arb.coreRun = true → s.core.tab.wdog ≤ s.core.wdog → Does .watchdogExpiry s (coreCause 3 s)) ∧
    (∀ c : Nat, s.arb.stbyUp = true → coreCause c s = takeover c s) ∧
    (s.arb.take = some 0 →
      Does .takeLapse s (ignore 0 14 s.arb.takePort.toNat 0x0343 { s with arb := { s.arb with take := none } })) ∧
    (∀ x : Side, s.pm.sideTry[sideIx x] = true → s.pm.st = 0 → s.arb.coreRun = true → Does (.sideDawnRetry x) s (startSide x s)) ∧
    (∀ x : Side, s.pm.dawn = none → s.pm.entry = none → s.arb.stbyUp = false → s.feeds[sideIx x].ok = true → x ≠ s.arb.active →
      (startSide x s).pm.dawn = some { kind := .side, side := x, step := 2 } ∧ domOn (startSide x s) (coreDom x) = true ∧
      (startSide x s).arb = s.arb) ∧
    (∀ (p : PortId) (v : Word), let pv : PortView := { port := p, host := .a }
      viewOpen s pv = true →
      let pref : Side := if bit v 1 then .b else .a
      (bit v 2 = false → s.arb.stbyUp = true → stbyStale s = false → s.mirror.fill = none → s.arb.take = none →
        DoesWake (.takeCommand pv v) s
          { s with arb := { s.arb with pref := pref, take := some 17, takePort := BitVec.ofNat 2 (portIx p) } }) ∧
      (bit v 2 = false → s.arb.stbyUp = false →
        DoesWake (.takeCommand pv v) s (ignoreReg pv 14 3 0x43 { s with arb := { s.arb with pref := pref } })) ∧
      (bit v 0 = false → s.pm.dawn = none → s.pm.repeat_ = false → s.arb.stbyUp = false → s.pm.st = 0 →
        s.feeds[sideIx (other s.arb.active)].ok = true →
        DoesWake (.sideDawnRequest pv v) s (startSide (other s.arb.active) (sideAgain (other s.arb.active)
          { s with arb := { s.arb with pref := pref } }))) ∧
      (bit v 0 = false → s.arb.stbyUp = true →
        DoesWake (.sideDawnRequest pv v) s (ignoreReg pv 14 3 0x43 { s with arb := { s.arb with pref := pref } }))))

/-- R49, R54, R247, R420, R421: commits by host A of the registers that have rows of their own. R12, R338, R360, R375, R413:
a commit that fails is an ignored item with the reason of the first check that fails: the right (5), an absent die (11), no
core (14), the lock (3); reserved places and registers with nothing to write discard it uncounted. -/
def Obligations.RegisterCommits : Prop :=
  (∀ (s : State) (p : PortId) (v : Word), let pv : PortView := { port := p, host := .a }
    s.resetHeld = false → viewOpen s pv = true →
    DoesWake (.utimeLoad pv v) s { s with time := { s.time with trim := v.setWidth 8, load := true } } ∧
    (∃ t, t = rtcCtrl (v &&& 0x77FFFF) s ∧ t.time.period = v.setWidth 16 ∧ t.time.perEn = bit v 16 ∧
      t.time.downCnt = (if v.setWidth 16 = s.time.period then s.time.downCnt else v.setWidth 16) ∧
      (∀ n : Fin 2, t.time.alEn[n] = bit v (17 + n.val)) ∧ DoesWake (.periodWrite pv v) s t) ∧
    (s.ret.lc ≠ 3 → fld v 8 8 ≠ 0 → DoesWake (.permitWrite pv v) s (ignoreReg pv 4 8 0x5B s)) ∧
    (s.ret.lc = 3 → DoesWake (.permitWrite pv v) s (setPermit (v.extractLsb' 8 8)
      { s with conv := { s.conv with micFlt := s.conv.micFlt && !bit v 3, muteSeen := s.conv.muteSeen && !bit v 4 } })) ∧
    (∀ (n : BitVec 8) (u : State), n ≠ 0 →
      setPermit n u = { u with conv := { u.conv with permit := n }, time := { u.time with permSec := 0 } }) ∧
    (∀ u : State, (setPermit 0 u).conv.permit = 0) ∧
    DoesWake (.rbSelWrite pv v) s (modPv s pv fun w => { w with rbSel := v.setWidth 8, snap := none }) ∧
    (let ws := selectedRecord s (fld v 0 3) (bit v 3)
     DoesWake (.recSelWrite pv v) s (modPv s pv fun w =>
        { w with recBr := v.setWidth 3, recFp := bit v 3, recAv := ws.isSome, recFifo := bytesOfWords (ws.getD []) }))) ∧
  (∀ (s : State) (pv : PortView) (page ptr : Nat) (v : Word),
    (regAt page ptr = none → commitReg pv page ptr v s = s) ∧
    (∀ r : Reg, regAt page ptr = some r →
      (regWritable r = false → commitReg pv page ptr v s = s) ∧
      (regWritable r = true →
        (writeRight pv.host page r = false → commitReg pv page ptr v s = ignoreReg pv 5 page ptr s) ∧
        (writeRight pv.host page r = true → regAbsent s r = true → commitReg pv page ptr v s = ignoreReg pv 11 page ptr s) ∧
        (writeRight pv.host page r = true → regAbsent s r = false → coreHeld page ptr = true → coreUp s = false →
          commitReg pv page ptr v s = ignoreReg pv 14 page ptr s) ∧
        (writeRight pv.host page r = true → regAbsent s r = false → coreHeld page ptr = false ∨ coreUp s = true →
          lkOpen s = false → (v ^^^ regShown s pv r) &&& lkMask r ≠ 0 →
          commitReg pv page ptr v s = ignoreReg pv 3 page ptr s))))

/-- R335, R337, R338, R365: bytes written through a view: the page byte, data bytes at the pointer, and the command FIFO.
R336, R374, R421, R422: reads of the event FIFO, the record FIFO and the capture port of a view. -/
def Obligations.WindowAccess : Prop :=
  (∀ (s : State) (pv : PortView), s.resetHeld = false → viewOpen s pv = true →
    (∀ b : Byte, mwf {} s.ports.views →
      ∃ t, DoesWake (.pageWrite pv b) s t ∧ (getPv t pv).page = b ∧ (getPv t pv).ptr = 2) ∧
    DoesWake (.registerWrite pv []) s s ∧
    (∀ (b : Byte) (bs : List Byte), DoesWake (.registerWrite pv (b :: bs)) s (writeBytes pv bs (writeByteAt pv b s))) ∧
    (∀ b : Byte, commandTakes pv s = true →
      DoesWake (.commandFifoPush pv b) s (modPorts (commandByte pv b s) fun p => { p with nack := false })) ∧
    (∀ b : Byte, commandTakes pv s = false → DoesWake (.commandFifoPush pv b) s (fifoFull pv.port s)) ∧
    (∀ b : Byte, (getPv s pv).asm.length < 3 →
      commandByte pv b s = modPv s pv fun v => { v with asm := b :: v.asm })) ∧
  (∀ (s : State) (pv : PortView), s.resetHeld = false → viewOpen s pv = true →
    let give (b : Byte) (t : State) : State := { t with ports := { t.ports with rd := [b] } }
    let i := hostIx pv.host
    -- R374: the event FIFO of the view's host: a byte of its oldest entry, which leaves with its last byte
    (∀ (e : EvEntry) (es : List EvEntry), s.hosts.evq[i] = e :: es → (s.hosts.evPos[i]) < 23 →
      DoesWake (.eventFifoPop pv) s (give ((bytesOfWords (entryWords e)).getD (s.hosts.evPos[i]) 0)
        { s with hosts := { s.hosts with evPos := vset s.hosts.evPos i (s.hosts.evPos[i] + 1)
                                         evTouched := vset s.hosts.evTouched i true } })) ∧
    (∀ (e : EvEntry) (es : List EvEntry), s.hosts.evq[i] = e :: es → s.hosts.evPos[i] = 23 →
      DoesWake (.eventFifoPop pv) s (give ((bytesOfWords (entryWords e)).getD 23 0)
        { s with hosts := { s.hosts with evPos := vset s.hosts.evPos i 0, evq := vset s.hosts.evq i es
                                         evTouched := vset s.hosts.evTouched i true } })) ∧
    (s.hosts.evq[i] = [] → DoesWake (.eventFifoPop pv) s (give 0 (fifoEmpty pv.port s))) ∧
    -- R421: the record FIFO of the view
    (∀ (b : Byte) (bs : List Byte), (getPv s pv).recFifo = b :: bs →
      DoesWake (.recordFifoPop pv) s (give b (modPv s pv fun p => { p with recFifo := bs }))) ∧
    ((getPv s pv).recFifo = [] → DoesWake (.recordFifoPop pv) s (give 0 (fifoEmpty pv.port s))) ∧
    -- R422: the capture port: only for host A in MAINTENANCE under a permit with a capture complete
    (captureShown s pv.host = true → (getPv s pv).cap < 64000 →
      let n := (getPv s pv).cap
      DoesWake (.capturePortRead pv) s (give ((mget 0 s.wake.cap (n / 4)).extractLsb' (8 * (n % 4)) 8)
        (modPv s pv fun p => { p with cap := n + 1 }))) ∧
    (captureShown s pv.host = false → DoesWake (.capturePortRead pv) s (give 0 s)) ∧
    (pv.host ≠ .a → captureShown s pv.host = false))

/-- R363, R364, R365, R366, R369, R370: the rows of host commands: a command written through an open view, with nothing open
or waiting before it and an entry free, is ignored with the reason of the first check it fails, or admitted with the next
command number of its host, and served if it has become the head. -/
def Obligations.HostCommands : Prop :=
  ∀ (s : State) (pv : PortView) (ws : List Word) (rc : Byte) (reply : Word), s.resetHeld = false → viewOpen s pv = true →
    let w := ws.getD 0 0
    nwOk w = true → ws.length = hdrNw w → (getPv s pv).asm = [] → (getPv s pv).chk = [] → cqFull s pv.host = false →
    ∀ c : Instr,
      (c = .loadset pv ws rc reply ∧ hdrOp w = 0xE0) ∨ (c = .startset pv ws rc reply ∧ hdrOp w = 0xE1) ∨
      (c = .ldstat pv ws rc reply ∧ hdrOp w = 0xE2) ∨ (c = .claim pv ws rc reply ∧ hdrOp w = 0xF0) ∨
      (c = .release pv ws rc reply ∧ hdrOp w = 0xF1) ∨ (c = .wakeack pv ws rc reply ∧ hdrOp w = 0xF2) ∨
      (c = .seenclr pv ws rc reply ∧ hdrOp w = 0xF3) ∨
      (c = .programCommand pv ws rc reply ∧ (hdrOp w < 0xE0 ∨ (0xE3 ≤ hdrOp w ∧ hdrOp w < 0xF0) ∨ 0xF4 ≤ hdrOp w)) →
      (∀ r : Nat, admitFails s pv.host ws = some r → DoesWake c s (ignoreCmd pv r w s)) ∧
      (admitFails s pv.host ws = none → ∃ t, DoesWake c s (serveNew (hdrOp w) rc reply s.hosts.nextId t) ∧
        t.hosts.q = s.hosts.q ++ [{ id := s.hosts.nextId, host := pv.host, cnum := s.hosts.cnum[hostIx pv.host] + 1,
                                    words := ws, retiring := false }] ∧
        t.hosts.cnum = vset s.hosts.cnum (hostIx pv.host) (s.hosts.cnum[hostIx pv.host] + 1) ∧
        t.core = s.core ∧ t.ret.nonceLast = (if hdrTag w then ws.getD 1 0 else s.ret.nonceLast))

/-- R362, R366, R367, R368: the checks of admission, in their order. R365, R367: the end of a tag check, and the end of an
assembly that went 100 ms without a byte. -/
def Obligations.AdmissionChecks : Prop :=
  (∀ (s : State) (h : HostId) (ws : List Word), let w := ws.getD 0 0
    let tagOk : Bool := if hdrTag w then h == .a && s.ret.key.isSome && cmdTagOk s ws else !tagNeeded s h w
    let fresh : Bool := !hdrTag w || serialGt 32 (ws.getD 1 0).toNat s.ret.nonceLast.toNat
    let r := resWord s (hdrRes w)
    let owned : Bool := hdrNores w || (resDefined r && resOwned r h)
    let level : Bool := hdrNores w || (hdrPrio w ≤ prioCeiling h && (hdrPrio w < 3 || bit r 5))
    (formOk w = false → admitFails s h ws = some 9) ∧
    (formOk w = true → hostAdmitted s h = false → admitFails s h ws = some 4) ∧
    (formOk w = true → programsAdmitted s = false → hdrOp w ≠ 0xE2 → admitFails s h ws = some 4) ∧
    (formOk w = true → hostAdmitted s h = true → programsAdmitted s = true ∨ hdrOp w = 0xE2 →
      (tagOk = false → admitFails s h ws = some 7) ∧
      (tagOk = true → fresh = false → admitFails s h ws = some 8) ∧
      (tagOk = true → fresh = true → owned = false → admitFails s h ws = some 1) ∧
      (tagOk = true → fresh = true → owned = true → level = false → admitFails s h ws = some 2) ∧
      (tagOk = true → fresh = true → owned = true → level = true →
        ((hdrOp w = 0xF2 ∨ hdrOp w = 0xF3) → h ≠ .a → admitFails s h ws = some 5) ∧
        (hdrOp w ≠ 0xF2 → hdrOp w ≠ 0xF3 → admitFails s h ws = none) ∧
        (h = .a → admitFails s h ws = none)))) ∧
  (∀ (s : State) (pv : PortView), s.resetHeld = false →
    (∀ ws : List Word, (getPv s pv).chk = [ws] → mwf {} s.ports.views →
      Does (.tagCheckDone pv) s (admitCmd pv ws (modPv s pv fun v => { v with chk := [] }))) ∧
    ((getPv s pv).chk = [] → Does (.tagCheckDone pv) s s) ∧
    (∀ (b : Byte) (bs : List Byte), (getPv s pv).asm = b :: bs →
      Does (.assemblyTimeout pv) s
        (ignoreCmd pv 9 (wordOf ((b :: bs).reverse.take 4)) (modPv s pv fun v => { v with asm := [] }))) ∧
    ((getPv s pv).asm = [] → Does (.assemblyTimeout pv) s s))

/-- R364, R371: claims: CLAIM puts its host into a slot, whose former host is told; RELEASE empties it for its holder only;
no other slot changes; the level of a resource is its highest-numbered occupied slot, or 7. -/
def Obligations.Claims : Prop :=
  ∀ (s : State) (h : HostId) (res lvl : Nat), mwf 3 s.hosts.claims → lvl < 5 →
    claimAt (claim h res lvl s) res lvl = BitVec.ofNat 2 (hostIx h).val ∧
    (∀ k : Nat, k < 8 → k ≠ lvl → claimAt (claim h res lvl s) res k = claimAt s res k) ∧
    (∀ d : HostId, claimAt s res lvl = BitVec.ofNat 2 (hostIx d).val → d ≠ h →
      (claim h res lvl s).hosts.evBuf = s.hosts.evBuf ++
        [{ kind := 2, src := 0, pay := pay (res * 2 ^ 8 + lvl * 2 ^ 16 + (hostIx h).val * 2 ^ 19), host := some d }]) ∧
    (claimAt s res lvl = BitVec.ofNat 2 (hostIx h).val → claimAt (release h res lvl s) res lvl = 3) ∧
    (claimAt s res lvl ≠ BitVec.ofNat 2 (hostIx h).val → release h res lvl s = s) ∧
    (claimAt s res lvl ≠ 3 → (∀ k : Nat, lvl < k → k < 5 → claimAt s res k = 3) → resLevel s res = lvl) ∧
    ((∀ k : Nat, k < 5 → claimAt s res k = 3) → resLevel s res = 7)

/-- R370: the answers of the resident program to the commands that it does not carry out, to LDSTAT, and to STARTSET, whose
refused step is an ignored item of the core (R123, R375, log 12). R129, R131, R133, R388: the ends of the header check and
of an engine load. R37, R387, R398: message 0 at its end: it repeats while EVAC_IN is asserted and message 0 is defined, and
otherwise is over; one that became undefined while it played is reported then. -/
def Obligations.ResidentProgram : Prop :=
  (∀ (s : State) (e : CmdEnt), let op := hdrOp (e.words.getD 0 0)
    (op = 0xE2 → residentServe e s = deferDone e 0 (loadStatus s) s) ∧
    (op = 0xF0 ∨ op = 0xF1 → residentServe e s = deferDone e 0xF2 0 s) ∧
    (op = 0xF2 ∨ op = 0xF3 → residentServe e s = deferDone e 0 0 s) ∧
    (op < 0xE0 ∨ (0xE3 ≤ op ∧ op < 0xF0) ∨ 0xF4 ≤ op → residentServe e s = deferDone e 0xF0 0 s) ∧
    (op = 0xE1 → s.core.autoOn = false →
      (∀ t, pStart 24 s = some t → residentServe e s = deferDone e 0 0 t) ∧
      (pStart 24 s = none → residentServe e s = deferDone e 0xF1 (loadStatus s) (ignoreCore 6 0x23 s)))) ∧
  (∀ s : State, s.resetHeld = false →
    (s.core.load.step = 1 →
      let err := setCheck s s.core.load.set.toNat
      let l : LoadSt := if err = 0 then { s.core.load with step := 2 }
        else { s.core.load with step := 6, err := BitVec.ofNat 4 err, loaded := [] }
      Does .headerCheckDone s (residentNext { s with core := { s.core with load := l } })) ∧
    (s.core.load.step ≠ 1 → Does .headerCheckDone s s) ∧
    -- no load of the resident program's own, or of a host that it serves, is under way
    (residentRuns s = false ∨ (s.core.autoOn = false ∧ s.hosts.loadCmd = none) → residentNext s = s) ∧
    (s.core.load.step = 7 → Does .engineLoadDone s (residentNext (engineLoadDone s))) ∧
    (s.core.load.step ≠ 7 → Does .engineLoadDone s s) ∧
    (let e := s.core.load.engine.toNat
     let ws := setWords s s.core.load.set.toNat
     s.core.load.step = 7 → s.core.prog = .resident → engLoadCheck ws e = 0 → e < 25 → s.arb.stbyUp = false →
      engineLoadDone s = modLoad (fun l => { l with step := 3, loaded := e :: l.loaded })
        (setEng s (engOf e) (installed ws e s)))) ∧
  (∀ s : State, s.resetHeld = false →
    (s.core.play = none → Does .message0End s s) ∧
    (∀ p : Play, s.core.play = some p →
      let done : State := { s with core := { s.core with play := none } }
      (p.pos < msgSamples p.msg → Does .message0End s s) ∧
      (msgSamples p.msg ≤ p.pos → s.sadc.evac = false → msgDefined s 0 = true → Does .message0End s done) ∧
      (msgSamples p.msg ≤ p.pos → msgDefined s 0 = false →
        (p.stopAfter = false → Does .message0End s done) ∧
        (p.stopAfter = true → Does .message0End s (raiseEv 12 256 done))) ∧
      (msgSamples p.msg ≤ p.pos → s.sadc.evac = true → residentRuns s = true → msgDefined s 0 = true →
        Does .message0End s { s with core := { s.core with play := some (playFrom (msgEntry s 0).1 (msgWords s 0)) } })))

/-- R27, R145-R148, R153: a fabric command enters the pending table (that a row does so until the next boundary is log 13).
R136, R140, R145-R153, R157, R162: the table as it takes effect: which commands are ignored, with their reasons, what each of the
others does, and that a later command on the same setting overrides an earlier one. R149, R152: what BUSSRC and SINK make of the
entries of a bus and of a sink. -/
def Obligations.FabricCommands : Prop :=
  (∀ (s : State) (w v : BitVec 24), s.resetHeld = false →
    let pend (v : BitVec 24) : State := { s with core := { s.core with fab := { s.core.fab with rows := s.core.fab.rows ++ [(w, v)] } } }
    Does (.fabEnd 0) s s ∧ (controlRuns s = true → fabOp w = 0 → w ≠ 0 → Does (.fabEnd w) s (pend 0)) ∧
    (∀ (c : Instr) (u : BitVec 24),
      (c = .bussrc w v ∧ fabOp w = 1 ∧ u = v) ∨ (c = .sink w v ∧ fabOp w = 2 ∧ u = v) ∨ (c = .ramp w ∧ fabOp w = 3 ∧ u = 0) ∨
      (c = .busclr w ∧ fabOp w = 4 ∧ u = 0) ∨ (c = .indom w ∧ fabOp w = 5 ∧ u = 0) ∨ (c = .tdmcfg w ∧ fabOp w = 6 ∧ u = 0) ∨
      (c = .direct w v ∧ fabOp w = 7 ∧ u = v) ∨ (c = .d16sem w ∧ fabOp w = 8 ∧ u = 0) ∨ (c = .looka w ∧ fabOp w = 9 ∧ u = 0) →
      (controlRuns s = true → Does c s (pend u)) ∧ (s.arb.coreRun = false → Does c s s))) ∧
  (∀ (s : State) (ks : List Nat) (w g : BitVec 24),
    let f := s.core.fab
    -- BUSSRC: an entry of the bus is changed, added, or the command is ignored
    (fabOp w = 1 →
      let m := fld w 14 6
      let a := fld w 0 9
      let b := getBus f m
      (fld w 9 5 = 0 → 16 ≤ a → busProvided f m = true → slotUsable s a = true → cmdBad false w s = none) ∧
      (fld w 9 5 ≠ 0 ∨ a < 16 ∨ busProvided f m = false ∨ slotUsable s a = false → cmdBad false w s = some 13) ∧
      (∀ es, busTake (rampLen f b.r) a g b.entries = some es →
        cmdEffect ks w g s = modFab s fun f => setBus f m { b with entries := es }) ∧
      (busTake (rampLen f b.r) a g b.entries = none → cmdEffect ks w g s = ignoreFab 13 1 s)) ∧
    -- SINK
    (fabOp w = 2 →
      let k := fld w 12 8
      let a := fld w 0 10
      let x := getSink f k
      (fld w 10 2 = 0 → sinkUsable s k = true → sinkTakes k a = true → slotUsable s a = true → cmdBad false w s = none) ∧
      (fld w 10 2 ≠ 0 ∨ sinkUsable s k = false ∨ sinkTakes k a = false ∨ slotUsable s a = false →
        cmdBad false w s = some (if sinkAbsent s k then 11 else 13)) ∧
      (∀ es, sinkTake (rampLen f x.r) a g x.entries = some es →
        cmdEffect ks w g s = modFab s fun f => setSink f k { x with entries := es }) ∧
      (sinkTake (rampLen f x.r) a g x.entries = none → cmdEffect ks w g s = ignoreFab 13 2 s)) ∧
    -- RAMP, BUSCLR
    (fabOp w = 3 →
      let k := fld w 11 8
      (fld w 6 5 = 0 → (if bit w 19 then sinkUsable s k else busProvided f k) = true → cmdBad false w s = none) ∧
      (fld w 6 5 ≠ 0 ∨ bit w 19 = false ∧ busProvided f k = false → cmdBad false w s = some 13) ∧
      cmdEffect ks w g s = modFab s fun f =>
        if bit w 19 then setSink f k { getSink f k with r := w.setWidth 6 } else setBus f k { getBus f k with r := w.setWidth 6 }) ∧
    (fabOp w = 4 →
      let b := getBus f (fld w 14 6)
      (fld w 0 14 = 0 → busProvided f (fld w 14 6) = true → cmdBad false w s = none) ∧
      (fld w 0 14 ≠ 0 ∨ busProvided f (fld w 14 6) = false → cmdBad false w s = some 13) ∧
      cmdEffect [] w g s = modFab s fun f =>
        setBus f (fld w 14 6) { b with entries := b.entries.map fun e => retarget e 0 (rampLen f b.r) }) ∧
    -- INDOM, D16SEM, LOOKA
    (∀ i : Fin 16, fabOp w = 5 → fld w 16 4 = i.val →
      let bad : Prop := fld w 1 15 ≠ 0 ∨ inputNamed f i.val = true ∨ pdmFixed s i.val = true ∨
        bit w 0 = true ∧ (f.r96 = true ∨ s.clk.degraded = true)
      (bad → cmdBad false w s = some 13) ∧ (¬ bad → cmdBad false w s = none) ∧
      cmdEffect ks w g s = modFab s fun f => { f with indom := vset f.indom i (bit w 0) }) ∧
    (fabOp w = 8 →
      (fld w 6 14 = 0 → f.r96 = false → s.clk.degraded = false → cmdBad false w s = none) ∧
      (fld w 6 14 ≠ 0 ∨ f.r96 = true ∨ s.clk.degraded = true → cmdBad false w s = some 13) ∧
      cmdEffect ks w g s = modFab s fun f => { f with d16Sem := if bit w 5 then some (w.setWidth 5) else none }) ∧
    (fabOp w = 9 →
      cmdBad false w s = some 13 ∧ (fld w 7 13 = 0 → fld w 0 7 ≤ 96 → cmdBad true w s = none) ∧
      (96 < fld w 0 7 → cmdBad true w s = some 13) ∧
      cmdEffect ks w g s = modFab s fun f => { f with lookA := fld w 0 7 }) ∧
    -- TDMCFG, DIRECT
    (∀ p : Fin 4, fabOp w = 6 → fld w 18 2 = p.val →
      (tdmOk w = true → s.clk.degraded = false → cmdBad false w s = none) ∧
      (tdmOk w = false ∨ s.clk.degraded = true → cmdBad false w s = some 13) ∧
      cmdEffect ks w g s = modFab s fun f => { f with tdm := vmod f.tdm p (tdmTake s.pm.tdmHalt w) }) ∧
    (fabOp w = 7 → f.direct.live = false →
      let k := fld w 7 8
      let inp := fld w 15 4
      (fld w 0 7 = 0 → k < 6 ∨ (8 ≤ k ∧ k < 16) → sinkUsable s k = true → pdmFixed s inp = false → cmdBad false w s = none) ∧
      (fld w 0 7 ≠ 0 ∨ 16 ≤ k ∨ pdmFixed s inp = true → ∃ n, cmdBad false w s = some n) ∧
      (bit w 19 = true → cmdEffect ks w g s = modFab s fun f =>
        { f with direct := { on := true, live := true, inp := BitVec.ofNat 4 inp, sink := BitVec.ofNat 8 k
                             e := newEntry 0 g (rampLen f (getSink f k).r) } }) ∧
      (bit w 19 = false → cmdEffect ks w g s = s))) ∧
  -- R145: of two commands of a list on one setting the later one acts; a command that may not act is ignored
  (∀ (s : State) (w v w2 v2 : BitVec 24), cmdBad false w s = none → cmdBad false w2 s = none → fabOp w ≠ 3 → cmdKey w = cmdKey w2 →
    fabApply false [.cmd w v, .cmd w2 v2] s = cmdEffect [] w2 v2 s) ∧
  (∀ (s : State) (w v : BitVec 24) (r : Nat),
    (cmdBad false w s = none → fabApply false [.cmd w v] s = cmdEffect [] w v s) ∧
    (cmdBad false w s = some r → fabApply false [.cmd w v] s = ignoreFab r (fabOp w) s)) ∧
  ((∀ (n a : Nat) (g : BitVec 24) (es : List Entry), es.find? (fun e => e.slot = a) = none →
    (g ≠ 0 → liveCount es < 32 → es.length < 40 → busTake n a g es = some (es ++ [newEntry a g n])) ∧
    (g = 0 → busTake n a g es = none) ∧
    (32 ≤ liveCount es → busTake n a g es = none)) ∧
  (∀ (n a : Nat) (g : BitVec 24) (es : List Entry) (e : Entry), es.find? (fun e => e.slot = a) = some e → e.g1 ≠ 0 →
    busTake n a g es = some (es.map fun x => if x.slot = a then retarget x g n else x)) ∧
  (∀ (n a : Nat) (g : BitVec 24) (es : List Entry),
    (es.any (fun e => e.slot = a) = true →
      sinkTake n a g es = some (es.map fun x => retarget x (if x.slot = a then g else 0) n)) ∧
    (es.any (fun e => e.slot = a) = false → es.length < 4 →
      sinkTake n a g es = some ((es.map fun e => retarget e 0 n) ++ [newEntry a g n])) ∧
    (es.any (fun e => e.slot = a) = false → 4 ≤ es.length → sinkTake n a g es = none)))

/-- R158, R159: a TDM port whose partner's clock is missing, wrong or misplaced, and the partner's return. -/
def Obligations.TdmPorts : Prop :=
  ∀ (s : State) (p : Fin 4), s.resetHeld = false → s.arb.coreRun = true → (s.core.fab.tdm[p]).en = true →
    let x := s.core.fab.tdm[p]
    let put (y : TdmPort) : State := modFab s fun f => { f with tdm := vset f.tdm p y }
    let gone (y : TdmPort) : TdmPort := { y with st := 3, rateMeas := 0 }
    (x.role = false → x.st = 1 ∨ x.st = 2 →
      Does (.tdmClockMissing p) s (raiseEv 32 p.val (put { gone x with miss := true })) ∧
      Does (.tdmWrongRate p) s (raiseEv 32 (p.val + 4) (put { gone x with wrate := true }))) ∧
    (x.role = true ∨ x.st = 0 ∨ x.st = 3 → Does (.tdmClockMissing p) s s ∧ Does (.tdmWrongRate p) s s) ∧
    (∀ t : Nat, x.st = 2 →
      let ts := t :: x.sync10.filter fun u => t - u < 10000
      let y := { x with sync := true, syncCount := sat8 x.syncCount, sync10 := ts }
      (ts.length ≤ 8 → Does (.tdmSlotSyncError p t) s (raiseLimited 32 p.val (p.val + 8) none (put y))) ∧
      (8 < ts.length →
        Does (.tdmSlotSyncError p t) s (raiseLimited 32 p.val (p.val + 8) none (put { gone y with sync10 := [] })))) ∧
    (∀ t : Nat, x.st ≠ 2 → Does (.tdmSlotSyncError p t) s s) ∧
    (∀ m : BitVec 16,
      (s.pm.tdmHalt = false → x.st = 1 ∨ x.st = 3 → Does (.tdmReturn p m) s
        (raiseEv 32 (p.val + 12) (put { x with st := 2, sync10 := [], rateMeas := m }))) ∧
      (s.pm.tdmHalt = true ∨ x.st = 0 ∨ x.st = 2 → Does (.tdmReturn p m) s s))

/-- R388, R394, R453: power-on reset and RESET_N hold reset and keep what R378 keeps; RESET_RELEASE takes the straps. R390,
R438: boundary scan works in BLANK and in MAINTENANCE only; EXTEST holds every bridge of a powered die low-side on. -/
def Obligations.ResetAndScan : Prop :=
  (∀ s : State,
    (∀ c : Instr, c = .powerOnReset ∨ c = .resetN → ∃ t, exec c s = .next t ∧ t.resetHeld = true ∧
      t.ret.mram = s.ret.mram ∧ t.ret.lc = s.ret.lc ∧ t.ret.key = s.ret.key ∧ t.ret.nonceLast = s.ret.nonceLast ∧
      t.core = State.reset.core ∧ t.pm = State.reset.pm ∧ t.hosts = State.reset.hosts ∧ t.flt = State.reset.flt ∧
      t.serial = s.serial ∧ t.variant = s.variant) ∧
    (∀ (fb : Bool) (a : BitVec 3),
      (s.resetHeld = true → ∃ t, exec (.resetRelease fb a) s = .next (settle (leaveReset t)) ∧
        t = { s with ports := { s.ports with fbSel := fb, haddr := a } }) ∧
      (s.resetHeld = false → exec (.resetRelease fb a) s = .next s)) ∧
    (s.resetHeld = false →
      (s.core.auto = none → Does .bootLoad s s) ∧
      (∀ n : Nat, s.core.auto = some n → residentRuns s = true → s.core.autoOn = false → Does .bootLoad s (startAuto n s) ∧
        (loadOpen s = false → s.core.svStart = false → (startAuto n s).core.load = { step := 1, set := BitVec.ofNat 8 n } ∧
          (startAuto n s).core.autoOn = true)) ∧
      (∀ n : Nat, s.core.auto = some n → residentRuns s = false → Does .bootLoad s s)) ∧
    -- R453: while reset is held no command of the device has an effect
    (s.resetHeld = true → ∀ (x : Side) (b : Fin 8), exec (.feedPresent x) s = .next s ∧ exec .keeperBoundary s = .next s ∧
      exec (.softstartDone b) s = .next s ∧ exec .kfLock s = .next s)) ∧
  (∀ s : State, s.resetHeld = false →
    (s.ret.lc = 0 ∨ s.ret.lc = 3 →
      Does .extest s (setTap { ir := 0, extest := true, sample := false } s) ∧
      Does .samplePreload s (setTap { ir := 1, extest := false, sample := true } s) ∧
      Does .bypass s (setTap {} s)) ∧
    (s.ret.lc = 1 ∨ s.ret.lc = 2 → Does .extest s s ∧ Does .samplePreload s s ∧ Does .bypass s s) ∧
    (∀ t : Tap, (setTap t s).tap = t))

/-- R214, R215, R218, R223, R225, R227: command words of line supervision: a legal word that is valid and differs from the
one in force ends what its line measures and starts from its beginning; the word in force changes nothing; an illegal one is
an ignored item. -/
def Obligations.LineCommands : Prop :=
  ∀ s : State, s.resetHeld = false → controlRuns s = true → sslot s ≠ 0 →
    (∀ (b : Fin 8) (w : BitVec 24) (c : Instr),
      (c = .supervisionStop b w ∧ supOp w = 0) ∨ (c = .pilotContinuous b w ∧ supOp w = 1) ∨ (c = .pilotCounted b w ∧ supOp w = 2) ∨
      (c = .sweep b w ∧ supOp w = 3) ∨ (c = .fingerprintCapture b w ∧ supOp w = 4) ∨
      (c = .filterCalibration b w ∧ supOp w = 5) →
      (supBad s b w = false → bit w 23 = true → w ≠ supNow s b →
        ∃ t, Does c s t ∧ t = lineBegin b w (setSup (b.castLE (by decide)) w (lineStop b 2 s)) ∧
          t.core.fab.sup = vset s.core.fab.sup (b.castLE (by decide)) w ∧ (t.lmu.line[b]).lmode.toNat = supOp w ∧
          (t.lmu.line[b]).sweepWait = decide (supOp w = 3 ∨ supOp w = 4) ∧ (t.lmu.line[b]).loadFail = 0 ∧
          (t.lmu.line[b]).winLeft = (if supOp w = 2 then supCount w else if supOp w = 4 ∨ supOp w = 5 then 20 else 0)) ∧
      (supBad s b w = false → (bit w 23 = false ∨ w = supNow s b) → Does c s s) ∧
      (supBad s b w = true → bridgeFitted s b.val = true → Does c s (ignoreCore 13 (supOp w) s)) ∧
      (supBad s b w = true → bridgeFitted s b.val = false → Does c s (ignoreCore 11 (supOp w) s)) ∧
      (supOp w = 4 ∨ supOp w = 5 → s.ret.lc = 2 → supBad s b w = true)) ∧
    (∀ (w : BitVec 24) (c : Instr),
      (c = .earthStop w ∧ supOp w = 0) ∨ (c = .earthContinuous w ∧ supOp w = 1) ∨ (c = .earthCounted w ∧ supOp w = 2) →
      (earthBad w = false → bit w 23 = true → w ≠ s.core.fab.sup[(8 : Fin 9)] → ∃ t, Does c s t ∧
        t.core.fab.sup = vset s.core.fab.sup 8 w ∧
        t.lmu.earth = { s.lmu.earth with mode := supOp w, run := supOp w ≠ 0, left := supCount w, fails := 0, passes := 0 }) ∧
      (earthBad w = false → (bit w 23 = false ∨ w = s.core.fab.sup[(8 : Fin 9)]) → Does c s s) ∧
      (earthBad w = true → Does c s (ignoreCore 13 (supOp w) s)))

/-- R216-R219, R222, R223, R227, R230: the ends of pilot windows, sweeps and earth tests, and the supervision gap. R217, R218:
verdicts of pilot windows: a load window fails against ZPREF by its two tolerances, a continuity window below half of what is
expected; in continuous running PERS windows in a row declare or clear. What is measured is what the DFT of the samples gives, an
opaque constant (log 45); roundings are free (log 16). -/
def Obligations.LineResults : Prop :=
  (∀ s : State, s.resetHeld = false →
    (∀ (b : Fin 8) (m : PilotMeas), s.arb.coreRun = true →
      let l := s.lmu.line[b]
      let on (t : State) : State := modLine t b fun l =>
        { l with nextCont := bothDrive s b && !contNow s b, winLeft := l.winLeft - 1, spoilt := false }
      -- a window that is not valid counts toward its command only
      (l.spoilt = true ∨ lineHit s b = true ∨ lineRuns s b = false → windowValid s b m = false) ∧
      (l.lmode = 2 → 1 < l.winLeft → windowValid s b m = false → Does (.pilotWindowEnd b m) s (on s)) ∧
      (l.lmode = 2 → l.winLeft ≤ 1 → windowValid s b m = false → Does (.pilotWindowEnd b m) s (countedEnd b (on s))) ∧
      -- continuous running: a window that is not valid, a load window, a continuity window
      (l.lmode = 1 → ∃ t, Does (.pilotWindowEnd b m) s (on t) ∧
        (windowValid s b m = false → t = s) ∧
        (windowValid s b m = true → contNow s b = false →
          let z := loadBins s b m
          let zp := zpOf ((freeVal s).toNat.testBit 0) z.1 z.2
          (zpref s b = none → t = freeTaken (modLine s b fun l => { l with zp := zp })) ∧
          (∀ ref, zpref s b = some ref →
            let f := windowFails s b z.1 z.2 ref
            let pers := fld (pilotWord s b.val) 22 4
            (t.lmu.line[b]).zp = zp ∧ (t.lmu.line[b]).gap = false ∧
            (f.1 = true ∨ f.2 = true → (t.lmu.line[b]).loadFail = l.loadFail + 1 ∧ (t.lmu.line[b]).loadPass = 0 ∧
              (l.loadFail + 1 = pers → (t.lmu.line[b]).lfault = true)) ∧
            (f.1 = false → f.2 = false → (t.lmu.line[b]).loadFail = 0 ∧ (t.lmu.line[b]).loadPass = l.loadPass + 1 ∧
              (l.loadPass + 1 = pers → pers ≠ 0 → (t.lmu.line[b]).lfault = false)))) ∧
        (windowValid s b m = true → contNow s b = true →
          let i := contBins s b m
          mag2 i.1 ≠ 0 ∨ mag2 i.2 ≠ 0 →
            (4 * mag2 i.2 < mag2 i.1 → (t.lmu.line[b]).contFail = l.contFail + 1 ∧
              (l.contFail + 1 = fld (pilotWord s b.val) 22 4 → (t.lmu.line[b]).brk = true)) ∧
            (mag2 i.1 ≤ 4 * mag2 i.2 → (t.lmu.line[b]).contFail = 0 ∧ (t.lmu.line[b]).contPass = l.contPass + 1))) ∧
      (l.lmode = 0 ∨ l.lmode = 3 → Does (.pilotWindowEnd b m) s s)) ∧
    (∀ b : Fin 8, controlRuns s = true →
      let l := s.lmu.line[b]
      (l.sweepWait = true → lineRuns s b = true →
        let d := if l.lmode = 3 ∧ supDir (supNow s b) = 2 then 2 else 1
        ∃ t, Does (.sweepStart b) s t ∧
          t.lmu = { s.lmu with line := vset s.lmu.line b { l with
            sweepWait := false, sweepDir := d, hand := 0, sweepAge := 0, intAge := 0, integ := false, badPer := [] } } ∧
          (isLoop s b.val = true → (t.bridges[if d = 1 then mate b else b]).held = true ∧
            (t.bridges[if d = 1 then b else mate b]).held = false) ∧
          (isLoop s b.val = false → t.bridges = s.bridges)) ∧
      (l.sweepWait = false ∨ lineRuns s b = false → Does (.sweepStart b) s s)) ∧
    (∀ (b : Fin 8) (m : SweepMeas), s.arb.coreRun = true →
      let l := s.lmu.line[b]
      let ready : Prop := l.sweepDir ≠ 0 ∧ l.hand = 0 ∧ l.integ = true ∧ 16384 * sweepQ s b ≤ l.intAge
      let ps := keptPeriods (sweepQ s b) l m
      let bands := estimates (lineCf s b) (fld (pilotWord s b.val) 0 8) ps
      let kept := decide (sweepQ s b ≤ 2 * ps.length)
      let took : State := modLine s b fun l =>
        if l.sweepDir = 1 then { l with resA := bands, keptA := kept } else { l with resB := bands, keptB := kept }
      (ready → bothWays s b = false → Does (.sweepIntegrationEnd b m) s (sweepDone b took)) ∧
      (ready → bothWays s b = true → ∃ t, Does (.sweepIntegrationEnd b m) s t ∧
        (t.lmu.line[b]) = { (took.lmu.line[b]) with hand := 96, integ := false } ∧
        (t.bridges[b]).held = false ∧ (t.bridges[mate b]).held = false) ∧
      (¬ ready → Does (.sweepIntegrationEnd b m) s s)) ∧
    (∀ b : Fin 8, controlRuns s = true → s.pm.st.toNat < 2 → supervised s b = true → (s.lmu.line[b]).gap = false →
      Does (.supervisionGap b) s (raiseEv 98 (b.val + 8) (modLine s b fun l => { l with gap := true, seen := true }))) ∧
    (∀ m : EarthMeas, s.arb.coreRun = true → s.lmu.earth.mode = 1 →
      let e := s.lmu.earth
      let p := meanCode m.plus
      let n := meanCode m.minus
      let d := p - n
      -- R_leak = 5.00 V / d - 100 kOhm, where d in codes of 4.0 mA / 32768 gives 40960 / d - 100
      let low : Prop := 40960 / d - 100 < (fld (supLimits s) 8 8 : Rat)
      let high : Prop := 16384 < p + n ∨ p + n < -16384
      d ≠ 0 → ∃ t, Does (.earthTestEnd m) s t ∧ t.lmu.earth.rleak = BitVec.ofNat 8 (leakOf (freeVal s).toNat d) ∧
        (¬ low → ¬ high → t.lmu.earth.fails = 0 ∧ t.lmu.earth.passes = e.passes + 1 ∧
          (2 ≤ e.passes + 1 → t.lmu.earth.fault = false)) ∧
        (low ∨ high → t.lmu.earth.passes = 0 ∧ t.lmu.earth.fails = e.fails + 1 ∧
          (2 ≤ e.fails + 1 → t.lmu.earth.fault = true)))) ∧
  (∀ (s : State) (b : Fin 8),
    -- |V| / |I| in steps of 8 Ohm against ZPREF, in 0.1 Ohm, and its tolerances in percent
    (∀ (v i : Int × Int) (zp : Nat), windowFails s b v i zp =
      (decide (8000 ^ 2 * mag2 v < (zp * (100 - fld (pilotWord s b.val) 8 7)) ^ 2 * mag2 i),
       decide ((zp * (100 + fld (pilotWord s b.val) 15 7)) ^ 2 * mag2 i < 8000 ^ 2 * mag2 v))) ∧
    (∀ pers fails passes : Nat,
      (fails = pers → persVerdict pers fails passes = some true) ∧
      (fails ≠ pers → passes = pers → persVerdict pers fails passes = some false) ∧
      (fails ≠ pers → passes ≠ pers → persVerdict pers fails passes = none)) ∧
    (∀ on high : Bool, (s.lmu.line[b]).lfault ≠ on →
      (setLoadFault b on high s).lmu.line[b].lfault = on ∧
      (setLoadFault b on high s).hosts.evBuf.length = s.hosts.evBuf.length + 1) ∧
    (∀ on high : Bool, (s.lmu.line[b]).lfault = on → setLoadFault b on high s = s))

/-- R255, R257, R261, R264, R266, R268: scans are published into their banks, then their comparators and contact inputs
evaluate; a NIGHT scan needs KF; the sentinels follow their lands. R260, R261: a comparator with PERS = p leaves its band at
the p-th value in a row outside it, with its event; with PERS = 0 it is off. -/
def Obligations.ScansAndComparators : Prop :=
  (∀ (s : State) (m : ScanMeas), s.resetHeld = false →
    let put (d : Sadc) : State := { s with sadc := d }
    (s.sadc.s0.due = true → DoesWake (.scanPublish false m) s
      (writeScanMirror (evalS0 (put { s.sadc with s0 := takeS0 s m s.sadc.s0.scanF s.sadc.s0 })))) ∧
    (s.sadc.s1.due = true → DoesWake (.scanPublish true m) s
      (writeScanMirror (evalS1 (put { s.sadc with s1 := takeS1 s false m s.sadc.s1.scanF s.sadc.s1 })))) ∧
    (s.sadc.s0.due = false → DoesWake (.scanPublish false m) s s) ∧
    (s.sadc.s1.due = false → DoesWake (.scanPublish true m) s s) ∧
    (s.pm.st = 2 → domOn s 11 = false → s.clk.kfLock = true → DoesWake (.nightScan m) s
      (evalS1 (put { s.sadc with s1 := takeS1 s true m s.time.frame s.sadc.s1 }))) ∧
    (s.pm.st ≠ 2 → DoesWake (.nightScan m) s s) ∧
    (∀ n : Fin 2, DoesWake (.sentinelTrip n) s (put { s.sadc with sent := setBit s.sadc.sent n.val true }) ∧
      DoesWake (.sentinelReturn n) s (put { s.sadc with sent := setBit s.sadc.sent n.val false })) ∧
    (∀ (k : Bank) (f : Word), (takeS0 s m f k).seq = k.seq + 1 ∧ (takeS0 s m f k).valid = true ∧
      (takeS0 s m f k).nscan = false ∧ (takeS0 s m f k).frm = f ∧
      (takeS1 s true m f k).nscan = true ∧ (takeS1 s false m f k).nscan = false ∧
      (∀ c : Fin 16, bridgeFitted s (c.val / 2) = false → (takeS0 s m f k).vals[c] = 0) ∧
      (∀ c : Fin 16, bridgeFitted s (c.val / 2) = true → ∀ x ∈ m.convs.getD c.val [],
        x.toInt.natAbs ≤ ((takeS0 s m f k).vals[c]).toNat))) ∧
  (∀ (s : State) (k : Fin 32), let w := tword s.sadc.tab k.val
    let p := cmpPers w
    let v := cmpValue s.sadc k.val
    let low := 16 * cmpField k.val w 0
    let high := 16 * cmpField k.val w 12
    (p = 0 → cmpEval k s = s) ∧
    (p ≠ 0 → cmpApplies s k.val = true → cmpSide s.sadc k.val = .inBand → (high < v ∨ v < low) →
      p ≤ (s.sadc.cmp[k]).lowCnt + 1 → ∃ t, cmpEval k s = raiseEv (48 + k.val)
        ((v % 2 ^ 16).toNat + 2 ^ 16 * (if high < v then 1 else 0)) t ∧
        t.sadc = { s.sadc with below := setBit s.sadc.below k.val (!decide (high < v))
                               above := setBit s.sadc.above k.val (decide (high < v))
                               seen := setBit s.sadc.seen k.val true, cmp := vset s.sadc.cmp k {} }) ∧
    (p ≠ 0 → cmpApplies s k.val = true → cmpSide s.sadc k.val = .inBand → (high < v ∨ v < low) →
      (s.sadc.cmp[k]).lowCnt + 1 < p → cmpEval k s =
        { s with sadc := { s.sadc with cmp := vset s.sadc.cmp k { lowCnt := (s.sadc.cmp[k]).lowCnt + 1, backCnt := 0 } } }) ∧
    (p ≠ 0 → cmpApplies s k.val = true → cmpSide s.sadc k.val = .inBand → low ≤ v → v ≤ high →
      cmpEval k s = { s with sadc := { s.sadc with cmp := vset s.sadc.cmp k {} } }))

/-- R180, R234, R235, R237, R239-R243, R250, R251: the converter die: gains, overload, the jack, the privacy mute, MICPWR,
the quiet charge, and the end of a clock-rate change. -/
def Obligations.ConverterRows : Prop :=
  ∀ s : State, s.resetHeld = false →
    let put (c : Conv) : State := { s with conv := c }
    let c := s.conv
    -- gains
    (∀ (m : Fin 8) (w : BitVec 24), controlRuns s = true → cslot s ≠ 0 →
      (gainBad s m.val w = true → Does (.gainCommand m w) s (ignoreCore 13 0 s)) ∧
      (gainBad s m.val w = false → bit w 23 = true →
        Does (.gainCommand m w) s (put { c with gpend := vset c.gpend m (some (w.setWidth 7)) })) ∧
      (gainBad s m.val w = false → bit w 23 = false → Does (.gainCommand m w) s s)) ∧
    (∀ m : Fin 8, domOn s 9 = true →
      (∀ g, c.gpend[m] = some g → Does (.gainApply m) s
        (put { c with gain := vset c.gain m g, gpend := vset c.gpend m none
                      filt := vmod c.filt (m.castLE (by omega)) fun x => { x with dc := [] } })) ∧
      (c.gpend[m] = none → Does (.gainApply m) s s)) ∧
    (∀ m : Fin 8, domOn s 9 = true → inputOn s m.val = true →
      Does (.inputOverload m) s (raiseLimited 40 m.val m.val none (put { c with ovl := setBit c.ovl m.val true }))) ∧
    -- the jack
    (c.jdet = false → domOn s 10 = true → Does .jackInsertion s
      (setJack 1 (put { c with jdet := true, hpDet := detPol s }))) ∧
    (c.jdet = false → domOn s 10 = false → Does .jackInsertion s (put { c with jdet := true, hpDet := detPol s })) ∧
    (c.jdet = true → Does .jackRemoval s (setJack 0 (put { c with jdet := false, hpDet := !detPol s }))) ∧
    (∀ r1 r2 : Nat, c.jclass = 1 →
      Does (.jackClassified r1 r2) s (setJack (BitVec.ofNat 3 (min (loadClass r1) (loadClass r2))) s)) ∧
    (∀ (k : BitVec 3) (u : State), u.conv.jclass ≠ k → k ≠ 2 →
      setJack k u = raiseEv 41 k.toNat { u with conv := { u.conv with jclass := k } }) ∧
    (∀ u : State, u.conv.jclass ≠ 2 →
      setJack 2 u = raiseEv 42 2 (raiseEv 41 2 { u with conv := { u.conv with jclass := 2 } })) ∧
    -- the privacy mute
    (c.privMute = false → ∃ t, DoesWake .privacyAssert s (raiseEv 44 1 t) ∧ t.conv.privMute = true ∧ t.conv.muteSeen = true ∧
      t.conv.micpwr = false ∧ (∀ q : Fin 4, t.conv.pdmOn[q] = false) ∧ t.wake.pre = [] ∧ t.wake.privNext = true) ∧
    (c.privMute = true → DoesWake .privacyAssert s s) ∧
    (c.privMute = true → ∃ t, DoesWake .privacyRelease s (raiseEv 44 0 t) ∧
      t.conv.privMute = false ∧ t.conv.muteSeen = true ∧ t.conv.micOff = false ∧ t.conv.micpwr = micWanted s ∧ t.conv.clkWait = true ∧
      t.conv.pdmOn = c.pdmOn) ∧
    (c.clkWait = true → c.privMute = false → ∃ t, Does .pdmClockRestart s t ∧ t.wake.gapNext = true ∧
      (∀ q : Fin 4, t.conv.pdmOn[q] = (pdmWanted s q && decide (c.pdmRate[q] ≠ 0)))) ∧
    -- MICPWR, the quiet charge, and a rate change
    (c.micpwr = true → ∃ t, Does .micpwrOvercurrent s (raiseEv 43 0 t) ∧ t.conv.micpwr = false ∧ t.conv.micOff = true ∧
      t.conv.micFlt = true ∧ t.wake.mpfNext = true ∧ t.conv.pdmOn = c.pdmOn ∧
      (∀ i : Fin 16, 8 ≤ i.val → (t.conv.filt[i]).gain = 0 ∧ (t.conv.filt[i]).bad = true)) ∧
    (c.micOff = true → ∃ t, Does .micpwrRetry s t ∧ t.conv.micOff = false ∧ t.conv.micpwr = (micWanted s && !c.privMute)) ∧
    (c.vo = .up2 → Does (.quietChargeDone true) s (put { c with vo := .up3, voPos := 0 })) ∧
    (c.vo = .down1 → Does (.quietChargeDone false) s (put { c with vo := .rest, voPos := 0 })) ∧
    (∀ q : Fin 4, ∃ t, Does (.pdmRateChangeEnd q) s t ∧ t.conv = { c with pdmFade := vset c.pdmFade q false }) ∧
    (∀ r : Nat, loadClass r = if r < 8000 then 2 else if r ≤ 1000000 then 3 else if r ≤ 50000000 then 4 else 5)

/-- R274-R284, R422: acoustic wake: the block strobe, the candidate limit, captures, and DET. -/
def Obligations.WakeRows : Prop :=
  ∀ s : State, s.resetHeld = false →
    (∀ xs : List (BitVec 16 × BitVec 16),
      (s.wake.loaded = false → ∃ t, DoesWake (.wakeBlockStrobe xs) s t ∧ t.wake.b = s.wake.b + 1 ∧ t.wake.pre = s.wake.pre ∧
        t.wake.we = s.wake.we ∧ t.core = s.core) ∧
      (s.wake.loaded = true → ∃ t, DoesWake (.wakeBlockStrobe xs) s t ∧ t.wake.b = s.wake.b + 1 ∧
        (mwf 0 s.wake.marks = true → mget 0 t.wake.marks (s.wake.b.toNat % 2048) = blockMarks s) ∧
        (mwf 0 s.wake.we.x = true → (weX t 0xFFF).toNat = s.wake.b.toNat) ∧
        t = releaseWe (let u := readMailbox (ageCandidate (storeBlock xs s))
                       weXSet 0xFFF (BitVec.ofNat 24 (newestBlock u)) (weXSet 0xFFE (wstat u) u)))) ∧
    -- R277: past its limit a candidate is told, and no longer holds anything back; PRIV_MUTE leaves none to tell
    (s.wake.cand = true → s.wake.candAge < 1500 → s.conv.privMute = false → ∃ t, Does .candidateTimeout s t ∧
      t.wake.cto = true ∧ t.wake.cand = true ∧ candDefers t = false ∧ t.conv.pend0 = none) ∧
    (s.wake.cand = false → Does .candidateTimeout s s) ∧
    (s.wake.capBusy = true → ∃ t, Does .captureDone s t ∧ t.wake = { s.wake with capBusy := false, capDone := true }) ∧
    (s.wake.capBusy = false → Does .captureDone s s) ∧
    (∀ (p : PortId) (v : Word), let pv : PortView := { port := p, host := .a }
      viewOpen s pv = true →
      (s.ret.lc = 3 → s.conv.permit ≠ 0 → s.wake.capBusy = false → s.conv.privMute = false →
        DoesWake (.capture pv v) s { s with wake := { s.wake with capBusy := true, capDone := false
                                                                  cap := msetAll 0 [] 0 (captureWords s) } }) ∧
      (s.ret.lc ≠ 3 ∨ s.conv.permit = 0 → DoesWake (.capture pv v) s (ignoreReg pv 4 3 0x7B s)) ∧
      (s.ret.lc = 3 → s.conv.permit ≠ 0 → s.wake.capBusy = true → DoesWake (.capture pv v) s (ignoreReg pv 14 3 0x7B s)) ∧
      (s.ret.lc = 3 → s.conv.permit ≠ 0 → s.wake.capBusy = false → s.conv.privMute = true →
        DoesWake (.capture pv v) s (ignoreReg pv 15 3 0x7B s)) ∧
      (∃ t, DoesWake (.detAck pv v) s t ∧ t.wake.det = false ∧ t.wake.dcount = 0 ∧ t.wake.wrec = s.wake.wrec)) ∧
    -- R276, R280: a report for a class of 4 and above, or one that is masked, is counted as discarded; another is detected
    (∀ r st : Sample, bit r 23 = true →
      (4 ≤ fld r 16 4 ∨ bit s.wake.word (2 + fld r 16 4) = false →
        actReport r st s = { s with wake := { s.wake with disc := sat8 s.wake.disc } }) ∧
      (fld r 16 4 < 4 → bit s.wake.word (2 + fld r 16 4) = true →
        actReport r st s = detect (fld r 16 4) (fld r 8 8) st.toNat s))

/-- R311-R315, R321, R323: the entry handshake: a block agrees, delays or refuses; no answer aborts; NIGHT is reached at the end
of the window, and a level source that is set then starts the DAWN. An abort ends the request, keeps the state, and is written
and reported when every stopped block runs again. -/
def Obligations.EntryHandshake : Prop :=
  ∀ s : State, s.resetHeld = false →
    (s.pm.entry = none → (∀ t : Nat, Does (.handshakeReply t) s s) ∧ Does .handshakeDelayEnd s s ∧ Does .handshakeNoReply s s) ∧
    (∀ e : Entry2, s.pm.entry = some e → e.waiting = false → e.window = false →
      (∀ t : Nat,
        (blockReply s e.block e.target = .agree → ∃ u v, Does (.handshakeReply t) s v ∧ u = blockStops e.block e.target s ∧
          v = nextBlock e u ∧ ∃ e', v.pm.entry = some e' ∧ e'.from_ = e.from_ ∧ e'.target = e.target ∧
            e'.stopped = e.block :: e.stopped ∧ e'.waiting = false ∧
            (∀ b bs, (entryBlocks u e.target).filter (e.block < ·) = b :: bs → e'.block = b ∧ e'.delays = 0 ∧ e'.window = false) ∧
            ((entryBlocks u e.target).filter (e.block < ·) = [] → e'.window = true)) ∧
        (blockReply s e.block e.target = .refuse → Does (.handshakeReply t) s (abortEntry e.block 1 [] s)) ∧
        (blockReply s e.block e.target = .delay → 8 ≤ e.delays → e.block ≠ 0 →
          Does (.handshakeReply t) s (abortEntry e.block 2 [] s)) ∧
        (blockReply s e.block e.target = .delay → e.delays < 8 ∨ e.block = 0 → ∃ u, Does (.handshakeReply t) s u ∧
          u.pm = { s.pm with entry := some { e with delays := e.delays + 1, waiting := true }
                             tdmHalt := s.pm.tdmHalt || decide (e.block = 2) })) ∧
      Does .handshakeNoReply s (abortEntry e.block 6 [] s)) ∧
    -- R313, R314: an entry at whose abort nothing stands stopped
    (∀ (e : Entry2) (r : Nat), s.pm.entry = some e → e.stopped = [] → s.pm.repeat_ = false →
      (∀ d, s.pm.dawn = some d → d.kind = .side) → ∃ t,
      abortEntry e.block r [] s = raiseDusk (raiseEv 6 (e.block + 16 * r) t) ∧ t.wake.nightAsk = false ∧
      t.pm = { s.pm with entry := none, back := none, req := none, wdogSince := false, abBlock := BitVec.ofNat 4 e.block
                         abReason := BitVec.ofNat 4 r, abFrom := e.from_, abTarget := e.target, aborts := sat8 s.pm.aborts
                         tdmHalt := s.pm.tdmHalt && decide (e.block ≠ 2) }) ∧
    (∀ e : Entry2, s.pm.entry = some e → e.waiting = false → e.window = false → e.stopped = [] → s.pm.st = 0 → s.pm.tdmHalt = false →
      s.pm.repeat_ = false → (∀ d, s.pm.dawn = some d → d.kind = .side) →
      ∃ t, exec .handshakeNoReply s = .next t ∧ t.pm = { s.pm with entry := none, back := none, req := none, wdogSince := false
                                                                   abBlock := BitVec.ofNat 4 e.block, abReason := 6
                                                                   abFrom := e.from_, abTarget := e.target
                                                                   aborts := sat8 s.pm.aborts }) ∧
    -- R313: blocks that stand stopped run again before the abort is reported; those of one step of the wake table together
    (∀ (e : Entry2) (b r : Nat) (cs : List Nat), s.pm.entry = some e → e.stopped = b :: cs → stepOfBlock b ≠ 0 → s.pm.dawn = none →
      s.pm.repeat_ = false →
      let d : Dawn := { kind := .back, side := s.arb.active, step := stepOfBlock b, target := e.from_
                        blocks := b :: cs.filter fun c => stepOfBlock c = stepOfBlock b }
      (stepDoms s d d.step).all (domOn s) = false → ∃ t, abortEntry e.block r [] s = t ∧ t.pm.entry = none ∧ t.pm.st = s.pm.st ∧
        t.pm.aborts = s.pm.aborts ∧ t.pm.back = some { block := e.block, reason := r, from_ := e.from_, target := e.target
                                                       todo := cs.filter fun c => stepOfBlock c ≠ stepOfBlock b } ∧
        ∃ d', t.pm.dawn = some d' ∧ d'.kind = .back ∧ d'.step = stepOfBlock b ∧ d'.blocks = d.blocks) ∧
    (∀ e : Entry2, s.pm.entry = some e → e.waiting = true → ∃ t, Does .handshakeDelayEnd s t ∧
      t.pm = { s.pm with entry := some { e with waiting := false } }) ∧
    (∀ e : Entry2, s.pm.entry = some e → e.window = true → e.target = 2 → s.pm.st ≠ 2 → ∃ t, t = windowEnds s ∧
      t.pm.st = 2 ∧ t.pm.entry = none ∧ t.pm.req = none ∧ t.pm.held = true ∧ t.pm.kaHeld = true ∧
      t.ports.tw[twIx .h0].phase = .idle ∧ t.ports.tw[twIx .h1].phase = .idle ∧
      (wakeCode s = none → Does .entryWindowEnd s t) ∧
      (∀ c, wakeCode s = some c → Does .entryWindowEnd s (dawnStart t)))

/-- R316, R317, R319, R320, R321, R330: the DAWN: its start, its steps with the domains and clocks that each brings, the end at
the keeper's boundary, the retry of a failed step, the second failure of each step, and the repeat. -/
def Obligations.DawnSequence : Prop :=
  ∀ s : State, s.resetHeld = false →
    let ok (x : Side) := s.feeds[sideIx x].ok
    -- R316, R317: the start from reset, and the start from NIGHT by the lowest code that is set
    (s.pm.st = 3 → s.pm.dawn = none → s.pm.repeat_ = false → s.clk.kfLock = true → s.ret.wiping = false → (ok .a || ok .b) = true →
      ∃ t, Does .dawnStart s t ∧ domOn t 2 = true ∧ t.pm.st = 3 ∧ t.pm.wakeSrc = 0 ∧
        t.pm.dawn = some { kind := .full, side := s.arb.selPref, step := 1, target := 0, boot := true }) ∧
    (∀ c : Nat, s.pm.st = 2 → wakeCode s = some c → s.pm.dawn = none → s.pm.repeat_ = false → s.pm.entry = none →
      ∃ t, Does .dawnStart s t ∧ domOn t 2 = true ∧ t.pm.st = 2 ∧ t.pm.wakeSrc = BitVec.ofNat 4 c ∧
        t.pm.dawn = some { kind := .full, side := s.arb.active, step := 1, target := if c < 5 then 0 else 1 }) ∧
    (s.pm.dawn = none → Does .dawnStepReady s s ∧ (∀ w k, Does (.dawnStepTimeout w k) s s) ∧ Does .dawnRetryOffEnd s s) ∧
    (∀ d : Dawn, s.pm.dawn = some d → d.off = false → s.pm.back = none → d.kind ≠ .back →
      let x := sideIx d.side
      let goes (t : State) (n : Nat) : Prop := ∃ e, t.pm.dawn = some e ∧ e.step = n ∧ e.kind = d.kind ∧ e.target = d.target ∧
        e.off = false ∧ e.retried = false ∧ (2 ≤ d.step → e.side = d.side) ∧ (d.step = 4 → e.wipe = decide (d.kind ≠ .side)) ∧
        (n < 7 → ∀ k ∈ stepDoms s e n, domOn t k = true)
      -- R317: a step is ready
      (stepClocked s d = true → (2 ≤ d.step → d.step < 7 → ok d.side = true) →
        (1 ≤ d.step → d.step < 6 → ∃ t, Does .dawnStepReady s t ∧ goes t (d.step + 1) ∧ (d.step = 1 → t.pm.ksOff = false) ∧
          (d.step = 3 → d.kfRef = false → t.clk.xo[x] = true) ∧ (d.step = 4 → t.clk.fl[x] = true)) ∧
        (d.step = 6 → d.kind = .side → ∃ t, Does .dawnStepReady s t ∧ t.pm.dawn = none ∧ t.arb.stbyUp = true ∧
          t.mirror.fill = some .all ∧ t.clk.el[x] = true ∧ t.pm.sideFails[x] = 0) ∧
        (d.step = 6 → d.kind ≠ .side → ∃ t, Does .dawnStepReady s t ∧ t.clk.el[x] = true ∧
          goes t (if stepDoms s d 7 ≠ [] then 7 else if stepDoms s d 8 ≠ [] then 8 else 9)) ∧
        (d.step = 7 → ∃ t, Does .dawnStepReady s t ∧ goes t (if stepDoms s d 8 ≠ [] then 8 else 9) ∧
          ∀ k ∈ stepDoms s d 7, domOn t k = true) ∧
        (d.step = 8 → ∃ t, Does .dawnStepReady s t ∧ goes t 9 ∧ ∀ k ∈ stepDoms s d 8, domOn t k = true)) ∧
      (stepClocked s d = false ∨ 9 ≤ d.step ∨ (2 ≤ d.step ∧ d.step < 7 ∧ ok d.side = false) → Does .dawnStepReady s s) ∧
      -- R317: after step 9 the side runs frames
      (d.step = 9 → d.wipe = false → (finishDawn s).pm.st = d.target ∧ (finishDawn s).arb.coreRun = true ∧
        (finishDawn s).arb.active = d.side) ∧
      ∀ (w : BitVec 3) (k : BitVec 4),
        -- R319: the first time, the step's domains go off for 100 us
        (d.step < 9 → d.retried = false → ∃ t, Does (.dawnStepTimeout w k) s t ∧
          t.pm.dawn = some { d with retried := true, off := true } ∧ t.pm.dwRetries = sat8 s.pm.dwRetries ∧
          (d.step < 7 → ∀ j ∈ stepDoms s d d.step, domOn t j = false)) ∧
        (d.step < 9 → d.retried = true →
          let n := failDomain s d k.toNat
          let latched (t : State) : Prop := t.pm.dwFail = true ∧ t.pm.dwStep.toNat = d.step ∧ t.pm.dwDomain = BitVec.ofNat 4 n ∧
            t.pm.dwCause = BitVec.ofNat 3 (failCause d.step w.toNat) ∧ t.pm.dwSide = d.side
          -- R319, R320: the second time: KS is left off; a side DAWN ends; the other side is tried; a domain is left off
          (d.step = 1 → ∃ t, Does (.dawnStepTimeout w k) s t ∧ latched t ∧ goes t 2 ∧ t.pm.ksOff = true ∧ domOn t 2 = false) ∧
          (2 ≤ d.step → d.step < 7 → d.kind = .side → ∃ t, Does (.dawnStepTimeout w k) s t ∧ latched t ∧ t.pm.dawn = none ∧
            t.pm.sideFails[x] = s.pm.sideFails[x] + 1 ∧ domOn t (coreDom d.side) = false) ∧
          (2 ≤ d.step → d.step < 7 → d.kind ≠ .side → d.other = none → ok (other d.side) = true →
            ∃ t e, Does (.dawnStepTimeout w k) s t ∧ latched t ∧ t.arb.lastCause = 5 ∧ t.pm.dawn = some e ∧
              e.side = other d.side ∧ e.step = 2 ∧ e.other = some d.step ∧ domOn t (coreDom (other d.side)) = true) ∧
          (2 ≤ d.step → d.step < 7 → d.kind ≠ .side → d.other = none → ok (other d.side) = false →
            ∃ t, Does (.dawnStepTimeout w k) s t ∧ latched t ∧ t.pm.dawn = none ∧ t.pm.repeat_ = true) ∧
          (d.step = 3 → d.kind ≠ .side → d.other = some 3 → d.kfRef = false →
            ∃ t e, Does (.dawnStepTimeout w k) s t ∧ latched t ∧ t.pm.dawn = some e ∧ e.side = s.arb.selPref ∧ e.step = 2 ∧
              e.kfRef = true) ∧
          (∀ i, 2 ≤ d.step → d.step < 7 → d.kind ≠ .side → d.other = some i → (i ≠ 3 ∨ d.step ≠ 3 ∨ d.kfRef = true) →
            ∃ t, Does (.dawnStepTimeout w k) s t ∧ latched t ∧ t.pm.dawn = none ∧ t.pm.repeat_ = true) ∧
          (d.step = 7 ∨ d.step = 8 → ∃ t, Does (.dawnStepTimeout w k) s t ∧ latched t ∧
            (∀ j ∈ stepDoms s d d.step, j ≠ n → domOn t j = true) ∧
            goes t (if d.step = 7 ∧ stepDoms s d 8 ≠ [] then 8 else 9)))) ∧
    (∀ d : Dawn, s.pm.dawn = some d → d.off = true → ∃ t, Does .dawnRetryOffEnd s t ∧ t.pm.dawn = some { d with off := false } ∧
      (d.step < 7 → ∀ k ∈ stepDoms s d d.step, domOn t k = true) ∧ (7 ≤ d.step → t.pm.on = s.pm.on)) ∧
    (∀ d : Dawn, s.pm.dawn = some d → Does .delaySramWipeDone s
      { s with pm := { s.pm with dawn := some { d with wipe := false } } }) ∧
    -- R320: the whole DAWN runs again, toward DAY after a reset, and where the wake sources say from NIGHT
    (s.pm.repeat_ = false → Does .dawnRepeat s s) ∧
    (s.pm.repeat_ = true → s.pm.dawn = none → s.clk.kfLock = true → s.ret.wiping = false → (ok .a || ok .b) = true →
      ∃ t e, Does .dawnRepeat s t ∧ t.pm.repeat_ = false ∧ t.pm.dawn = some e ∧ e.step = 1 ∧ domOn t 2 = true ∧
        (s.pm.st = 3 → e.kind = .full ∧ e.boot = true ∧ e.target = 0 ∧ e.side = s.arb.selPref) ∧
        (s.pm.st = 2 → e.kind = .full ∧ e.boot = false ∧ e.side = s.arb.active ∧
          ∀ c, wakeCode s = some c → e.target = wakeTarget c) ∧
        (s.pm.st.toNat < 2 → e.kind = .restart ∧ e.side = s.arb.active ∧ e.target = s.pm.st))

/-- R325, R326: a unit of an open set reports ready; at a boundary the set opens, commits when every unit concerned is
ready, or is withdrawn when its deadline has passed. -/
def Obligations.StagedSets : Prop :=
  ∀ (s : State) (x : StagedSet), s.resetHeld = false → s.pm.set = some x →
    (∀ u : Fin 12, x.opened = true → bit x.concerned u.val = true → unitMay s x u.val = true →
      Does (.unitReady u) s { s with pm := { s.pm with set := some { x with ready := setBit x.ready u.val true } } }) ∧
    (∀ u : Fin 12, (x.opened = false ∨ bit x.concerned u.val = false ∨ unitMay s x u.val = false) → Does (.unitReady u) s s) ∧
    (x.opened = false → stageBoundary s =
      { s with pm := { s.pm with set := some { x with opened := true, left := x.deadline, ready := readyAtOnce s x } } }) ∧
    (x.opened = true → x.concerned &&& ~~~ x.ready = 0 → stageBoundary s = stageCommit x s) ∧
    (x.opened = true → x.concerned &&& ~~~ x.ready ≠ 0 → x.left ≤ 1 → ∃ t,
      stageBoundary s = raiseEv 8 (x.concerned &&& ~~~ x.ready).toNat t ∧
      t = { s with pm := { s.pm with set := none, result := 2, nrdy := x.concerned &&& ~~~ x.ready } }) ∧
    (x.opened = true → x.concerned &&& ~~~ x.ready ≠ 0 → 1 < x.left →
      stageBoundary s = { s with pm := { s.pm with set := some { x with left := x.left - 1 } } })

/-- R333, R335, R339, R342-R347: the framing of the two-wire targets: START, address, pointer, STOP, a START or STOP in an
acknowledge slot, a line held low, in-band requests, and the address that wakes the device from NIGHT. R352-R354: the fast
port: writes, reads, its status byte, an opcode that is not assigned, and the end of a transfer. -/
def Obligations.TwoWireAndFastPort : Prop :=
  (∀ (s : State) (w : TwId), s.resetHeld = false →
    let x := s.ports.tw[twIx w]
    let pt := twPort w
    (twListens s w = true → x.phase = .idle ∨ x.phase = .deaf ∨ x.phase = .addr ∨ x.phase = .pointer →
      DoesWake (.twStart w) s (modTw (setPhase w .addr none (endTransfer pt s)) w fun t => { t with reqRun := false }) ∧
      DoesWake (.twStop w) s (modTw (setPhase w .idle none (endTransfer pt s)) w fun t => { t with use := t.cfg })) ∧
    (∀ r : Bool, x.phase = .held r → DoesWake (.twStart w) s s ∧ DoesWake (.twStop w) s s) ∧
    (∀ (b : Byte) (n : Nat), x.phase = .addr → twListens s w = true →
      (nightWindow s = true → DoesWake (.twAddressByte w b n) s (setNack true (setPhase w .deaf none s))) ∧
      (nightWindow s = false → addressView s w (fld b 1 7) = none →
        DoesWake (.twAddressByte w b n) s (setNack true (setPhase w .deaf none s))) ∧
      (∀ h, nightWindow s = false → addressView s w (fld b 1 7) = some h →
        (bit b 0 = false → DoesWake (.twAddressByte w b n) s (setPhase w .pointer (some h) (setNack false s))) ∧
        (bit b 0 = true → DoesWake (.twAddressByte w b n) s
          (deliverBytes (readBytes ⟨pt, h⟩ n (setPhase w (.data true) (some h) (setNack false s))))))) ∧
    (∀ (b : Byte) (h : HostId), x.phase = .pointer → x.view = some h → DoesWake (.twPointerByte w b) s
      (setNack false (setPhase w (.data false) (some h) (modPv s ⟨pt, h⟩ fun v => { v with ptr := b, hold := none })))) ∧
    (x.phase = .addr ∨ x.phase = .pointer →
      DoesWake (.twAckSlotAbort w true) s (raiseLimited 112 (twIx w).val (twIx w).val none
        (setPhase w .addr none (modTw (endTransfer pt s) w fun t => { t with rsack := sat8 t.rsack }))) ∧
      DoesWake (.stretchTimeout w) s
        (raiseEv 113 (twIx w).val (modTw (setPhase w .deaf none (endTransfer pt s)) w fun t => { t with sto := true }))) ∧
    (x.phase = .idle → (∀ r : Bool, DoesWake (.twAckSlotAbort w r) s s) ∧ DoesWake (.stretchTimeout w) s s) ∧
    (reqOn s w = true → x.due = true → x.phase = .idle → s.pm.st ≠ 2 →
      Does (.inbandRequest w) s (modTw s w fun t => { t with reqRun := true })) ∧
    (s.pm.st = 2 → Does (.inbandRequest w) s s) ∧
    (x.reqRun = true → Does (.inbandRequestEnd w) s (modTw s w fun t => { t with reqRun := false, due := false })) ∧
    (reqOn s w = true → twOpens s (twIx w) .a = true → s.hosts.evq[(0 : Fin 3)] ≠ [] → s.hosts.evTouched[(0 : Fin 3)] = false →
      Does (.inbandRequestRedue w) s (modTw s w fun t => { t with due := true })) ∧
    (∀ (b : Byte), w ≠ .p → portLogicUp s = false → x.phase = .idle →
      (∀ h, addressView s w (fld b 1 7) = some h → DoesWake (.nightAddressMatch w b) s
        (wakeDawn (10 + (twIx w).val) (setPhase w (.held (bit b 0)) (some h) (setNack false s)))) ∧
      (∀ h, addressView s w (fld b 1 7) = some h → s.pm.st = 2 → s.pm.dawn = none → s.pm.repeat_ = false → s.pm.entry = none →
        ∃ t d, DoesWake (.nightAddressMatch w b) s t ∧ (t.ports.tw[twIx w]).phase = .held (bit b 0) ∧
          (t.ports.tw[twIx w]).view = some h ∧ t.ports.nack = false ∧ t.pm.wakeSrc.toNat = 10 + (twIx w).val ∧
          t.pm.dawn = some d ∧ d.step = 1 ∧ d.target = 1 ∧ d.side = s.arb.active) ∧
      (addressView s w (fld b 1 7) = none → DoesWake (.nightAddressMatch w b) s (setNack true s))) ∧
    (∀ n : Nat, portLogicUp s = true → DoesWake (.portLogicReady n) s (logicReadyOn n .h1 (logicReadyOn n .h0 s))) ∧
    (∀ (n : Nat) (h : HostId), x.phase = .held false → x.view = some h →
      logicReadyOn n w s = setPhase w .pointer (some h) s)) ∧
  (∀ (s : State) (m3 : Bool), s.resetHeld = false →
    (portLogicUp s = true →
      let t := fpBegins m3 s
      (∀ (page ptr : Byte) (h : HostId), fpView t = some h →
        let u := modPv t ⟨.f, h⟩ fun v => { v with page := page, ptr := ptr, hold := none }
        (∀ bs : List Byte, DoesWake (.wrq m3 page ptr bs) s (writeBytes ⟨.f, h⟩ bs u)) ∧
        (∀ n : Nat, DoesWake (.rdq m3 page ptr n) s (deliverBytes (0xA5 :: (readBytes ⟨.f, h⟩ n u).1, (readBytes ⟨.f, h⟩ n u).2))) ∧
        Does (.rdsr m3) s { t with ports := { t.ports with rd := [fpStatusByte t ⟨.f, h⟩] } }) ∧
      (∀ op : Byte, op ≠ 0x32 → op ≠ 0x6B → op ≠ 0x05 → Does (.fastBadOpcode m3 op) s (fpCount 2 t)) ∧
      t.ports.fp.sel = true ∧ t.ports.fp.mode3 = m3) ∧
    (portLogicUp s = false → ∀ (page ptr : Byte) (bs : List Byte) (n : Nat) (op : Byte),
      DoesWake (.wrq m3 page ptr bs) s s ∧ DoesWake (.rdq m3 page ptr n) s s ∧ Does (.rdsr m3) s s ∧ Does (.fastBadOpcode m3 op) s s) ∧
    (s.ports.fp.sel = true → ∃ t, DoesWake .fastCsRise s t ∧ t.ports.fp = { s.ports.fp with sel := false }) ∧
    (s.ports.fp.sel = false → DoesWake .fastCsRise s s))

/-- R349-R351, R416: port P as controller: a commit of PC_XFER, the ends of a transfer, lost arbitrations, and its two
FIFOs. -/
def Obligations.PortPController : Prop :=
  ∀ s : State, s.resetHeld = false →
    (∀ (p : PortId) (v : Word), let pv : PortView := { port := p, host := .a }
      viewOpen s pv = true → coreUp s = true →
      (s.ports.pc.busy = false → ∃ t, DoesWake (.pcTransfer pv v) s t ∧ t.ports.pc = { s.ports.pc with
        busy := true, result := 0, index := 0, addr := v.setWidth 7, wlen := v.extractLsb' 8 8, rlen := v.extractLsb' 16 8
        clear := false, losses := 0, retry := false }) ∧
      (s.ports.pc.busy = true → DoesWake (.pcTransfer pv v) s (ignoreReg pv 14 4 0x5F s) ∧
        DoesWake (.pcBusClear pv v) s (ignoreReg pv 14 4 0x5F s)) ∧
      (s.ports.pc.busy = false → v &&& 0xFFFFFF = 0 → ∃ t, DoesWake (.pcBusClear pv v) s t ∧ t.ports.pc.busy = true ∧
        t.ports.pc.clear = true) ∧
      (∀ b : Byte, s.ports.pc.tx.length < 256 → ∃ t, DoesWake (.portpTxPush pv b) s t ∧
        t.ports.pc.tx = s.ports.pc.tx ++ [b] ∧ t.ports.nack = false) ∧
      (∀ b : Byte, 256 ≤ s.ports.pc.tx.length → DoesWake (.portpTxPush pv b) s (fifoFull p s)) ∧
      (∀ (b : Byte) (bs : List Byte), s.ports.pc.rx = b :: bs → ∃ t, DoesWake (.portpRxPop pv) s t ∧ t.ports.pc.rx = bs ∧
        t.ports.rd = [b])) ∧
    (∀ (cl : Bool) (r : PcEnd), s.ports.pc.busy = false → Does (.pcTransferEnd cl r) s s) ∧
    (∀ (r : PcEnd), s.ports.pc.busy = true → s.ports.pc.retry = false → s.ports.pc.clear = false →
      (∀ rx, r = .done rx → Does (.pcTransferEnd false r) s (pcDone rx s)) ∧
      (r = .addrNack false → Does (.pcTransferEnd false r) s (pcEnds 2 s)) ∧
      (r = .sdaStuck → Does (.pcTransferEnd false r) s (pcEnds 5 (pcCleared true s))) ∧
      (r = .sclStuck → Does (.pcTransferEnd false r) s (pcEnds 6 (pcCleared true s)))) ∧
    (s.ports.pc.busy = true → s.ports.pc.clear = false → s.ports.pc.retry = false →
      let t : State := { s with ports := { s.ports with pc := { s.ports.pc with
        arbLost := sat8 s.ports.pc.arbLost, losses := s.ports.pc.losses + 1, retry := true } } }
      (s.ports.pc.losses < 15 → Does .arbitrationLost s t) ∧ (15 ≤ s.ports.pc.losses → Does .arbitrationLost s (pcEnds 4 t))) ∧
    Does .arbitrationRetry s { s with ports := { s.ports with pc := { s.ports.pc with retry := false } } } ∧
    (∀ n : Nat, ∃ t, pcEnds n s = raiseEv 114 (n + 8 * s.ports.pc.index.toNat) t ∧ t.ports.pc =
      { s.ports.pc with busy := false, result := BitVec.ofNat 3 n, losses := 0, retry := false })

/-- R390-R393: the life cycle: transitions by listed, tagged and fresh requests, the site key, and the wipe's end. -/
def Obligations.LifeCycle : Prop :=
  ∀ s : State, s.resetHeld = false →
    (∀ (p : PortId) (v : Word), let pv : PortView := { port := p, host := .a }
      viewOpen s pv = true →
      let tgt := fld v 0 3
      let w := setBit (setBit v 31 true) 3 false &&& 0x8000000F
      let lc := s.ret.lc.toNat
      (lcBusy s = true → DoesWake (.lcTransition pv v) s (ignoreReg pv 14 8 0x0B s) ∧
        DoesWake (.keyWrite pv v) s (ignoreReg pv 14 8 0x0B s)) ∧
      (lcBusy s = false → lcListed lc tgt = false → DoesWake (.lcTransition pv v) s (ignoreReg pv 6 8 0x0B s)) ∧
      (lcBusy s = false → lcListed lc tgt = true → 1 ≤ lc → lc < 4 →
        (lcTagOk s w = false → DoesWake (.lcTransition pv v) s (ignoreReg pv 7 8 0x0B s)) ∧
        (lcTagOk s w = true → serialGt 32 s.ret.nonce.toNat s.ret.nonceLast.toNat = false →
          DoesWake (.lcTransition pv v) s (ignoreReg pv 8 8 0x0B s)) ∧
        (lcTagOk s w = true → serialGt 32 s.ret.nonce.toNat s.ret.nonceLast.toNat = true →
          ∃ t, DoesWake (.lcTransition pv v) s t ∧ t.ret.wiping = true ∧ t.ret.pendWipe = some (v.setWidth 3) ∧
            t.ret.nonceLast = s.ret.nonce ∧ t.ret.lc = s.ret.lc)) ∧
      (lcBusy s = false → lc = 0 ∨ lc = 4 → lcListed lc tgt = true → ∃ t, DoesWake (.lcTransition pv v) s t ∧
        t.ret.wiping = true ∧ t.ret.pendWipe = some (v.setWidth 3) ∧ t.ret.nonceLast = s.ret.nonceLast ∧ t.ret.lc = s.ret.lc) ∧
      (lcBusy s = false → s.ret.key ≠ none → DoesWake (.keyWrite pv v) s (ignoreReg pv 3 8 0x0B s)) ∧
      (lcBusy s = false → s.ret.key = none → lc ≠ 1 ∨ tgt ≠ 1 → DoesWake (.keyWrite pv v) s (ignoreReg pv 6 8 0x0B s)) ∧
      (lcBusy s = false → s.ret.key = none → lc = 1 → tgt = 1 → ∃ t, DoesWake (.keyWrite pv v) s (requestSave t) ∧
        t.ret.key = some (keyOf s.ret.keyW) ∧ t.ret.keyW = .replicate 8 0)) ∧
    (∀ t : BitVec 3, s.ret.wiping = true → s.ret.pendWipe = some t → s.ret.lcNext = none →
      Does .wipeDone s (modRet (wipeFor t s) fun r => { r with lcNext := some t })) ∧
    (s.ret.wiping = false → Does .wipeDone s s) ∧
    (∀ a b : Nat, lcListed a b = true ↔ (a, b) ∈ [(0, 1), (1, 2), (2, 3), (3, 2), (3, 4), (4, 0)])

/-- R382, R389, R395, R396, R399: image sets, messages, packages and saves, as host A commits IMG_CTRL, with the reasons for
which each is ignored; and the ends of a check and of a save. -/
def Obligations.ImageStore : Prop :=
  ∀ s : State, s.resetHeld = false →
    (∀ (p : PortId) (v : Word) (op : Nat) (c : Instr), let pv : PortView := { port := p, host := .a }
      viewOpen s pv = true →
      (op = 1 ∧ c = .writeSet pv v) ∨ (op = 2 ∧ c = .writeMessage pv v) ∨ (op = 3 ∧ c = .deleteMessage pv v) ∨
      (op = 4 ∧ c = .exportPkg pv v) ∨ (op = 5 ∧ c = .importPkg pv v) ∨ (op = 6 ∧ c = .save pv v) ∨ (op = 7 ∧ c = .abort pv v) →
      let num := fld v 8 8
      (∀ r : Nat, imgBad s .a op num = some r → DoesWake c s (ignoreReg pv r 8 0x53 s)) ∧
      (imgBad s .a op num = none → DoesWake c s (imgStart op num (fld v 16 16) (bit v 3) (bit v 4) s))) ∧
    -- what each operation begins, or does at once
    (∀ (num ofs : Nat) (fp msg : Bool), let did (op : Nat) : State := imgStart op num ofs fp msg s
      (bankBusy s num = false → (did 1).ret.img = { op := 1, busy := true, num := BitVec.ofNat 8 num } ∧
        ∀ k : Fin 2, k.val = num → (did 1).ret.bankEmpty[k] = true) ∧
      (bankBusy s num = true → (did 1).ret.img = { op := 1, num := BitVec.ofNat 8 num, err := 9 }) ∧
      (4 ≤ ofs → 256 * ofs < 0x800000 → msgOverlap s (256 * ofs) (256 * ofs + 1) = false →
        (did 2).ret.img = { op := 2, busy := true, num := BitVec.ofNat 8 num, ofs := BitVec.ofNat 16 ofs }) ∧
      (ofs < 4 ∨ 0x800000 ≤ 256 * ofs ∨ msgOverlap s (256 * ofs) (256 * ofs + 1) = true →
        (did 2).ret.img = { op := 2, num := BitVec.ofNat 8 num, err := 9 }) ∧
      ((did 3).ret.img = { op := 3, num := BitVec.ofNat 8 num } ∧ (mwf 0 s.ret.mram = true → msgDefined (did 3) num = false)) ∧
      ((did 4).ret.img.busy = true ∧ (did 4).ret.img.op = 4 ∧ (did 4).ret.img.out = bytesOfWords (pkgWords s fp msg)) ∧
      ((did 5).ret.img = { op := 5, busy := true } ∧ (did 5).ret.bankEmpty = .replicate 2 false ∧
        (mwf 0 s.ret.mram = true → ∀ n : Nat, n < 256 → msgDefined (did 5) n = false)) ∧
      ((did 6).ret.img = { op := 6 } ∧ (did 6).ret.save.wait = true) ∧
      (imgBusy s = true → (did 7).ret.img.busy = false ∧ (did 7).ret.img.err = 11 ∧ (did 7).ret.img.op = s.ret.img.op) ∧
      (imgBusy s = false → did 7 = s)) ∧
    (∀ num : Nat, imgBusy s = false → s.ret.wiping = false → saveBusy s = false →
      (s.ret.lc = 0 ∨ s.ret.lc = 2 → imgBad s .a 1 num = some 4 ∧ imgBad s .a 2 num = some 4 ∧ imgBad s .a 3 num = some 4) ∧
      (s.ret.lc ≠ 3 → imgBad s .a 4 num = some 4) ∧ (s.ret.lc ≠ 1 → imgBad s .a 5 num = some 4) ∧
      (s.ret.lc = 1 → 2 ≤ num → imgBad s .a 1 num = some 10) ∧
      (storeUp s = true → imgBad s .a 6 num = none ∧ (s.ret.lc = 3 → imgBad s .a 4 num = none) ∧
        (s.ret.lc = 1 → imgBad s .a 2 num = none ∧ imgBad s .a 3 num = none ∧ imgBad s .a 5 num = none))) ∧
    (∀ num : Nat, imgBad s .a 7 num = none) ∧
    (∀ (h : HostId) (op num : Nat), h ≠ .a → 4 ≤ op → op < 7 → imgBad s h op num = some 5) ∧
    (s.ret.img.busy = false → Does .imageWriteCheckDone s s) ∧
    (∀ n : Nat, s.ret.img.busy = true → s.ret.img.full = true → s.ret.img.op = 1 → s.ret.img.num.toNat = n →
      setWriteCheck s n ≠ 0 → Does .imageWriteCheckDone s (imgEnds (setWriteCheck s n) s)) ∧
    (∀ (pv : PortView) (b : Byte), viewOpen s pv = true → pv.host ≠ .b →
      (∃ t, DoesWake (.imageFifoPush pv b) s t ∧ t.ports.nack = false) ∧
      (s.ret.img.out = [] → ∃ t, DoesWake (.imageFifoPop pv) s t ∧ t.ports.rd = [0])) ∧
    (∀ (pv : PortView) (x : Byte) (xs : List Byte), viewOpen s pv = true → pv.host ≠ .b → s.ret.img.out = x :: xs → ∃ t,
      DoesWake (.imageFifoPop pv) s t ∧ t.ports.rd = [x] ∧ t.ret.img.out = xs) ∧
    (s.ret.save.run = true → ∃ t, Does .saveDone s t ∧ t.ret.sel = some s.ret.save.slot ∧ t.ret.gen = s.ret.save.gen ∧
      t.ret.save = {} ∧ (mwf 0 s.ret.mram → rsGet t (slotBase s.ret.save.slot) = 0xA55A1703)) ∧
    (s.ret.save.run = false → Does .saveDone s s)

/-- R374, R402, R404, R405: an entry takes its host's next number; a full queue discards it and counts it; it enters exactly
the queues to which it is routed; the entries of one command enter events first, in ascending SRC. -/
def Obligations.EventQueues : Prop :=
  (∀ (s : State) (h : HostId) (r : Raised), let i := hostIx h
    let t := enterFor r h s
    t.hosts.nextSeq[i] = s.hosts.nextSeq[i] + 1 ∧
    (s.hosts.evq[i].length < 32 →
      t.hosts.evq[i] = s.hosts.evq[i] ++ [entryOf r s.hosts.nextSeq[i] (r.stamp.getD (stampNow s))] ∧
      t.hosts.evLost = s.hosts.evLost) ∧
    (32 ≤ s.hosts.evq[i].length → t.hosts.evq = s.hosts.evq ∧ t.hosts.evLost[i] = sat8 s.hosts.evLost[i]) ∧
    (∀ j : Fin 3, j ≠ i → t.hosts.evq[j] = s.hosts.evq[j] ∧ t.hosts.nextSeq[j] = s.hosts.nextSeq[j])) ∧
  (∀ (s : State) (r : Raised) (h : HostId), s.hosts.evq[hostIx h].length < 32 → let i := hostIx h
    let routed := queueExists s h = true ∧ (match r.host with | some x => x = h | none => masked s h r.src = true)
    (routed → (enterOne r s).hosts.evq[i] =
      s.hosts.evq[i] ++ [entryOf r s.hosts.nextSeq[i] (r.stamp.getD (stampNow s))]) ∧
    (¬ routed → (enterOne r s).hosts.evq[i] = s.hosts.evq[i] ∧ (enterOne r s).hosts.nextSeq[i] = s.hosts.nextSeq[i])) ∧
  (∀ (s : State) (src : Nat), masked s .b src = true → src ≠ 44 ∧ ¬ (104 ≤ src ∧ src ≤ 111)) ∧
  (∀ rs : List Raised, (sortRaised rs).Perm rs ∧ (sortRaised rs).Pairwise (fun a b => raisedKey a ≤ raisedKey b) ∧
    ∀ k : Nat, (sortRaised rs).filter (fun r => raisedKey r = k) = rs.filter (fun r => raisedKey r = k)) ∧
  (∀ s : State, s.resetHeld = false → (settle s).hosts.evBuf = [])

/-- R403, R407: after a raising a limited source and qualifier is silent until its interval ends, and the next entry then
carries the number suppressed; other limiters are not touched; LIMITER_EXPIRY ends the interval, and FAULT_MIN_PULSE_END the
100 ms of a fault output. -/
def Obligations.RateLimits : Prop :=
  (∀ (s : State) (src q p n : Nat) (h : Option HostId),
    let s0 := raiseLimited src q p h s
    let sn := (raiseLimited src q p h)^[n] s0
    sn.hosts.evBuf = s0.hosts.evBuf ∧
    (∀ src' q' : Nat, src' ≠ src ∨ q' ≠ q → limOf src' q' sn.hosts.lims = limOf src' q' s.hosts.lims) ∧
    ((∀ l, limOf src q s.hosts.lims = some l → l.run = false) →
      let w := ((limOf src q s.hosts.lims).map fun l => l.supp.setWidth 32).getD 0
      s0.hosts.evBuf = s.hosts.evBuf ++ [{ kind := 0, src := src, pay := pay p, w5 := w, host := h }]) ∧
    ((∀ l, limOf src q s.hosts.lims = some l → l.run = false) →
      (raiseLimited src q p h (endLimiters (fun l => l.src = src && l.qual = q) sn)).hosts.evBuf =
        s0.hosts.evBuf ++ [{ kind := 0, src := src, pay := pay p, w5 := BitVec.ofNat 32 (min n 65535), host := h }])) ∧
  ∀ s : State, s.resetHeld = false →
    (∀ src q : Nat, Does (.limiterExpiry src q) s (endLimiters (fun l => l.src = src && l.qual = q) s)) ∧
    (∀ n : Fin 4, Does (.faultMinPulseEnd n) s
      { s with flt := { s.flt with minRun := setBit s.flt.minRun n.val false } })

/-- R375: an ignored item counts at its source and overwrites its last record; nothing else changes, but for EV116 when
IGN_EV is set, which goes to the host concerned, and to host A for items of the core. -/
def Obligations.IgnoredItems : Prop :=
  ∀ (s : State) (src : IgnSrc) (reason port loc : Nat),
    let g := s.hosts.ign[src]
    let g1 : Ign := { g with count := sat16 g.count, frm := s.time.frame, reason := BitVec.ofNat 4 reason,
                             port := BitVec.ofNat 2 port, loc := BitVec.ofNat 16 loc }
    let s1 : State := { s with hosts := { s.hosts with ign := vset s.hosts.ign src g1 } }
    (g.ev = false → ignore src reason port loc s = s1) ∧
    (g.ev = true → ignore src reason port loc s =
      raiseLimited 116 src.val (src.val + 4 * reason) (some (if src = 1 then .b else if src = 2 then .c else .a)) s1)

/-- R406, R407, R411: bit c of FLT_ACTIVE is condition c; FAULTn is asserted while a condition of its mask is active, for
100 ms at least, and, latched, until LATCHED is cleared; the lands follow unless the holds are in force. -/
def Obligations.FaultOutputs : Prop :=
  ∀ s : State, s.resetHeld = false →
    (∀ c : Nat, c < 32 → bit (fltActive s) c = fltCond s c) ∧ fltCond s 27 = false ∧
    (let t := settle s
     let u := enterAll s
     (∀ n : Fin 4,
       let hit := decide ((fltActive u &&& s.flt.mask[n]) ≠ 0)
       let latched := bit s.flt.latched n.val || (hit && bit s.flt.latch n.val)
       bit t.flt.latched n.val = latched ∧
       bit t.flt.asserted n.val = (hit || bit s.flt.minRun n.val || (latched && bit s.flt.latch n.val)) ∧
       bit t.flt.minRun n.val = (bit s.flt.minRun n.val || (bit t.flt.asserted n.val && !bit s.flt.asserted n.val))) ∧
     (s.pm.kaHeld = false → t.pads.fault = t.flt.asserted ∧
       t.pads.attn = (decide (t.hosts.evq[(0 : Fin 3)] ≠ []) || (s.flt.attnFlt && decide (t.flt.asserted ≠ 0)))) ∧
     (s.pm.kaHeld = true → t.pads = s.pads))
end

