-- ==== Sys2Proof/Laws/Maps.lean ====
section
/-!
SUPPORT. The laws of the sparse maps and of the vector updates: a read after a write, the canonical form, and what each entry
of an updated vector is.
-/

namespace Sys2Proof.Machine

variable {α β : Type}

/-! Maps. -/

@[simp] theorem mget_nil (d : α) (k : Nat) : mget d [] k = d := rfl

section
variable [DecidableEq α]

theorem mwfFrom_mono (d : α) {lo hi : Nat} (h : lo ≤ hi) : ∀ {m : Map α}, mwfFrom d hi m → mwfFrom d lo m
  | [], _ => rfl
  | (a, v) :: m, hm => by
    simp only [mwfFrom, Bool.and_eq_true, decide_eq_true_eq] at hm ⊢
    exact ⟨⟨by omega, hm.1.2⟩, hm.2⟩

/-- Below its least address a canonical map reads as its default. -/
theorem mget_below (d : α) : ∀ {lo : Nat} {m : Map α} {k : Nat}, mwfFrom d lo m → k < lo → mget d m k = d
  | _, [], _, _, _ => rfl
  | lo, (a, v) :: m, k, hm, hk => by
    simp only [mwfFrom, Bool.and_eq_true, decide_eq_true_eq] at hm
    simp [mget, show k < a by omega]

/-- Writing keeps the canonical form. -/
theorem mset_mwfFrom (d : α) : ∀ {lo : Nat} {m : Map α} {k : Nat} (v : α), lo ≤ k → mwfFrom d lo m → mwfFrom d lo (mset d m k v)
  | lo, [], k, v, hk, _ => by
    unfold mset; split <;> simp [mwfFrom, *]
  | lo, (a, w) :: m, k, v, hk, hm => by
    simp only [mwfFrom, Bool.and_eq_true, decide_eq_true_eq] at hm
    unfold mset
    split
    · split
      · simp [mwfFrom, hm]
      · simp only [mwfFrom, Bool.and_eq_true, decide_eq_true_eq]
        exact ⟨⟨hk, ‹_›⟩, ⟨by omega, hm.1.2⟩, hm.2⟩
    · split
      · subst_vars
        split
        · exact mwfFrom_mono d (by omega) hm.2
        · simp_all [mwfFrom]
      · simp only [mwfFrom, Bool.and_eq_true, decide_eq_true_eq]
        exact ⟨hm.1, mset_mwfFrom d v (by omega) hm.2⟩

@[simp] theorem mset_mwf (d : α) {m : Map α} (k : Nat) (v : α) (h : mwf d m) : mwf d (mset d m k v) :=
  mset_mwfFrom d v (Nat.zero_le k) h

theorem msetAll_mwf (d : α) : ∀ {m : Map α} (k : Nat) (vs : List α), mwf d m → mwf d (msetAll d m k vs)
  | _, _, [], h => h
  | _, k, v :: vs, h => msetAll_mwf d (k + 1) vs (mset_mwf d k v h)

theorem filter_mwfFrom (d : α) (p : Nat × α → Bool) : ∀ {lo : Nat} {m : Map α}, mwfFrom d lo m → mwfFrom d lo (m.filter p)
  | _, [], _ => rfl
  | lo, (a, v) :: m, hm => by
    simp only [mwfFrom, Bool.and_eq_true, decide_eq_true_eq] at hm
    rw [List.filter_cons]
    split
    · simp only [mwfFrom, Bool.and_eq_true, decide_eq_true_eq]
      exact ⟨hm.1, filter_mwfFrom d p hm.2⟩
    · exact mwfFrom_mono d (by omega) (filter_mwfFrom d p hm.2)

theorem mwipe_mwf (d : α) {m : Map α} (lo hi : Nat) (h : mwf d m) : mwf d (mwipe m lo hi) := filter_mwfFrom d _ h

/-- A read after a write: the written address gives the value, every other address what it gave. -/
theorem mget_msetFrom (d : α) : ∀ {lo : Nat} {m : Map α} (k : Nat) (v : α) (j : Nat), mwfFrom d lo m →
    mget d (mset d m k v) j = if j = k then v else mget d m j
  | _, [], k, v, j, _ => by
    unfold mset; split <;> simp only [mget] <;> (repeat' split) <;> simp_all
  | lo, (a, w) :: m, k, v, j, hm => by
    simp only [mwfFrom, Bool.and_eq_true, decide_eq_true_eq] at hm
    have below : ∀ {i}, i < a + 1 → mget d m i = d := fun hi => mget_below d hm.2 hi
    unfold mset
    split
    · have hj : ∀ i, i ≤ a → mget d m i = d := fun i hi => below (by omega)
      split <;> simp only [mget] <;> (repeat' split) <;> first | rfl | omega | exact hj _ (by omega) | simp_all
    · split
      · subst_vars
        have hj : ∀ i, i ≤ k → mget d m i = d := fun i hi => below (by omega)
        split <;> simp only [mget] <;> (repeat' split) <;> first | rfl | omega | exact hj _ (by omega) | simp_all
      · simp only [mget, mget_msetFrom d k v j hm.2]
        (repeat' split) <;> first | rfl | omega

theorem mget_mset (d : α) {m : Map α} (k : Nat) (v : α) (j : Nat) (h : mwf d m) :
    mget d (mset d m k v) j = if j = k then v else mget d m j := mget_msetFrom d k v j h

end

/-! Vectors. -/

@[simp] theorem vset_get {n : Nat} (v : Vector α n) (i : Fin n) (x : α) (j : Nat) (h : j < n) :
    (vset v i x)[j] = if i.val = j then x else v[j] := by
  simp [vset, Vector.getElem_set]

@[simp] theorem vset_get_fin {n : Nat} (v : Vector α n) (i j : Fin n) (x : α) :
    (vset v i x)[j] = if i = j then x else v[j] := by
  rw [Fin.getElem_fin, vset_get, Fin.getElem_fin]; simp [Fin.ext_iff]

@[simp] theorem vmod_get {n : Nat} (v : Vector α n) (i : Fin n) (f : α → α) (j : Nat) (h : j < n) :
    (vmod v i f)[j] = if i.val = j then f v[j] else v[j] := by
  unfold vmod; rw [vset_get]; split
  · subst_vars; rfl
  · rfl

@[simp] theorem vmod_get_fin {n : Nat} (v : Vector α n) (i j : Fin n) (f : α → α) :
    (vmod v i f)[j] = if i = j then f v[j] else v[j] := by
  rw [Fin.getElem_fin, vmod_get, Fin.getElem_fin]; simp [Fin.ext_iff]

@[simp] theorem vmap_get {n : Nat} (v : Vector α n) (f : Fin n → α → β) (j : Nat) (h : j < n) :
    (vmap v f)[j] = f ⟨j, h⟩ v[j] := by simp [vmap]

@[simp] theorem vmap_get_fin {n : Nat} (v : Vector α n) (f : Fin n → α → β) (j : Fin n) : (vmap v f)[j] = f j v[j] := by
  rw [Fin.getElem_fin, vmap_get]; rfl

theorem vmap_id {n : Nat} (v : Vector α n) (f : Fin n → α → α) (h : ∀ i, f i v[i] = v[i]) : vmap v f = v := by
  apply Vector.ext; intro i hi; rw [vmap_get]; exact h ⟨i, hi⟩

end Sys2Proof.Machine
end

