-- ==== Sys2Proof/Laws/State.lean ====
section
/-!
SUPPORT. What each update of one part of State does to every field of it: the field takes its new value, and the others stand.
Each is true by rfl, so no later proof unfolds a record update.
-/

namespace Sys2Proof.Machine

@[simp] theorem modCore_core (s : State) (f : CoreSt → CoreSt) : (modCore s f).core = f s.core := rfl
@[simp] theorem modCore_serial (s : State) (f : CoreSt → CoreSt) : (modCore s f).serial = s.serial := rfl
@[simp] theorem modCore_variant (s : State) (f : CoreSt → CoreSt) : (modCore s f).variant = s.variant := rfl
@[simp] theorem modCore_resetHeld (s : State) (f : CoreSt → CoreSt) : (modCore s f).resetHeld = s.resetHeld := rfl
@[simp] theorem modCore_feeds (s : State) (f : CoreSt → CoreSt) : (modCore s f).feeds = s.feeds := rfl
@[simp] theorem modCore_clk (s : State) (f : CoreSt → CoreSt) : (modCore s f).clk = s.clk := rfl
@[simp] theorem modCore_time (s : State) (f : CoreSt → CoreSt) : (modCore s f).time = s.time := rfl
@[simp] theorem modCore_arb (s : State) (f : CoreSt → CoreSt) : (modCore s f).arb = s.arb := rfl
@[simp] theorem modCore_mirror (s : State) (f : CoreSt → CoreSt) : (modCore s f).mirror = s.mirror := rfl
@[simp] theorem modCore_pm (s : State) (f : CoreSt → CoreSt) : (modCore s f).pm = s.pm := rfl
@[simp] theorem modCore_dies (s : State) (f : CoreSt → CoreSt) : (modCore s f).dies = s.dies := rfl
@[simp] theorem modCore_bridges (s : State) (f : CoreSt → CoreSt) : (modCore s f).bridges = s.bridges := rfl
@[simp] theorem modCore_lmu (s : State) (f : CoreSt → CoreSt) : (modCore s f).lmu = s.lmu := rfl
@[simp] theorem modCore_conv (s : State) (f : CoreSt → CoreSt) : (modCore s f).conv = s.conv := rfl
@[simp] theorem modCore_sadc (s : State) (f : CoreSt → CoreSt) : (modCore s f).sadc = s.sadc := rfl
@[simp] theorem modCore_wake (s : State) (f : CoreSt → CoreSt) : (modCore s f).wake = s.wake := rfl
@[simp] theorem modCore_ret (s : State) (f : CoreSt → CoreSt) : (modCore s f).ret = s.ret := rfl
@[simp] theorem modCore_hosts (s : State) (f : CoreSt → CoreSt) : (modCore s f).hosts = s.hosts := rfl
@[simp] theorem modCore_flt (s : State) (f : CoreSt → CoreSt) : (modCore s f).flt = s.flt := rfl
@[simp] theorem modCore_pads (s : State) (f : CoreSt → CoreSt) : (modCore s f).pads = s.pads := rfl
@[simp] theorem modCore_ports (s : State) (f : CoreSt → CoreSt) : (modCore s f).ports = s.ports := rfl
@[simp] theorem modCore_tap (s : State) (f : CoreSt → CoreSt) : (modCore s f).tap = s.tap := rfl
@[simp] theorem modCore_freeCtr (s : State) (f : CoreSt → CoreSt) : (modCore s f).freeCtr = s.freeCtr := rfl
@[simp] theorem modCore_pending (s : State) (f : CoreSt → CoreSt) : (modCore s f).pending = s.pending := rfl

@[simp] theorem modFab_core (s : State) (f : Fabric → Fabric) : (modFab s f).core = { s.core with fab := f s.core.fab } := rfl
@[simp] theorem modFab_serial (s : State) (f : Fabric → Fabric) : (modFab s f).serial = s.serial := rfl
@[simp] theorem modFab_variant (s : State) (f : Fabric → Fabric) : (modFab s f).variant = s.variant := rfl
@[simp] theorem modFab_resetHeld (s : State) (f : Fabric → Fabric) : (modFab s f).resetHeld = s.resetHeld := rfl
@[simp] theorem modFab_feeds (s : State) (f : Fabric → Fabric) : (modFab s f).feeds = s.feeds := rfl
@[simp] theorem modFab_clk (s : State) (f : Fabric → Fabric) : (modFab s f).clk = s.clk := rfl
@[simp] theorem modFab_time (s : State) (f : Fabric → Fabric) : (modFab s f).time = s.time := rfl
@[simp] theorem modFab_arb (s : State) (f : Fabric → Fabric) : (modFab s f).arb = s.arb := rfl
@[simp] theorem modFab_mirror (s : State) (f : Fabric → Fabric) : (modFab s f).mirror = s.mirror := rfl
@[simp] theorem modFab_pm (s : State) (f : Fabric → Fabric) : (modFab s f).pm = s.pm := rfl
@[simp] theorem modFab_dies (s : State) (f : Fabric → Fabric) : (modFab s f).dies = s.dies := rfl
@[simp] theorem modFab_bridges (s : State) (f : Fabric → Fabric) : (modFab s f).bridges = s.bridges := rfl
@[simp] theorem modFab_lmu (s : State) (f : Fabric → Fabric) : (modFab s f).lmu = s.lmu := rfl
@[simp] theorem modFab_conv (s : State) (f : Fabric → Fabric) : (modFab s f).conv = s.conv := rfl
@[simp] theorem modFab_sadc (s : State) (f : Fabric → Fabric) : (modFab s f).sadc = s.sadc := rfl
@[simp] theorem modFab_wake (s : State) (f : Fabric → Fabric) : (modFab s f).wake = s.wake := rfl
@[simp] theorem modFab_ret (s : State) (f : Fabric → Fabric) : (modFab s f).ret = s.ret := rfl
@[simp] theorem modFab_hosts (s : State) (f : Fabric → Fabric) : (modFab s f).hosts = s.hosts := rfl
@[simp] theorem modFab_flt (s : State) (f : Fabric → Fabric) : (modFab s f).flt = s.flt := rfl
@[simp] theorem modFab_pads (s : State) (f : Fabric → Fabric) : (modFab s f).pads = s.pads := rfl
@[simp] theorem modFab_ports (s : State) (f : Fabric → Fabric) : (modFab s f).ports = s.ports := rfl
@[simp] theorem modFab_tap (s : State) (f : Fabric → Fabric) : (modFab s f).tap = s.tap := rfl
@[simp] theorem modFab_freeCtr (s : State) (f : Fabric → Fabric) : (modFab s f).freeCtr = s.freeCtr := rfl
@[simp] theorem modFab_pending (s : State) (f : Fabric → Fabric) : (modFab s f).pending = s.pending := rfl

@[simp] theorem modBridge_bridges (s : State) (b : Fin 8) (f : Bridge → Bridge) : (modBridge s b f).bridges = vmod s.bridges b f := rfl
@[simp] theorem modBridge_serial (s : State) (b : Fin 8) (f : Bridge → Bridge) : (modBridge s b f).serial = s.serial := rfl
@[simp] theorem modBridge_variant (s : State) (b : Fin 8) (f : Bridge → Bridge) : (modBridge s b f).variant = s.variant := rfl
@[simp] theorem modBridge_resetHeld (s : State) (b : Fin 8) (f : Bridge → Bridge) : (modBridge s b f).resetHeld = s.resetHeld := rfl
@[simp] theorem modBridge_feeds (s : State) (b : Fin 8) (f : Bridge → Bridge) : (modBridge s b f).feeds = s.feeds := rfl
@[simp] theorem modBridge_clk (s : State) (b : Fin 8) (f : Bridge → Bridge) : (modBridge s b f).clk = s.clk := rfl
@[simp] theorem modBridge_time (s : State) (b : Fin 8) (f : Bridge → Bridge) : (modBridge s b f).time = s.time := rfl
@[simp] theorem modBridge_arb (s : State) (b : Fin 8) (f : Bridge → Bridge) : (modBridge s b f).arb = s.arb := rfl
@[simp] theorem modBridge_mirror (s : State) (b : Fin 8) (f : Bridge → Bridge) : (modBridge s b f).mirror = s.mirror := rfl
@[simp] theorem modBridge_pm (s : State) (b : Fin 8) (f : Bridge → Bridge) : (modBridge s b f).pm = s.pm := rfl
@[simp] theorem modBridge_core (s : State) (b : Fin 8) (f : Bridge → Bridge) : (modBridge s b f).core = s.core := rfl
@[simp] theorem modBridge_dies (s : State) (b : Fin 8) (f : Bridge → Bridge) : (modBridge s b f).dies = s.dies := rfl
@[simp] theorem modBridge_lmu (s : State) (b : Fin 8) (f : Bridge → Bridge) : (modBridge s b f).lmu = s.lmu := rfl
@[simp] theorem modBridge_conv (s : State) (b : Fin 8) (f : Bridge → Bridge) : (modBridge s b f).conv = s.conv := rfl
@[simp] theorem modBridge_sadc (s : State) (b : Fin 8) (f : Bridge → Bridge) : (modBridge s b f).sadc = s.sadc := rfl
@[simp] theorem modBridge_wake (s : State) (b : Fin 8) (f : Bridge → Bridge) : (modBridge s b f).wake = s.wake := rfl
@[simp] theorem modBridge_ret (s : State) (b : Fin 8) (f : Bridge → Bridge) : (modBridge s b f).ret = s.ret := rfl
@[simp] theorem modBridge_hosts (s : State) (b : Fin 8) (f : Bridge → Bridge) : (modBridge s b f).hosts = s.hosts := rfl
@[simp] theorem modBridge_flt (s : State) (b : Fin 8) (f : Bridge → Bridge) : (modBridge s b f).flt = s.flt := rfl
@[simp] theorem modBridge_pads (s : State) (b : Fin 8) (f : Bridge → Bridge) : (modBridge s b f).pads = s.pads := rfl
@[simp] theorem modBridge_ports (s : State) (b : Fin 8) (f : Bridge → Bridge) : (modBridge s b f).ports = s.ports := rfl
@[simp] theorem modBridge_tap (s : State) (b : Fin 8) (f : Bridge → Bridge) : (modBridge s b f).tap = s.tap := rfl
@[simp] theorem modBridge_freeCtr (s : State) (b : Fin 8) (f : Bridge → Bridge) : (modBridge s b f).freeCtr = s.freeCtr := rfl
@[simp] theorem modBridge_pending (s : State) (b : Fin 8) (f : Bridge → Bridge) : (modBridge s b f).pending = s.pending := rfl

@[simp] theorem modDie_dies (s : State) (d : Fin 4) (f : Die → Die) : (modDie s d f).dies = vmod s.dies d f := rfl
@[simp] theorem modDie_serial (s : State) (d : Fin 4) (f : Die → Die) : (modDie s d f).serial = s.serial := rfl
@[simp] theorem modDie_variant (s : State) (d : Fin 4) (f : Die → Die) : (modDie s d f).variant = s.variant := rfl
@[simp] theorem modDie_resetHeld (s : State) (d : Fin 4) (f : Die → Die) : (modDie s d f).resetHeld = s.resetHeld := rfl
@[simp] theorem modDie_feeds (s : State) (d : Fin 4) (f : Die → Die) : (modDie s d f).feeds = s.feeds := rfl
@[simp] theorem modDie_clk (s : State) (d : Fin 4) (f : Die → Die) : (modDie s d f).clk = s.clk := rfl
@[simp] theorem modDie_time (s : State) (d : Fin 4) (f : Die → Die) : (modDie s d f).time = s.time := rfl
@[simp] theorem modDie_arb (s : State) (d : Fin 4) (f : Die → Die) : (modDie s d f).arb = s.arb := rfl
@[simp] theorem modDie_mirror (s : State) (d : Fin 4) (f : Die → Die) : (modDie s d f).mirror = s.mirror := rfl
@[simp] theorem modDie_pm (s : State) (d : Fin 4) (f : Die → Die) : (modDie s d f).pm = s.pm := rfl
@[simp] theorem modDie_core (s : State) (d : Fin 4) (f : Die → Die) : (modDie s d f).core = s.core := rfl
@[simp] theorem modDie_bridges (s : State) (d : Fin 4) (f : Die → Die) : (modDie s d f).bridges = s.bridges := rfl
@[simp] theorem modDie_lmu (s : State) (d : Fin 4) (f : Die → Die) : (modDie s d f).lmu = s.lmu := rfl
@[simp] theorem modDie_conv (s : State) (d : Fin 4) (f : Die → Die) : (modDie s d f).conv = s.conv := rfl
@[simp] theorem modDie_sadc (s : State) (d : Fin 4) (f : Die → Die) : (modDie s d f).sadc = s.sadc := rfl
@[simp] theorem modDie_wake (s : State) (d : Fin 4) (f : Die → Die) : (modDie s d f).wake = s.wake := rfl
@[simp] theorem modDie_ret (s : State) (d : Fin 4) (f : Die → Die) : (modDie s d f).ret = s.ret := rfl
@[simp] theorem modDie_hosts (s : State) (d : Fin 4) (f : Die → Die) : (modDie s d f).hosts = s.hosts := rfl
@[simp] theorem modDie_flt (s : State) (d : Fin 4) (f : Die → Die) : (modDie s d f).flt = s.flt := rfl
@[simp] theorem modDie_pads (s : State) (d : Fin 4) (f : Die → Die) : (modDie s d f).pads = s.pads := rfl
@[simp] theorem modDie_ports (s : State) (d : Fin 4) (f : Die → Die) : (modDie s d f).ports = s.ports := rfl
@[simp] theorem modDie_tap (s : State) (d : Fin 4) (f : Die → Die) : (modDie s d f).tap = s.tap := rfl
@[simp] theorem modDie_freeCtr (s : State) (d : Fin 4) (f : Die → Die) : (modDie s d f).freeCtr = s.freeCtr := rfl
@[simp] theorem modDie_pending (s : State) (d : Fin 4) (f : Die → Die) : (modDie s d f).pending = s.pending := rfl

@[simp] theorem modLine_lmu (s : State) (b : Fin 8) (f : Line → Line) : (modLine s b f).lmu = { s.lmu with line := vmod s.lmu.line b f } := rfl
@[simp] theorem modLine_serial (s : State) (b : Fin 8) (f : Line → Line) : (modLine s b f).serial = s.serial := rfl
@[simp] theorem modLine_variant (s : State) (b : Fin 8) (f : Line → Line) : (modLine s b f).variant = s.variant := rfl
@[simp] theorem modLine_resetHeld (s : State) (b : Fin 8) (f : Line → Line) : (modLine s b f).resetHeld = s.resetHeld := rfl
@[simp] theorem modLine_feeds (s : State) (b : Fin 8) (f : Line → Line) : (modLine s b f).feeds = s.feeds := rfl
@[simp] theorem modLine_clk (s : State) (b : Fin 8) (f : Line → Line) : (modLine s b f).clk = s.clk := rfl
@[simp] theorem modLine_time (s : State) (b : Fin 8) (f : Line → Line) : (modLine s b f).time = s.time := rfl
@[simp] theorem modLine_arb (s : State) (b : Fin 8) (f : Line → Line) : (modLine s b f).arb = s.arb := rfl
@[simp] theorem modLine_mirror (s : State) (b : Fin 8) (f : Line → Line) : (modLine s b f).mirror = s.mirror := rfl
@[simp] theorem modLine_pm (s : State) (b : Fin 8) (f : Line → Line) : (modLine s b f).pm = s.pm := rfl
@[simp] theorem modLine_core (s : State) (b : Fin 8) (f : Line → Line) : (modLine s b f).core = s.core := rfl
@[simp] theorem modLine_dies (s : State) (b : Fin 8) (f : Line → Line) : (modLine s b f).dies = s.dies := rfl
@[simp] theorem modLine_bridges (s : State) (b : Fin 8) (f : Line → Line) : (modLine s b f).bridges = s.bridges := rfl
@[simp] theorem modLine_conv (s : State) (b : Fin 8) (f : Line → Line) : (modLine s b f).conv = s.conv := rfl
@[simp] theorem modLine_sadc (s : State) (b : Fin 8) (f : Line → Line) : (modLine s b f).sadc = s.sadc := rfl
@[simp] theorem modLine_wake (s : State) (b : Fin 8) (f : Line → Line) : (modLine s b f).wake = s.wake := rfl
@[simp] theorem modLine_ret (s : State) (b : Fin 8) (f : Line → Line) : (modLine s b f).ret = s.ret := rfl
@[simp] theorem modLine_hosts (s : State) (b : Fin 8) (f : Line → Line) : (modLine s b f).hosts = s.hosts := rfl
@[simp] theorem modLine_flt (s : State) (b : Fin 8) (f : Line → Line) : (modLine s b f).flt = s.flt := rfl
@[simp] theorem modLine_pads (s : State) (b : Fin 8) (f : Line → Line) : (modLine s b f).pads = s.pads := rfl
@[simp] theorem modLine_ports (s : State) (b : Fin 8) (f : Line → Line) : (modLine s b f).ports = s.ports := rfl
@[simp] theorem modLine_tap (s : State) (b : Fin 8) (f : Line → Line) : (modLine s b f).tap = s.tap := rfl
@[simp] theorem modLine_freeCtr (s : State) (b : Fin 8) (f : Line → Line) : (modLine s b f).freeCtr = s.freeCtr := rfl
@[simp] theorem modLine_pending (s : State) (b : Fin 8) (f : Line → Line) : (modLine s b f).pending = s.pending := rfl

@[simp] theorem modPm_pm (s : State) (f : Pm → Pm) : (modPm s f).pm = f s.pm := rfl
@[simp] theorem modPm_serial (s : State) (f : Pm → Pm) : (modPm s f).serial = s.serial := rfl
@[simp] theorem modPm_variant (s : State) (f : Pm → Pm) : (modPm s f).variant = s.variant := rfl
@[simp] theorem modPm_resetHeld (s : State) (f : Pm → Pm) : (modPm s f).resetHeld = s.resetHeld := rfl
@[simp] theorem modPm_feeds (s : State) (f : Pm → Pm) : (modPm s f).feeds = s.feeds := rfl
@[simp] theorem modPm_clk (s : State) (f : Pm → Pm) : (modPm s f).clk = s.clk := rfl
@[simp] theorem modPm_time (s : State) (f : Pm → Pm) : (modPm s f).time = s.time := rfl
@[simp] theorem modPm_arb (s : State) (f : Pm → Pm) : (modPm s f).arb = s.arb := rfl
@[simp] theorem modPm_mirror (s : State) (f : Pm → Pm) : (modPm s f).mirror = s.mirror := rfl
@[simp] theorem modPm_core (s : State) (f : Pm → Pm) : (modPm s f).core = s.core := rfl
@[simp] theorem modPm_dies (s : State) (f : Pm → Pm) : (modPm s f).dies = s.dies := rfl
@[simp] theorem modPm_bridges (s : State) (f : Pm → Pm) : (modPm s f).bridges = s.bridges := rfl
@[simp] theorem modPm_lmu (s : State) (f : Pm → Pm) : (modPm s f).lmu = s.lmu := rfl
@[simp] theorem modPm_conv (s : State) (f : Pm → Pm) : (modPm s f).conv = s.conv := rfl
@[simp] theorem modPm_sadc (s : State) (f : Pm → Pm) : (modPm s f).sadc = s.sadc := rfl
@[simp] theorem modPm_wake (s : State) (f : Pm → Pm) : (modPm s f).wake = s.wake := rfl
@[simp] theorem modPm_ret (s : State) (f : Pm → Pm) : (modPm s f).ret = s.ret := rfl
@[simp] theorem modPm_hosts (s : State) (f : Pm → Pm) : (modPm s f).hosts = s.hosts := rfl
@[simp] theorem modPm_flt (s : State) (f : Pm → Pm) : (modPm s f).flt = s.flt := rfl
@[simp] theorem modPm_pads (s : State) (f : Pm → Pm) : (modPm s f).pads = s.pads := rfl
@[simp] theorem modPm_ports (s : State) (f : Pm → Pm) : (modPm s f).ports = s.ports := rfl
@[simp] theorem modPm_tap (s : State) (f : Pm → Pm) : (modPm s f).tap = s.tap := rfl
@[simp] theorem modPm_freeCtr (s : State) (f : Pm → Pm) : (modPm s f).freeCtr = s.freeCtr := rfl
@[simp] theorem modPm_pending (s : State) (f : Pm → Pm) : (modPm s f).pending = s.pending := rfl

@[simp] theorem modHosts_hosts (s : State) (f : Hosts → Hosts) : (modHosts s f).hosts = f s.hosts := rfl
@[simp] theorem modHosts_serial (s : State) (f : Hosts → Hosts) : (modHosts s f).serial = s.serial := rfl
@[simp] theorem modHosts_variant (s : State) (f : Hosts → Hosts) : (modHosts s f).variant = s.variant := rfl
@[simp] theorem modHosts_resetHeld (s : State) (f : Hosts → Hosts) : (modHosts s f).resetHeld = s.resetHeld := rfl
@[simp] theorem modHosts_feeds (s : State) (f : Hosts → Hosts) : (modHosts s f).feeds = s.feeds := rfl
@[simp] theorem modHosts_clk (s : State) (f : Hosts → Hosts) : (modHosts s f).clk = s.clk := rfl
@[simp] theorem modHosts_time (s : State) (f : Hosts → Hosts) : (modHosts s f).time = s.time := rfl
@[simp] theorem modHosts_arb (s : State) (f : Hosts → Hosts) : (modHosts s f).arb = s.arb := rfl
@[simp] theorem modHosts_mirror (s : State) (f : Hosts → Hosts) : (modHosts s f).mirror = s.mirror := rfl
@[simp] theorem modHosts_pm (s : State) (f : Hosts → Hosts) : (modHosts s f).pm = s.pm := rfl
@[simp] theorem modHosts_core (s : State) (f : Hosts → Hosts) : (modHosts s f).core = s.core := rfl
@[simp] theorem modHosts_dies (s : State) (f : Hosts → Hosts) : (modHosts s f).dies = s.dies := rfl
@[simp] theorem modHosts_bridges (s : State) (f : Hosts → Hosts) : (modHosts s f).bridges = s.bridges := rfl
@[simp] theorem modHosts_lmu (s : State) (f : Hosts → Hosts) : (modHosts s f).lmu = s.lmu := rfl
@[simp] theorem modHosts_conv (s : State) (f : Hosts → Hosts) : (modHosts s f).conv = s.conv := rfl
@[simp] theorem modHosts_sadc (s : State) (f : Hosts → Hosts) : (modHosts s f).sadc = s.sadc := rfl
@[simp] theorem modHosts_wake (s : State) (f : Hosts → Hosts) : (modHosts s f).wake = s.wake := rfl
@[simp] theorem modHosts_ret (s : State) (f : Hosts → Hosts) : (modHosts s f).ret = s.ret := rfl
@[simp] theorem modHosts_flt (s : State) (f : Hosts → Hosts) : (modHosts s f).flt = s.flt := rfl
@[simp] theorem modHosts_pads (s : State) (f : Hosts → Hosts) : (modHosts s f).pads = s.pads := rfl
@[simp] theorem modHosts_ports (s : State) (f : Hosts → Hosts) : (modHosts s f).ports = s.ports := rfl
@[simp] theorem modHosts_tap (s : State) (f : Hosts → Hosts) : (modHosts s f).tap = s.tap := rfl
@[simp] theorem modHosts_freeCtr (s : State) (f : Hosts → Hosts) : (modHosts s f).freeCtr = s.freeCtr := rfl
@[simp] theorem modHosts_pending (s : State) (f : Hosts → Hosts) : (modHosts s f).pending = s.pending := rfl

@[simp] theorem modWake_wake (s : State) (f : Wake → Wake) : (modWake s f).wake = f s.wake := rfl
@[simp] theorem modWake_serial (s : State) (f : Wake → Wake) : (modWake s f).serial = s.serial := rfl
@[simp] theorem modWake_variant (s : State) (f : Wake → Wake) : (modWake s f).variant = s.variant := rfl
@[simp] theorem modWake_resetHeld (s : State) (f : Wake → Wake) : (modWake s f).resetHeld = s.resetHeld := rfl
@[simp] theorem modWake_feeds (s : State) (f : Wake → Wake) : (modWake s f).feeds = s.feeds := rfl
@[simp] theorem modWake_clk (s : State) (f : Wake → Wake) : (modWake s f).clk = s.clk := rfl
@[simp] theorem modWake_time (s : State) (f : Wake → Wake) : (modWake s f).time = s.time := rfl
@[simp] theorem modWake_arb (s : State) (f : Wake → Wake) : (modWake s f).arb = s.arb := rfl
@[simp] theorem modWake_mirror (s : State) (f : Wake → Wake) : (modWake s f).mirror = s.mirror := rfl
@[simp] theorem modWake_pm (s : State) (f : Wake → Wake) : (modWake s f).pm = s.pm := rfl
@[simp] theorem modWake_core (s : State) (f : Wake → Wake) : (modWake s f).core = s.core := rfl
@[simp] theorem modWake_dies (s : State) (f : Wake → Wake) : (modWake s f).dies = s.dies := rfl
@[simp] theorem modWake_bridges (s : State) (f : Wake → Wake) : (modWake s f).bridges = s.bridges := rfl
@[simp] theorem modWake_lmu (s : State) (f : Wake → Wake) : (modWake s f).lmu = s.lmu := rfl
@[simp] theorem modWake_conv (s : State) (f : Wake → Wake) : (modWake s f).conv = s.conv := rfl
@[simp] theorem modWake_sadc (s : State) (f : Wake → Wake) : (modWake s f).sadc = s.sadc := rfl
@[simp] theorem modWake_ret (s : State) (f : Wake → Wake) : (modWake s f).ret = s.ret := rfl
@[simp] theorem modWake_hosts (s : State) (f : Wake → Wake) : (modWake s f).hosts = s.hosts := rfl
@[simp] theorem modWake_flt (s : State) (f : Wake → Wake) : (modWake s f).flt = s.flt := rfl
@[simp] theorem modWake_pads (s : State) (f : Wake → Wake) : (modWake s f).pads = s.pads := rfl
@[simp] theorem modWake_ports (s : State) (f : Wake → Wake) : (modWake s f).ports = s.ports := rfl
@[simp] theorem modWake_tap (s : State) (f : Wake → Wake) : (modWake s f).tap = s.tap := rfl
@[simp] theorem modWake_freeCtr (s : State) (f : Wake → Wake) : (modWake s f).freeCtr = s.freeCtr := rfl
@[simp] theorem modWake_pending (s : State) (f : Wake → Wake) : (modWake s f).pending = s.pending := rfl

@[simp] theorem modConv_conv (s : State) (f : Conv → Conv) : (modConv s f).conv = f s.conv := rfl
@[simp] theorem modConv_serial (s : State) (f : Conv → Conv) : (modConv s f).serial = s.serial := rfl
@[simp] theorem modConv_variant (s : State) (f : Conv → Conv) : (modConv s f).variant = s.variant := rfl
@[simp] theorem modConv_resetHeld (s : State) (f : Conv → Conv) : (modConv s f).resetHeld = s.resetHeld := rfl
@[simp] theorem modConv_feeds (s : State) (f : Conv → Conv) : (modConv s f).feeds = s.feeds := rfl
@[simp] theorem modConv_clk (s : State) (f : Conv → Conv) : (modConv s f).clk = s.clk := rfl
@[simp] theorem modConv_time (s : State) (f : Conv → Conv) : (modConv s f).time = s.time := rfl
@[simp] theorem modConv_arb (s : State) (f : Conv → Conv) : (modConv s f).arb = s.arb := rfl
@[simp] theorem modConv_mirror (s : State) (f : Conv → Conv) : (modConv s f).mirror = s.mirror := rfl
@[simp] theorem modConv_pm (s : State) (f : Conv → Conv) : (modConv s f).pm = s.pm := rfl
@[simp] theorem modConv_core (s : State) (f : Conv → Conv) : (modConv s f).core = s.core := rfl
@[simp] theorem modConv_dies (s : State) (f : Conv → Conv) : (modConv s f).dies = s.dies := rfl
@[simp] theorem modConv_bridges (s : State) (f : Conv → Conv) : (modConv s f).bridges = s.bridges := rfl
@[simp] theorem modConv_lmu (s : State) (f : Conv → Conv) : (modConv s f).lmu = s.lmu := rfl
@[simp] theorem modConv_sadc (s : State) (f : Conv → Conv) : (modConv s f).sadc = s.sadc := rfl
@[simp] theorem modConv_wake (s : State) (f : Conv → Conv) : (modConv s f).wake = s.wake := rfl
@[simp] theorem modConv_ret (s : State) (f : Conv → Conv) : (modConv s f).ret = s.ret := rfl
@[simp] theorem modConv_hosts (s : State) (f : Conv → Conv) : (modConv s f).hosts = s.hosts := rfl
@[simp] theorem modConv_flt (s : State) (f : Conv → Conv) : (modConv s f).flt = s.flt := rfl
@[simp] theorem modConv_pads (s : State) (f : Conv → Conv) : (modConv s f).pads = s.pads := rfl
@[simp] theorem modConv_ports (s : State) (f : Conv → Conv) : (modConv s f).ports = s.ports := rfl
@[simp] theorem modConv_tap (s : State) (f : Conv → Conv) : (modConv s f).tap = s.tap := rfl
@[simp] theorem modConv_freeCtr (s : State) (f : Conv → Conv) : (modConv s f).freeCtr = s.freeCtr := rfl
@[simp] theorem modConv_pending (s : State) (f : Conv → Conv) : (modConv s f).pending = s.pending := rfl

@[simp] theorem modRet_ret (s : State) (f : Ret → Ret) : (modRet s f).ret = f s.ret := rfl
@[simp] theorem modRet_serial (s : State) (f : Ret → Ret) : (modRet s f).serial = s.serial := rfl
@[simp] theorem modRet_variant (s : State) (f : Ret → Ret) : (modRet s f).variant = s.variant := rfl
@[simp] theorem modRet_resetHeld (s : State) (f : Ret → Ret) : (modRet s f).resetHeld = s.resetHeld := rfl
@[simp] theorem modRet_feeds (s : State) (f : Ret → Ret) : (modRet s f).feeds = s.feeds := rfl
@[simp] theorem modRet_clk (s : State) (f : Ret → Ret) : (modRet s f).clk = s.clk := rfl
@[simp] theorem modRet_time (s : State) (f : Ret → Ret) : (modRet s f).time = s.time := rfl
@[simp] theorem modRet_arb (s : State) (f : Ret → Ret) : (modRet s f).arb = s.arb := rfl
@[simp] theorem modRet_mirror (s : State) (f : Ret → Ret) : (modRet s f).mirror = s.mirror := rfl
@[simp] theorem modRet_pm (s : State) (f : Ret → Ret) : (modRet s f).pm = s.pm := rfl
@[simp] theorem modRet_core (s : State) (f : Ret → Ret) : (modRet s f).core = s.core := rfl
@[simp] theorem modRet_dies (s : State) (f : Ret → Ret) : (modRet s f).dies = s.dies := rfl
@[simp] theorem modRet_bridges (s : State) (f : Ret → Ret) : (modRet s f).bridges = s.bridges := rfl
@[simp] theorem modRet_lmu (s : State) (f : Ret → Ret) : (modRet s f).lmu = s.lmu := rfl
@[simp] theorem modRet_conv (s : State) (f : Ret → Ret) : (modRet s f).conv = s.conv := rfl
@[simp] theorem modRet_sadc (s : State) (f : Ret → Ret) : (modRet s f).sadc = s.sadc := rfl
@[simp] theorem modRet_wake (s : State) (f : Ret → Ret) : (modRet s f).wake = s.wake := rfl
@[simp] theorem modRet_hosts (s : State) (f : Ret → Ret) : (modRet s f).hosts = s.hosts := rfl
@[simp] theorem modRet_flt (s : State) (f : Ret → Ret) : (modRet s f).flt = s.flt := rfl
@[simp] theorem modRet_pads (s : State) (f : Ret → Ret) : (modRet s f).pads = s.pads := rfl
@[simp] theorem modRet_ports (s : State) (f : Ret → Ret) : (modRet s f).ports = s.ports := rfl
@[simp] theorem modRet_tap (s : State) (f : Ret → Ret) : (modRet s f).tap = s.tap := rfl
@[simp] theorem modRet_freeCtr (s : State) (f : Ret → Ret) : (modRet s f).freeCtr = s.freeCtr := rfl
@[simp] theorem modRet_pending (s : State) (f : Ret → Ret) : (modRet s f).pending = s.pending := rfl

@[simp] theorem modSadc_sadc (s : State) (f : Sadc → Sadc) : (modSadc s f).sadc = f s.sadc := rfl
@[simp] theorem modSadc_serial (s : State) (f : Sadc → Sadc) : (modSadc s f).serial = s.serial := rfl
@[simp] theorem modSadc_variant (s : State) (f : Sadc → Sadc) : (modSadc s f).variant = s.variant := rfl
@[simp] theorem modSadc_resetHeld (s : State) (f : Sadc → Sadc) : (modSadc s f).resetHeld = s.resetHeld := rfl
@[simp] theorem modSadc_feeds (s : State) (f : Sadc → Sadc) : (modSadc s f).feeds = s.feeds := rfl
@[simp] theorem modSadc_clk (s : State) (f : Sadc → Sadc) : (modSadc s f).clk = s.clk := rfl
@[simp] theorem modSadc_time (s : State) (f : Sadc → Sadc) : (modSadc s f).time = s.time := rfl
@[simp] theorem modSadc_arb (s : State) (f : Sadc → Sadc) : (modSadc s f).arb = s.arb := rfl
@[simp] theorem modSadc_mirror (s : State) (f : Sadc → Sadc) : (modSadc s f).mirror = s.mirror := rfl
@[simp] theorem modSadc_pm (s : State) (f : Sadc → Sadc) : (modSadc s f).pm = s.pm := rfl
@[simp] theorem modSadc_core (s : State) (f : Sadc → Sadc) : (modSadc s f).core = s.core := rfl
@[simp] theorem modSadc_dies (s : State) (f : Sadc → Sadc) : (modSadc s f).dies = s.dies := rfl
@[simp] theorem modSadc_bridges (s : State) (f : Sadc → Sadc) : (modSadc s f).bridges = s.bridges := rfl
@[simp] theorem modSadc_lmu (s : State) (f : Sadc → Sadc) : (modSadc s f).lmu = s.lmu := rfl
@[simp] theorem modSadc_conv (s : State) (f : Sadc → Sadc) : (modSadc s f).conv = s.conv := rfl
@[simp] theorem modSadc_wake (s : State) (f : Sadc → Sadc) : (modSadc s f).wake = s.wake := rfl
@[simp] theorem modSadc_ret (s : State) (f : Sadc → Sadc) : (modSadc s f).ret = s.ret := rfl
@[simp] theorem modSadc_hosts (s : State) (f : Sadc → Sadc) : (modSadc s f).hosts = s.hosts := rfl
@[simp] theorem modSadc_flt (s : State) (f : Sadc → Sadc) : (modSadc s f).flt = s.flt := rfl
@[simp] theorem modSadc_pads (s : State) (f : Sadc → Sadc) : (modSadc s f).pads = s.pads := rfl
@[simp] theorem modSadc_ports (s : State) (f : Sadc → Sadc) : (modSadc s f).ports = s.ports := rfl
@[simp] theorem modSadc_tap (s : State) (f : Sadc → Sadc) : (modSadc s f).tap = s.tap := rfl
@[simp] theorem modSadc_freeCtr (s : State) (f : Sadc → Sadc) : (modSadc s f).freeCtr = s.freeCtr := rfl
@[simp] theorem modSadc_pending (s : State) (f : Sadc → Sadc) : (modSadc s f).pending = s.pending := rfl

@[simp] theorem modArb_arb (s : State) (f : Arb → Arb) : (modArb s f).arb = f s.arb := rfl
@[simp] theorem modArb_serial (s : State) (f : Arb → Arb) : (modArb s f).serial = s.serial := rfl
@[simp] theorem modArb_variant (s : State) (f : Arb → Arb) : (modArb s f).variant = s.variant := rfl
@[simp] theorem modArb_resetHeld (s : State) (f : Arb → Arb) : (modArb s f).resetHeld = s.resetHeld := rfl
@[simp] theorem modArb_feeds (s : State) (f : Arb → Arb) : (modArb s f).feeds = s.feeds := rfl
@[simp] theorem modArb_clk (s : State) (f : Arb → Arb) : (modArb s f).clk = s.clk := rfl
@[simp] theorem modArb_time (s : State) (f : Arb → Arb) : (modArb s f).time = s.time := rfl
@[simp] theorem modArb_mirror (s : State) (f : Arb → Arb) : (modArb s f).mirror = s.mirror := rfl
@[simp] theorem modArb_pm (s : State) (f : Arb → Arb) : (modArb s f).pm = s.pm := rfl
@[simp] theorem modArb_core (s : State) (f : Arb → Arb) : (modArb s f).core = s.core := rfl
@[simp] theorem modArb_dies (s : State) (f : Arb → Arb) : (modArb s f).dies = s.dies := rfl
@[simp] theorem modArb_bridges (s : State) (f : Arb → Arb) : (modArb s f).bridges = s.bridges := rfl
@[simp] theorem modArb_lmu (s : State) (f : Arb → Arb) : (modArb s f).lmu = s.lmu := rfl
@[simp] theorem modArb_conv (s : State) (f : Arb → Arb) : (modArb s f).conv = s.conv := rfl
@[simp] theorem modArb_sadc (s : State) (f : Arb → Arb) : (modArb s f).sadc = s.sadc := rfl
@[simp] theorem modArb_wake (s : State) (f : Arb → Arb) : (modArb s f).wake = s.wake := rfl
@[simp] theorem modArb_ret (s : State) (f : Arb → Arb) : (modArb s f).ret = s.ret := rfl
@[simp] theorem modArb_hosts (s : State) (f : Arb → Arb) : (modArb s f).hosts = s.hosts := rfl
@[simp] theorem modArb_flt (s : State) (f : Arb → Arb) : (modArb s f).flt = s.flt := rfl
@[simp] theorem modArb_pads (s : State) (f : Arb → Arb) : (modArb s f).pads = s.pads := rfl
@[simp] theorem modArb_ports (s : State) (f : Arb → Arb) : (modArb s f).ports = s.ports := rfl
@[simp] theorem modArb_tap (s : State) (f : Arb → Arb) : (modArb s f).tap = s.tap := rfl
@[simp] theorem modArb_freeCtr (s : State) (f : Arb → Arb) : (modArb s f).freeCtr = s.freeCtr := rfl
@[simp] theorem modArb_pending (s : State) (f : Arb → Arb) : (modArb s f).pending = s.pending := rfl

@[simp] theorem modMirror_mirror (s : State) (f : Mirror → Mirror) : (modMirror s f).mirror = f s.mirror := rfl
@[simp] theorem modMirror_serial (s : State) (f : Mirror → Mirror) : (modMirror s f).serial = s.serial := rfl
@[simp] theorem modMirror_variant (s : State) (f : Mirror → Mirror) : (modMirror s f).variant = s.variant := rfl
@[simp] theorem modMirror_resetHeld (s : State) (f : Mirror → Mirror) : (modMirror s f).resetHeld = s.resetHeld := rfl
@[simp] theorem modMirror_feeds (s : State) (f : Mirror → Mirror) : (modMirror s f).feeds = s.feeds := rfl
@[simp] theorem modMirror_clk (s : State) (f : Mirror → Mirror) : (modMirror s f).clk = s.clk := rfl
@[simp] theorem modMirror_time (s : State) (f : Mirror → Mirror) : (modMirror s f).time = s.time := rfl
@[simp] theorem modMirror_arb (s : State) (f : Mirror → Mirror) : (modMirror s f).arb = s.arb := rfl
@[simp] theorem modMirror_pm (s : State) (f : Mirror → Mirror) : (modMirror s f).pm = s.pm := rfl
@[simp] theorem modMirror_core (s : State) (f : Mirror → Mirror) : (modMirror s f).core = s.core := rfl
@[simp] theorem modMirror_dies (s : State) (f : Mirror → Mirror) : (modMirror s f).dies = s.dies := rfl
@[simp] theorem modMirror_bridges (s : State) (f : Mirror → Mirror) : (modMirror s f).bridges = s.bridges := rfl
@[simp] theorem modMirror_lmu (s : State) (f : Mirror → Mirror) : (modMirror s f).lmu = s.lmu := rfl
@[simp] theorem modMirror_conv (s : State) (f : Mirror → Mirror) : (modMirror s f).conv = s.conv := rfl
@[simp] theorem modMirror_sadc (s : State) (f : Mirror → Mirror) : (modMirror s f).sadc = s.sadc := rfl
@[simp] theorem modMirror_wake (s : State) (f : Mirror → Mirror) : (modMirror s f).wake = s.wake := rfl
@[simp] theorem modMirror_ret (s : State) (f : Mirror → Mirror) : (modMirror s f).ret = s.ret := rfl
@[simp] theorem modMirror_hosts (s : State) (f : Mirror → Mirror) : (modMirror s f).hosts = s.hosts := rfl
@[simp] theorem modMirror_flt (s : State) (f : Mirror → Mirror) : (modMirror s f).flt = s.flt := rfl
@[simp] theorem modMirror_pads (s : State) (f : Mirror → Mirror) : (modMirror s f).pads = s.pads := rfl
@[simp] theorem modMirror_ports (s : State) (f : Mirror → Mirror) : (modMirror s f).ports = s.ports := rfl
@[simp] theorem modMirror_tap (s : State) (f : Mirror → Mirror) : (modMirror s f).tap = s.tap := rfl
@[simp] theorem modMirror_freeCtr (s : State) (f : Mirror → Mirror) : (modMirror s f).freeCtr = s.freeCtr := rfl
@[simp] theorem modMirror_pending (s : State) (f : Mirror → Mirror) : (modMirror s f).pending = s.pending := rfl

@[simp] theorem modClk_clk (s : State) (f : Clk → Clk) : (modClk s f).clk = f s.clk := rfl
@[simp] theorem modClk_serial (s : State) (f : Clk → Clk) : (modClk s f).serial = s.serial := rfl
@[simp] theorem modClk_variant (s : State) (f : Clk → Clk) : (modClk s f).variant = s.variant := rfl
@[simp] theorem modClk_resetHeld (s : State) (f : Clk → Clk) : (modClk s f).resetHeld = s.resetHeld := rfl
@[simp] theorem modClk_feeds (s : State) (f : Clk → Clk) : (modClk s f).feeds = s.feeds := rfl
@[simp] theorem modClk_time (s : State) (f : Clk → Clk) : (modClk s f).time = s.time := rfl
@[simp] theorem modClk_arb (s : State) (f : Clk → Clk) : (modClk s f).arb = s.arb := rfl
@[simp] theorem modClk_mirror (s : State) (f : Clk → Clk) : (modClk s f).mirror = s.mirror := rfl
@[simp] theorem modClk_pm (s : State) (f : Clk → Clk) : (modClk s f).pm = s.pm := rfl
@[simp] theorem modClk_core (s : State) (f : Clk → Clk) : (modClk s f).core = s.core := rfl
@[simp] theorem modClk_dies (s : State) (f : Clk → Clk) : (modClk s f).dies = s.dies := rfl
@[simp] theorem modClk_bridges (s : State) (f : Clk → Clk) : (modClk s f).bridges = s.bridges := rfl
@[simp] theorem modClk_lmu (s : State) (f : Clk → Clk) : (modClk s f).lmu = s.lmu := rfl
@[simp] theorem modClk_conv (s : State) (f : Clk → Clk) : (modClk s f).conv = s.conv := rfl
@[simp] theorem modClk_sadc (s : State) (f : Clk → Clk) : (modClk s f).sadc = s.sadc := rfl
@[simp] theorem modClk_wake (s : State) (f : Clk → Clk) : (modClk s f).wake = s.wake := rfl
@[simp] theorem modClk_ret (s : State) (f : Clk → Clk) : (modClk s f).ret = s.ret := rfl
@[simp] theorem modClk_hosts (s : State) (f : Clk → Clk) : (modClk s f).hosts = s.hosts := rfl
@[simp] theorem modClk_flt (s : State) (f : Clk → Clk) : (modClk s f).flt = s.flt := rfl
@[simp] theorem modClk_pads (s : State) (f : Clk → Clk) : (modClk s f).pads = s.pads := rfl
@[simp] theorem modClk_ports (s : State) (f : Clk → Clk) : (modClk s f).ports = s.ports := rfl
@[simp] theorem modClk_tap (s : State) (f : Clk → Clk) : (modClk s f).tap = s.tap := rfl
@[simp] theorem modClk_freeCtr (s : State) (f : Clk → Clk) : (modClk s f).freeCtr = s.freeCtr := rfl
@[simp] theorem modClk_pending (s : State) (f : Clk → Clk) : (modClk s f).pending = s.pending := rfl

@[simp] theorem modTime_time (s : State) (f : Time → Time) : (modTime s f).time = f s.time := rfl
@[simp] theorem modTime_serial (s : State) (f : Time → Time) : (modTime s f).serial = s.serial := rfl
@[simp] theorem modTime_variant (s : State) (f : Time → Time) : (modTime s f).variant = s.variant := rfl
@[simp] theorem modTime_resetHeld (s : State) (f : Time → Time) : (modTime s f).resetHeld = s.resetHeld := rfl
@[simp] theorem modTime_feeds (s : State) (f : Time → Time) : (modTime s f).feeds = s.feeds := rfl
@[simp] theorem modTime_clk (s : State) (f : Time → Time) : (modTime s f).clk = s.clk := rfl
@[simp] theorem modTime_arb (s : State) (f : Time → Time) : (modTime s f).arb = s.arb := rfl
@[simp] theorem modTime_mirror (s : State) (f : Time → Time) : (modTime s f).mirror = s.mirror := rfl
@[simp] theorem modTime_pm (s : State) (f : Time → Time) : (modTime s f).pm = s.pm := rfl
@[simp] theorem modTime_core (s : State) (f : Time → Time) : (modTime s f).core = s.core := rfl
@[simp] theorem modTime_dies (s : State) (f : Time → Time) : (modTime s f).dies = s.dies := rfl
@[simp] theorem modTime_bridges (s : State) (f : Time → Time) : (modTime s f).bridges = s.bridges := rfl
@[simp] theorem modTime_lmu (s : State) (f : Time → Time) : (modTime s f).lmu = s.lmu := rfl
@[simp] theorem modTime_conv (s : State) (f : Time → Time) : (modTime s f).conv = s.conv := rfl
@[simp] theorem modTime_sadc (s : State) (f : Time → Time) : (modTime s f).sadc = s.sadc := rfl
@[simp] theorem modTime_wake (s : State) (f : Time → Time) : (modTime s f).wake = s.wake := rfl
@[simp] theorem modTime_ret (s : State) (f : Time → Time) : (modTime s f).ret = s.ret := rfl
@[simp] theorem modTime_hosts (s : State) (f : Time → Time) : (modTime s f).hosts = s.hosts := rfl
@[simp] theorem modTime_flt (s : State) (f : Time → Time) : (modTime s f).flt = s.flt := rfl
@[simp] theorem modTime_pads (s : State) (f : Time → Time) : (modTime s f).pads = s.pads := rfl
@[simp] theorem modTime_ports (s : State) (f : Time → Time) : (modTime s f).ports = s.ports := rfl
@[simp] theorem modTime_tap (s : State) (f : Time → Time) : (modTime s f).tap = s.tap := rfl
@[simp] theorem modTime_freeCtr (s : State) (f : Time → Time) : (modTime s f).freeCtr = s.freeCtr := rfl
@[simp] theorem modTime_pending (s : State) (f : Time → Time) : (modTime s f).pending = s.pending := rfl

@[simp] theorem modPorts_ports (s : State) (f : Ports → Ports) : (modPorts s f).ports = f s.ports := rfl
@[simp] theorem modPorts_serial (s : State) (f : Ports → Ports) : (modPorts s f).serial = s.serial := rfl
@[simp] theorem modPorts_variant (s : State) (f : Ports → Ports) : (modPorts s f).variant = s.variant := rfl
@[simp] theorem modPorts_resetHeld (s : State) (f : Ports → Ports) : (modPorts s f).resetHeld = s.resetHeld := rfl
@[simp] theorem modPorts_feeds (s : State) (f : Ports → Ports) : (modPorts s f).feeds = s.feeds := rfl
@[simp] theorem modPorts_clk (s : State) (f : Ports → Ports) : (modPorts s f).clk = s.clk := rfl
@[simp] theorem modPorts_time (s : State) (f : Ports → Ports) : (modPorts s f).time = s.time := rfl
@[simp] theorem modPorts_arb (s : State) (f : Ports → Ports) : (modPorts s f).arb = s.arb := rfl
@[simp] theorem modPorts_mirror (s : State) (f : Ports → Ports) : (modPorts s f).mirror = s.mirror := rfl
@[simp] theorem modPorts_pm (s : State) (f : Ports → Ports) : (modPorts s f).pm = s.pm := rfl
@[simp] theorem modPorts_core (s : State) (f : Ports → Ports) : (modPorts s f).core = s.core := rfl
@[simp] theorem modPorts_dies (s : State) (f : Ports → Ports) : (modPorts s f).dies = s.dies := rfl
@[simp] theorem modPorts_bridges (s : State) (f : Ports → Ports) : (modPorts s f).bridges = s.bridges := rfl
@[simp] theorem modPorts_lmu (s : State) (f : Ports → Ports) : (modPorts s f).lmu = s.lmu := rfl
@[simp] theorem modPorts_conv (s : State) (f : Ports → Ports) : (modPorts s f).conv = s.conv := rfl
@[simp] theorem modPorts_sadc (s : State) (f : Ports → Ports) : (modPorts s f).sadc = s.sadc := rfl
@[simp] theorem modPorts_wake (s : State) (f : Ports → Ports) : (modPorts s f).wake = s.wake := rfl
@[simp] theorem modPorts_ret (s : State) (f : Ports → Ports) : (modPorts s f).ret = s.ret := rfl
@[simp] theorem modPorts_hosts (s : State) (f : Ports → Ports) : (modPorts s f).hosts = s.hosts := rfl
@[simp] theorem modPorts_flt (s : State) (f : Ports → Ports) : (modPorts s f).flt = s.flt := rfl
@[simp] theorem modPorts_pads (s : State) (f : Ports → Ports) : (modPorts s f).pads = s.pads := rfl
@[simp] theorem modPorts_tap (s : State) (f : Ports → Ports) : (modPorts s f).tap = s.tap := rfl
@[simp] theorem modPorts_freeCtr (s : State) (f : Ports → Ports) : (modPorts s f).freeCtr = s.freeCtr := rfl
@[simp] theorem modPorts_pending (s : State) (f : Ports → Ports) : (modPorts s f).pending = s.pending := rfl

@[simp] theorem modTw_ports (s : State) (tw : TwId) (f : TwPort → TwPort) : (modTw s tw f).ports = { s.ports with tw := vmod s.ports.tw (twIx tw) f } := rfl
@[simp] theorem modTw_serial (s : State) (tw : TwId) (f : TwPort → TwPort) : (modTw s tw f).serial = s.serial := rfl
@[simp] theorem modTw_variant (s : State) (tw : TwId) (f : TwPort → TwPort) : (modTw s tw f).variant = s.variant := rfl
@[simp] theorem modTw_resetHeld (s : State) (tw : TwId) (f : TwPort → TwPort) : (modTw s tw f).resetHeld = s.resetHeld := rfl
@[simp] theorem modTw_feeds (s : State) (tw : TwId) (f : TwPort → TwPort) : (modTw s tw f).feeds = s.feeds := rfl
@[simp] theorem modTw_clk (s : State) (tw : TwId) (f : TwPort → TwPort) : (modTw s tw f).clk = s.clk := rfl
@[simp] theorem modTw_time (s : State) (tw : TwId) (f : TwPort → TwPort) : (modTw s tw f).time = s.time := rfl
@[simp] theorem modTw_arb (s : State) (tw : TwId) (f : TwPort → TwPort) : (modTw s tw f).arb = s.arb := rfl
@[simp] theorem modTw_mirror (s : State) (tw : TwId) (f : TwPort → TwPort) : (modTw s tw f).mirror = s.mirror := rfl
@[simp] theorem modTw_pm (s : State) (tw : TwId) (f : TwPort → TwPort) : (modTw s tw f).pm = s.pm := rfl
@[simp] theorem modTw_core (s : State) (tw : TwId) (f : TwPort → TwPort) : (modTw s tw f).core = s.core := rfl
@[simp] theorem modTw_dies (s : State) (tw : TwId) (f : TwPort → TwPort) : (modTw s tw f).dies = s.dies := rfl
@[simp] theorem modTw_bridges (s : State) (tw : TwId) (f : TwPort → TwPort) : (modTw s tw f).bridges = s.bridges := rfl
@[simp] theorem modTw_lmu (s : State) (tw : TwId) (f : TwPort → TwPort) : (modTw s tw f).lmu = s.lmu := rfl
@[simp] theorem modTw_conv (s : State) (tw : TwId) (f : TwPort → TwPort) : (modTw s tw f).conv = s.conv := rfl
@[simp] theorem modTw_sadc (s : State) (tw : TwId) (f : TwPort → TwPort) : (modTw s tw f).sadc = s.sadc := rfl
@[simp] theorem modTw_wake (s : State) (tw : TwId) (f : TwPort → TwPort) : (modTw s tw f).wake = s.wake := rfl
@[simp] theorem modTw_ret (s : State) (tw : TwId) (f : TwPort → TwPort) : (modTw s tw f).ret = s.ret := rfl
@[simp] theorem modTw_hosts (s : State) (tw : TwId) (f : TwPort → TwPort) : (modTw s tw f).hosts = s.hosts := rfl
@[simp] theorem modTw_flt (s : State) (tw : TwId) (f : TwPort → TwPort) : (modTw s tw f).flt = s.flt := rfl
@[simp] theorem modTw_pads (s : State) (tw : TwId) (f : TwPort → TwPort) : (modTw s tw f).pads = s.pads := rfl
@[simp] theorem modTw_tap (s : State) (tw : TwId) (f : TwPort → TwPort) : (modTw s tw f).tap = s.tap := rfl
@[simp] theorem modTw_freeCtr (s : State) (tw : TwId) (f : TwPort → TwPort) : (modTw s tw f).freeCtr = s.freeCtr := rfl
@[simp] theorem modTw_pending (s : State) (tw : TwId) (f : TwPort → TwPort) : (modTw s tw f).pending = s.pending := rfl

@[simp] theorem modPv_ports (s : State) (pv : PortView) (f : PView → PView) : (modPv s pv f).ports = { s.ports with views := mset {} s.ports.views (pvIx pv) (f (getPv s pv)) } := rfl
@[simp] theorem modPv_serial (s : State) (pv : PortView) (f : PView → PView) : (modPv s pv f).serial = s.serial := rfl
@[simp] theorem modPv_variant (s : State) (pv : PortView) (f : PView → PView) : (modPv s pv f).variant = s.variant := rfl
@[simp] theorem modPv_resetHeld (s : State) (pv : PortView) (f : PView → PView) : (modPv s pv f).resetHeld = s.resetHeld := rfl
@[simp] theorem modPv_feeds (s : State) (pv : PortView) (f : PView → PView) : (modPv s pv f).feeds = s.feeds := rfl
@[simp] theorem modPv_clk (s : State) (pv : PortView) (f : PView → PView) : (modPv s pv f).clk = s.clk := rfl
@[simp] theorem modPv_time (s : State) (pv : PortView) (f : PView → PView) : (modPv s pv f).time = s.time := rfl
@[simp] theorem modPv_arb (s : State) (pv : PortView) (f : PView → PView) : (modPv s pv f).arb = s.arb := rfl
@[simp] theorem modPv_mirror (s : State) (pv : PortView) (f : PView → PView) : (modPv s pv f).mirror = s.mirror := rfl
@[simp] theorem modPv_pm (s : State) (pv : PortView) (f : PView → PView) : (modPv s pv f).pm = s.pm := rfl
@[simp] theorem modPv_core (s : State) (pv : PortView) (f : PView → PView) : (modPv s pv f).core = s.core := rfl
@[simp] theorem modPv_dies (s : State) (pv : PortView) (f : PView → PView) : (modPv s pv f).dies = s.dies := rfl
@[simp] theorem modPv_bridges (s : State) (pv : PortView) (f : PView → PView) : (modPv s pv f).bridges = s.bridges := rfl
@[simp] theorem modPv_lmu (s : State) (pv : PortView) (f : PView → PView) : (modPv s pv f).lmu = s.lmu := rfl
@[simp] theorem modPv_conv (s : State) (pv : PortView) (f : PView → PView) : (modPv s pv f).conv = s.conv := rfl
@[simp] theorem modPv_sadc (s : State) (pv : PortView) (f : PView → PView) : (modPv s pv f).sadc = s.sadc := rfl
@[simp] theorem modPv_wake (s : State) (pv : PortView) (f : PView → PView) : (modPv s pv f).wake = s.wake := rfl
@[simp] theorem modPv_ret (s : State) (pv : PortView) (f : PView → PView) : (modPv s pv f).ret = s.ret := rfl
@[simp] theorem modPv_hosts (s : State) (pv : PortView) (f : PView → PView) : (modPv s pv f).hosts = s.hosts := rfl
@[simp] theorem modPv_flt (s : State) (pv : PortView) (f : PView → PView) : (modPv s pv f).flt = s.flt := rfl
@[simp] theorem modPv_pads (s : State) (pv : PortView) (f : PView → PView) : (modPv s pv f).pads = s.pads := rfl
@[simp] theorem modPv_tap (s : State) (pv : PortView) (f : PView → PView) : (modPv s pv f).tap = s.tap := rfl
@[simp] theorem modPv_freeCtr (s : State) (pv : PortView) (f : PView → PView) : (modPv s pv f).freeCtr = s.freeCtr := rfl
@[simp] theorem modPv_pending (s : State) (pv : PortView) (f : PView → PView) : (modPv s pv f).pending = s.pending := rfl

@[simp] theorem freeTaken_freeCtr (s : State) : (freeTaken s).freeCtr = s.freeCtr + 1 := rfl
@[simp] theorem freeTaken_serial (s : State) : (freeTaken s).serial = s.serial := rfl
@[simp] theorem freeTaken_variant (s : State) : (freeTaken s).variant = s.variant := rfl
@[simp] theorem freeTaken_resetHeld (s : State) : (freeTaken s).resetHeld = s.resetHeld := rfl
@[simp] theorem freeTaken_feeds (s : State) : (freeTaken s).feeds = s.feeds := rfl
@[simp] theorem freeTaken_clk (s : State) : (freeTaken s).clk = s.clk := rfl
@[simp] theorem freeTaken_time (s : State) : (freeTaken s).time = s.time := rfl
@[simp] theorem freeTaken_arb (s : State) : (freeTaken s).arb = s.arb := rfl
@[simp] theorem freeTaken_mirror (s : State) : (freeTaken s).mirror = s.mirror := rfl
@[simp] theorem freeTaken_pm (s : State) : (freeTaken s).pm = s.pm := rfl
@[simp] theorem freeTaken_core (s : State) : (freeTaken s).core = s.core := rfl
@[simp] theorem freeTaken_dies (s : State) : (freeTaken s).dies = s.dies := rfl
@[simp] theorem freeTaken_bridges (s : State) : (freeTaken s).bridges = s.bridges := rfl
@[simp] theorem freeTaken_lmu (s : State) : (freeTaken s).lmu = s.lmu := rfl
@[simp] theorem freeTaken_conv (s : State) : (freeTaken s).conv = s.conv := rfl
@[simp] theorem freeTaken_sadc (s : State) : (freeTaken s).sadc = s.sadc := rfl
@[simp] theorem freeTaken_wake (s : State) : (freeTaken s).wake = s.wake := rfl
@[simp] theorem freeTaken_ret (s : State) : (freeTaken s).ret = s.ret := rfl
@[simp] theorem freeTaken_hosts (s : State) : (freeTaken s).hosts = s.hosts := rfl
@[simp] theorem freeTaken_flt (s : State) : (freeTaken s).flt = s.flt := rfl
@[simp] theorem freeTaken_pads (s : State) : (freeTaken s).pads = s.pads := rfl
@[simp] theorem freeTaken_ports (s : State) : (freeTaken s).ports = s.ports := rfl
@[simp] theorem freeTaken_tap (s : State) : (freeTaken s).tap = s.tap := rfl
@[simp] theorem freeTaken_pending (s : State) : (freeTaken s).pending = s.pending := rfl

@[simp] theorem raiseEntry_hosts (r : Raised) (s : State) :
    (raiseEntry r s).hosts = { s.hosts with evBuf := s.hosts.evBuf ++ [r] } := rfl
@[simp] theorem raiseEntry_serial (r : Raised) (s : State) : (raiseEntry r s).serial = s.serial := rfl
@[simp] theorem raiseEntry_variant (r : Raised) (s : State) : (raiseEntry r s).variant = s.variant := rfl
@[simp] theorem raiseEntry_resetHeld (r : Raised) (s : State) : (raiseEntry r s).resetHeld = s.resetHeld := rfl
@[simp] theorem raiseEntry_feeds (r : Raised) (s : State) : (raiseEntry r s).feeds = s.feeds := rfl
@[simp] theorem raiseEntry_clk (r : Raised) (s : State) : (raiseEntry r s).clk = s.clk := rfl
@[simp] theorem raiseEntry_time (r : Raised) (s : State) : (raiseEntry r s).time = s.time := rfl
@[simp] theorem raiseEntry_arb (r : Raised) (s : State) : (raiseEntry r s).arb = s.arb := rfl
@[simp] theorem raiseEntry_mirror (r : Raised) (s : State) : (raiseEntry r s).mirror = s.mirror := rfl
@[simp] theorem raiseEntry_pm (r : Raised) (s : State) : (raiseEntry r s).pm = s.pm := rfl
@[simp] theorem raiseEntry_core (r : Raised) (s : State) : (raiseEntry r s).core = s.core := rfl
@[simp] theorem raiseEntry_dies (r : Raised) (s : State) : (raiseEntry r s).dies = s.dies := rfl
@[simp] theorem raiseEntry_bridges (r : Raised) (s : State) : (raiseEntry r s).bridges = s.bridges := rfl
@[simp] theorem raiseEntry_lmu (r : Raised) (s : State) : (raiseEntry r s).lmu = s.lmu := rfl
@[simp] theorem raiseEntry_conv (r : Raised) (s : State) : (raiseEntry r s).conv = s.conv := rfl
@[simp] theorem raiseEntry_sadc (r : Raised) (s : State) : (raiseEntry r s).sadc = s.sadc := rfl
@[simp] theorem raiseEntry_wake (r : Raised) (s : State) : (raiseEntry r s).wake = s.wake := rfl
@[simp] theorem raiseEntry_ret (r : Raised) (s : State) : (raiseEntry r s).ret = s.ret := rfl
@[simp] theorem raiseEntry_flt (r : Raised) (s : State) : (raiseEntry r s).flt = s.flt := rfl
@[simp] theorem raiseEntry_pads (r : Raised) (s : State) : (raiseEntry r s).pads = s.pads := rfl
@[simp] theorem raiseEntry_ports (r : Raised) (s : State) : (raiseEntry r s).ports = s.ports := rfl
@[simp] theorem raiseEntry_tap (r : Raised) (s : State) : (raiseEntry r s).tap = s.tap := rfl
@[simp] theorem raiseEntry_freeCtr (r : Raised) (s : State) : (raiseEntry r s).freeCtr = s.freeCtr := rfl
@[simp] theorem raiseEntry_pending (r : Raised) (s : State) : (raiseEntry r s).pending = s.pending := rfl

end Sys2Proof.Machine
end

