-- ==== Sys2Proof/Laws/Events.lean ====
section
/-!
SUPPORT. What raising and entering events, and the fault outputs, leave unchanged (R402-R408), and how frames compose.
-/

namespace Sys2Proof.Machine

open Sys2Proof.Safety

/-! Frames compose. -/

theorem same_refl (p : Part) (s : State) : Same p s s := by
  cases p <;> simp only [Same]
  congr 1
  exact vmap_id _ _ fun i => rfl

theorem frame_refl (ps : List Part) (s : State) : Frame ps s s := ⟨rfl, rfl, rfl, rfl, fun p _ => same_refl p s⟩

theorem same_trans {p : Part} {s t u : State} (h : Same p s t) (g : Same p t u) : Same p s u := by
  cases p <;> simp only [Same] at h g ⊢ <;> try (exact g.trans h)
  case hosts => rw [← g] at h; exact h
  case flt => rw [← g] at h; exact h
  case pads => rw [← g] at h; exact h
  case ports =>
    rw [← g] at h
    simpa [vmap, Vector.ext_iff] using h

theorem frame_trans {ps : List Part} {s t u : State} (h : Frame ps s t) (g : Frame ps t u) : Frame ps s u :=
  ⟨g.1.trans h.1, g.2.1.trans h.2.1, g.2.2.1.trans h.2.2.1, g.2.2.2.1.trans h.2.2.2.1,
    fun p hp => same_trans (h.2.2.2.2 p hp) (g.2.2.2.2 p hp)⟩

theorem frame_mono {ps qs : List Part} {s t : State} (h : Frame ps s t) (hs : ∀ p, p ∈ ps → p ∈ qs) : Frame qs s t :=
  ⟨h.1, h.2.1, h.2.2.1, h.2.2.2.1, fun p hp => h.2.2.2.2 p fun hm => hp (hs p hm)⟩

/-! Events (R402-R405). -/

theorem requestDue_frame (h : HostId) (s : State) : Frame [] s (requestDue h s) := by
  refine ⟨rfl, rfl, rfl, rfl, fun p _ => ?_⟩
  cases p <;> try rfl
  simp only [Same, requestDue]
  congr 1
  simp only [Vector.ext_iff, vmap_get]
  intro i hi
  split <;> rfl

/-- A change of the event queues, limiters and ignore counters alone. -/
theorem evFields_frame (s : State) (h : Hosts)
    (e : { h with evq := s.hosts.evq, evTouched := s.hosts.evTouched, evLost := s.hosts.evLost, nextSeq := s.hosts.nextSeq,
                  lims := s.hosts.lims, evBuf := s.hosts.evBuf, ign := s.hosts.ign } = s.hosts) :
    Frame [] s { s with hosts := h } :=
  ⟨rfl, rfl, rfl, rfl, fun p _ => by cases p <;> first | rfl | exact e | exact same_refl .ports s⟩

theorem enterFor_frame (r : Raised) (h : HostId) (s : State) : Frame [] s (enterFor r h s) := by
  unfold enterFor
  simp only
  split
  · exact evFields_frame s _ rfl
  · have g := fun q e t n => evFields_frame s { s.hosts with evq := q, evTouched := t, nextSeq := n, evLost := e } rfl
    exact frame_trans (g _ _ _ _) (requestDue_frame h _)

theorem iff_frame {ps : List Part} {f : State → State} (h : ∀ s, Frame ps s (f s)) (c : Bool) (s : State) :
    Frame ps s (iff c f s) := by
  unfold iff; split
  · exact h s
  · exact frame_refl ps s

theorem enterOne_frame (r : Raised) (s : State) : Frame [] s (enterOne r s) :=
  frame_trans (frame_trans (iff_frame (enterFor_frame r .a) _ s) (iff_frame (enterFor_frame r .b) _ _))
    (iff_frame (enterFor_frame r .c) _ _)

/-- A fold of steps with a frame has the frame. -/
theorem foldl_frame {ps : List Part} {α : Type} {f : State → α → State} (h : ∀ s x, Frame ps s (f s x)) :
    ∀ (xs : List α) (s : State), Frame ps s (xs.foldl f s)
  | [], s => frame_refl ps s
  | x :: xs, s => frame_trans (h s x) (foldl_frame h xs (f s x))

theorem enterAll_frame (s : State) : Frame [] s (enterAll s) :=
  frame_trans (evFields_frame s { s.hosts with evBuf := [] } rfl) (foldl_frame (fun t r => enterOne_frame r t) _ _)

theorem raiseEntry_frame (r : Raised) (s : State) : Frame [] s (raiseEntry r s) := evFields_frame s _ rfl

theorem raiseEv_frame (src p : Nat) (s : State) : Frame [] s (raiseEv src p s) := raiseEntry_frame _ s

theorem raiseLimited_frame (src qual p : Nat) (h : Option HostId) (s : State) : Frame [] s (raiseLimited src qual p h s) := by
  have lims : ∀ ls, Frame [] s { s with hosts := { s.hosts with lims := ls } } := fun ls => evFields_frame s _ rfl
  unfold raiseLimited
  split
  · split
    · exact lims _
    · exact frame_trans (lims _) (raiseEntry_frame _ _)
  · exact frame_trans (lims _) (raiseEntry_frame _ _)

theorem ignore_frame (src : IgnSrc) (reason port loc : Nat) (s : State) : Frame [] s (ignore src reason port loc s) := by
  have h : ∀ v, Frame [] s { s with hosts := { s.hosts with ign := v } } := fun v => evFields_frame s _ rfl
  unfold ignore
  simp only
  split
  · exact frame_trans (h _) (raiseLimited_frame _ _ _ _ _)
  · exact h _

/-! The fault outputs (R407) and what follows every command. -/

theorem faultOutputs_frame (s : State) : Frame [] s (faultOutputs s) := by
  refine ⟨rfl, rfl, rfl, rfl, fun p _ => ?_⟩
  cases p <;> first | rfl | exact same_refl .ports s | skip
  simp only [Same, faultOutputs]
  split <;> rfl

theorem settle_frame (s : State) : Frame [] s (settle s) := by
  unfold settle
  split
  · exact frame_refl _ s
  · exact frame_trans (enterAll_frame s) (faultOutputs_frame _)

@[simp] theorem settle_serial (s : State) : (settle s).serial = s.serial := (settle_frame s).1
@[simp] theorem settle_variant (s : State) : (settle s).variant = s.variant := (settle_frame s).2.1
@[simp] theorem settle_resetHeld (s : State) : (settle s).resetHeld = s.resetHeld := (settle_frame s).2.2.1
@[simp] theorem settle_pending (s : State) : (settle s).pending = s.pending := (settle_frame s).2.2.2.1
@[simp] theorem settle_feeds (s : State) : (settle s).feeds = s.feeds := (settle_frame s).2.2.2.2 .feeds (by simp)
@[simp] theorem settle_clk (s : State) : (settle s).clk = s.clk := (settle_frame s).2.2.2.2 .clk (by simp)
@[simp] theorem settle_time (s : State) : (settle s).time = s.time := (settle_frame s).2.2.2.2 .time (by simp)
@[simp] theorem settle_arb (s : State) : (settle s).arb = s.arb := (settle_frame s).2.2.2.2 .arb (by simp)
@[simp] theorem settle_mirror (s : State) : (settle s).mirror = s.mirror := (settle_frame s).2.2.2.2 .mirror (by simp)
@[simp] theorem settle_pm (s : State) : (settle s).pm = s.pm := (settle_frame s).2.2.2.2 .pm (by simp)
@[simp] theorem settle_core (s : State) : (settle s).core = s.core := (settle_frame s).2.2.2.2 .core (by simp)
@[simp] theorem settle_dies (s : State) : (settle s).dies = s.dies := (settle_frame s).2.2.2.2 .dies (by simp)
@[simp] theorem settle_bridges (s : State) : (settle s).bridges = s.bridges := (settle_frame s).2.2.2.2 .bridges (by simp)
@[simp] theorem settle_lmu (s : State) : (settle s).lmu = s.lmu := (settle_frame s).2.2.2.2 .lmu (by simp)
@[simp] theorem settle_conv (s : State) : (settle s).conv = s.conv := (settle_frame s).2.2.2.2 .conv (by simp)
@[simp] theorem settle_sadc (s : State) : (settle s).sadc = s.sadc := (settle_frame s).2.2.2.2 .sadc (by simp)
@[simp] theorem settle_wake (s : State) : (settle s).wake = s.wake := (settle_frame s).2.2.2.2 .wake (by simp)
@[simp] theorem settle_ret (s : State) : (settle s).ret = s.ret := (settle_frame s).2.2.2.2 .ret (by simp)
@[simp] theorem settle_tap (s : State) : (settle s).tap = s.tap := (settle_frame s).2.2.2.2 .tap (by simp)
@[simp] theorem settle_freeCtr (s : State) : (settle s).freeCtr = s.freeCtr := (settle_frame s).2.2.2.2 .free (by simp)

/-- A command of the device that is not held in reset: its effect, and what follows every command. -/
theorem act_eq {s : State} (f : State → State) (h : s.resetHeld = false) : act s f = .next (settle (f s)) := by
  simp [act, h]

end Sys2Proof.Machine
end

