-- ==== Sys2Proof/Laws/Engines.lean ====
section
/-!
SUPPORT. How an instruction runs: reading back an engine that was written, what an issue leaves unchanged, and the next state of
an instruction that completes (R77-R83, R128).
-/

namespace Sys2Proof.Machine

open Sys2Proof.Safety

@[simp] theorem getEng_setEng (s : State) (e : Eng) (x : Engine) : getEng (setEng s e x) e = x := by
  unfold getEng setEng; split <;> simp

theorem getEng_setEng_ne (s : State) {e e' : Eng} (x : Engine) (h : e' ≠ e) : getEng (setEng s e x) e' = getEng s e' := by
  have hv : e'.val ≠ e.val := fun hh => h (Fin.ext hh)
  unfold getEng setEng
  split <;> split <;> simp_all [Vector.getElem_set]
  · omega
  · omega

@[simp] theorem getEng_markStores (s : State) (e e' : Eng) (st : List (Bool × BitVec 12)) :
    getEng (markStores e st s) e' = getEng s e' := by
  unfold markStores; split <;> rfl

@[simp] theorem markStores_nil (s : State) (e : Eng) : markStores e [] s = s := by simp [markStores]

/-- With nothing in flight there is nothing to arrive. -/
theorem drain_quiet {s : State} {e : Eng} (h1 : (getEng s e).dq = []) (h2 : (getEng s e).fq = []) (h3 : (getEng s e).sysq = [])
    (h4 : (getEng s e).sigq = []) : drain e s = s := by
  simp [drain, h1, h2, h3, h4]

theorem pcNext_off (fv : BitVec 64) {x : Engine} (h : atLoopEnd x = false) : pcNext fv x = { x with pc := x.pc + 1 } := by
  unfold pcNext
  split
  · rename_i l ls hl
    have : ¬ l.stop = x.pc := by
      intro hh; simp [atLoopEnd, hl, hh] at h
    simp [this]
  · rfl

/-- Off a loop end the fetch leaves LC and the loop levels. -/
theorem atExec_off (fv : BitVec 64) {x : Engine} (h : atLoopEnd x = false) : atExec fv x = x := by
  simp [atExec, pcNext_off fv h]

theorem fetchFree_off {x : Engine} (h : atLoopEnd x = false) : fetchFree x = false := by simp [fetchFree, h]

/-- An instruction that stays within its engine, transfers no control and completes. -/
theorem engRun_next {s : State} {e : Eng} {f : Engine → Eff} {y : Engine} {st : List (Bool × BitVec 12)} (h : Ready s e)
    (hf : f (engIn s e) = .ok y st) : engRun s e f = .next (moveOn s e y st) := by
  obtain ⟨h1, h2, h3⟩ := h
  simp only [engIn] at hf h2
  simp only [engRun, h1, if_true, atExec_off _ h2, pcNext_off _ h2, hf, fetchFree_off h2, engEnd, engCommit, engPlace, moveOn]
  rw [if_neg]
  · simp
  · simp only [getEng_markStores, Bool.false_eq_true, if_false, getEng_setEng, weLeft]
    by_cases he : e = weNum
    · have := h3 he
      simp only [he, decide_true, Bool.true_and, decide_eq_true_eq, not_le]
      simp only [he] at this
      have := BitVec.toNat_add (getEng (drain weNum s) weNum).pc 1
      simp at this ⊢; omega
    · simp [he]

/-- An instruction of an engine that issues, and whose effect is a fault whatever LC and the loop levels hold. -/
theorem engRun_fault {s : State} {e : Eng} {f : Engine → Eff} {c : Nat} (h : engMay s e = true)
    (hf : ∀ fv, f (atExec fv (engIn s e)) = .flt c) : engRun s e f = .next (settle (engFault e c (atIssue s e))) := by
  simp only [engIn] at hf
  simp [engRun, h, hf]

/-- A flow instruction that completes. -/
theorem engFlow_fault {s : State} {e : Eng} {f : BitVec 16 → Engine → Eff} {c : Nat} (h : engMay s e = true)
    (hf : ∀ fv, f fv (engIn s e) = .flt c) : engFlow s e f = .next (settle (engFault e c (atIssue s e))) := by
  simp only [engIn] at hf
  simp [engFlow, h, hf]

end Sys2Proof.Machine
end

