-- ==== Sys2Proof/Laws/Arithmetic.lean ====
section
/-!
SUPPORT. Engine arithmetic as the statements put it: clamping, rounding, flags, and the next state of every parallel operation
(R60-R70, R95-R105).
-/

namespace Sys2Proof.Machine

open Sys2Proof.Safety

theorem satN56 (q : Int) : satN 56 q = (BitVec.ofInt 56 (clamp56 q), decide (clamp56 q ≠ q)) := by
  have h : 2 ^ (56 - 1) ≤ q → clamp56 q = 2 ^ (56-1) - 1 := by unfold clamp56; omega
  have h' : q < -(2 ^ (56 - 1)) → clamp56 q = -(2 ^ (56-1)) := by unfold clamp56; omega
  have h'' : ¬ (2 ^ (56 - 1) ≤ q) → ¬ (q < -(2 ^ (56 - 1))) → clamp56 q = q := by unfold clamp56; omega
  unfold satN
  split
  · rename_i g; rw [h g]; congr 1; symm; rw [decide_eq_true_eq]; omega
  · split
    · rename_i g; rw [h' g]; congr 1; symm; rw [decide_eq_true_eq]; omega
    · rename_i g g'; rw [h'' g g']; simp
theorem toInt56 (q : Int) : (BitVec.ofInt 56 (clamp56 q)).toInt = clamp56 q := by
  rw [BitVec.toInt_ofInt]; unfold clamp56; apply Int.bmod_eq_of_le <;> omega
theorem msb56 (q : Int) (h1 : -2^55 ≤ q) (h2 : q < 2^55) : (BitVec.ofInt 56 q).msb = decide (q < 0) := by
  rw [BitVec.msb_eq_toInt, BitVec.toInt_ofInt, Int.bmod_eq_of_le] <;> norm_num <;> omega
theorem zero56 (q : Int) (h1 : -2^55 ≤ q) (h2 : q < 2^55) : (BitVec.ofInt 56 q == 0) = decide (q = 0) := by
  have : (BitVec.ofInt 56 q).toInt = q := by rw [BitVec.toInt_ofInt, Int.bmod_eq_of_le] <;> norm_num <;> omega
  by_cases h : q = 0
  · subst h; rfl
  · simp only [h, decide_false, beq_eq_false_iff_ne]; intro hh; rw [hh] at this; simp at this; exact h this.symm
theorem aluOf_apply (x : Engine) (d : BitVec 2) (q : Int) (h1 : -2^55 ≤ q) (h2 : q < 2^55) (clip : Bool) (v : Bool) (c : Option Bool) :
   applyAlu x (ix2 d) (aluOf (BitVec.ofInt 56 q) clip (some v) c) = accResult x d q v c clip := by
  simp only [applyAlu, aluOf, accResult, msb56 q h1 h2, zero56 q h1 h2]; rfl
theorem clamp_le (q : Int) : -2^55 ≤ clamp56 q ∧ clamp56 q < 2^55 := by unfold clamp56; omega
theorem aluSat_apply (x : Engine) (d : BitVec 2) (q : Int) (c : Option Bool) :
   applyAlu x (ix2 d) (aluSat q c) = accSat x d q c := by
  have := clamp_le q
  rw [aluSat, sat56, satN56, aluOf_apply _ _ _ this.1 this.2]; rfl
theorem paStep_ok {s e} {op : Sys2Proof.Acc → Sys2Proof.Acc → Alu} {src : Option Sys2Proof.Acc} {d : BitVec 2} {mv : Moves} {r : Sys2Proof.Acc} (hm : movesOk mv = true)
  (hr : src = some r) : paStep op src d mv (engIn s e) = .ok (moveCommit (engIn s e) (moveCommit (engIn s e) { (applyAlu (engIn s e) (ix2 d) (op (engIn s e).acc[ix2 d] r)) with p := movePtrs (engIn s e) mv } false mv.xk mv.xr (dataAddr (engIn s e) (xPtr mv) mv.xm).1) true mv.yk mv.yr (dataAddr (engIn s e) (yPtr mv) mv.ym).1) (moveStores (engIn s e) mv) := by
  simp [paStep, hr, hm, moves]
theorem moveCommit_pc (x0 x y k r a) : (moveCommit x0 x y k r a).pc = x.pc := by unfold moveCommit memSet; split_ifs <;> rfl
theorem moveCommit_loops (x0 x y k r a) : (moveCommit x0 x y k r a).loops = x.loops := by unfold moveCommit memSet; split_ifs <;> rfl
theorem pa_next {s e} {op : Sys2Proof.Acc → Sys2Proof.Acc → Alu} {src : Engine → Option Sys2Proof.Acc} {d : BitVec 2} {mv : Moves} {r : Sys2Proof.Acc} (h : Ready s e) (hm : movesOk mv = true)
  (hr : src (engIn s e) = some r) : engRun s e (fun x => paStep op (src x) d mv x) = .next (paNext s e mv (applyAlu (engIn s e) (ix2 d) (op (engIn s e).acc[ix2 d] r))) := by
  rw [engRun_next h (f := fun x => paStep op (src x) d mv x) (paStep_ok hm hr)]
  rfl
theorem paMul_next {s e} {op : Sys2Proof.Acc → Sys2Proof.Acc → Alu} {sel} {d : BitVec 2} {mv : Moves} {a b} (h : Ready s e) (hm : movesOk mv = true)
  (hr : pairOf (engIn s e) sel = some (a,b)) : engRun s e (paMul op d sel mv) = .next (paNext s e mv (applyAlu (engIn s e) (ix2 d) (op (engIn s e).acc[ix2 d] (product a b)))) := by
  have : ((pairOf (engIn s e) sel).map fun q => product q.1 q.2) = some (product a b) := by rw [hr]; rfl
  have g := fun r hr => pa_next (op := op) (d := d) (src := fun x => (pairOf x sel).map fun q => product q.1 q.2) (r := r) h hm hr
  exact g _ this
theorem paAlu_next {s e} {op : Sys2Proof.Acc → Sys2Proof.Acc → Alu} {sel} {d : BitVec 2} {mv : Moves} {r} (h : Ready s e) (hm : movesOk mv = true)
  (hr : srcOf (engIn s e) sel = some r) : engRun s e (paAlu op d sel mv) = .next (paNext s e mv (applyAlu (engIn s e) (ix2 d) (op (engIn s e).acc[ix2 d] r))) :=
  pa_next (src := fun x => srcOf x sel) h hm hr
theorem prod_bd (a b : Sample) : -2^47 ≤ a.toInt * b.toInt * 2 ∧ a.toInt*b.toInt*2 ≤ 2^47 := by
  have h1 := BitVec.le_toInt a; have h2 := BitVec.toInt_lt (x := a)
  have h3 := BitVec.le_toInt b; have h4 := BitVec.toInt_lt (x := b)
  norm_num at *
  constructor <;> nlinarith
theorem prod_int (a b : Sample) : (product a b).toInt = a.toInt * b.toInt * 2 := by
  have := prod_bd a b
  rw [product, BitVec.toInt_ofInt, Int.bmod_eq_of_le] <;> norm_num at * <;> omega
theorem prod_nat (a b : Sample) : ((product a b).toNat : Int) = a.toInt * b.toInt * 2 % 2^56 := by
  rw [product, BitVec.toNat_ofInt]; omega
theorem prod_nat' (a b : Sample) : (product a b).toNat = (a.toInt * b.toInt * 2 % 2^56).toNat := by
  have := prod_nat a b; omega

theorem satN24 (q : Int) : satN 24 q = (BitVec.ofInt 24 (clamp24 q), decide (clamp24 q ≠ q)) := by
  have h : 2 ^ (24 - 1) ≤ q → clamp24 q = 2 ^ (24-1) - 1 := by unfold clamp24; omega
  have h' : q < -(2 ^ (24 - 1)) → clamp24 q = -(2 ^ (24-1)) := by unfold clamp24; omega
  have h'' : ¬ (2 ^ (24 - 1) ≤ q) → ¬ (q < -(2 ^ (24 - 1))) → clamp24 q = q := by unfold clamp24; omega
  unfold satN
  split
  · rename_i g; rw [h g]; congr 1; symm; rw [decide_eq_true_eq]; omega
  · split
    · rename_i g; rw [h' g]; congr 1; symm; rw [decide_eq_true_eq]; omega
    · rename_i g g'; rw [h'' g g']; simp
theorem toInt24 (q : Int) : (BitVec.ofInt 24 (clamp24 q)).toInt = clamp24 q := by
  rw [BitVec.toInt_ofInt]; unfold clamp24; apply Int.bmod_eq_of_le <;> omega
theorem narrow_eq (r : Sys2Proof.Acc) : narrow r = (BitVec.ofInt 24 (clamp24 (rnd r.toInt 24)), decide (clamp24 (rnd r.toInt 24) ≠ rnd r.toInt 24)) := by
  rw [narrow, sat24, satN24]
theorem accBd (r : Sys2Proof.Acc) : -2^55 ≤ r.toInt ∧ r.toInt < 2^55 := by
  have h1 := BitVec.le_toInt r; have h2 := BitVec.toInt_lt (x := r); norm_num at *; omega
theorem search_next {s e} {ab : Bool} {better : Int → Int → Bool} {d : BitVec 2} {y : Bool} {mv : Moves} (h : Ready s e) (hm : movesOk mv = true)
   (hk : (if y then mv.yk else mv.xk) = 1) {a : BitVec 12} (ha : a = if y then (dataAddr (engIn s e) (yPtr mv) mv.ym).1 else (dataAddr (engIn s e) (xPtr mv) mv.xm).1)
   {v : Int} (hv : v = if ab then |(memGet (engIn s e) y a).toInt * 2 ^ 24| else (memGet (engIn s e) y a).toInt * 2 ^ 24)
   {sel : BitVec 4} (hs : sel = if y then 1 else 0)
   {z : Engine} (hz : z = if better v (engIn s e).acc[ix2 d].toInt then { (engIn s e) with
      acc := vset (engIn s e).acc (ix2 d) (BitVec.ofInt 56 v), fc := true, ix := BitVec.ofNat 16 ((if y then 4096 else 0) + a.toNat) } else { (engIn s e) with fc := false }) :
   engRun s e (paSearch ab better d sel mv) = .next (paNext s e mv z) := by
  have hb : bit sel 0 = y := by subst hs; cases y <;> decide
  have hn : sel.toNat < 2 := by subst hs; cases y <;> decide
  have hy : ∀ n, 4096 * b2n y + n = (if y = true then 4096 else 0) + n := by intro n; cases y <;> simp [b2n]
  have hab : ∀ w : Int, (w.natAbs : Int) = |w| := fun w => by simp
  have : paSearch ab better d sel mv (engIn s e) = moves (engIn s e) z mv := by
    simp only [paSearch, hb, hn, hm, hk, decide_true, Bool.and_self, if_true, ← ha, hy, hab, ← hv, ← hz]
  rw [engRun_next h (f := paSearch ab better d sel mv) this]
  rfl

theorem clog2_eq {n k : Nat} (h1 : n ≤ 2^k) (h2 : ∀ j, n ≤ 2^j → k ≤ j) : clog2 n = k := by
  unfold clog2
  split
  · have := h2 0 (by simpa using ‹n ≤ 1›); omega
  · have hn : n - 1 ≠ 0 := by omega
    apply le_antisymm
    · have : Nat.log2 (n-1) < k := by rw [Nat.log2_lt hn]; omega
      omega
    · apply h2
      have := Nat.lt_log2_self (n := n-1)
      omega
theorem run_ok {s e} {f : Engine → Eff} (h : Ready s e) (y : Engine) (hf : f (engIn s e) = .ok y []) :
   engRun s e f = .next (moveOn s e y []) := engRun_next h hf
theorem regWrite_pc (x c v) : (regWrite x c v).pc = x.pc := by unfold regWrite srWrite; simp only [apply_ite Engine.pc, ite_self]
theorem regWrite_loops (x c v) : (regWrite x c v).loops = x.loops := by unfold regWrite srWrite; simp only [apply_ite Engine.loops, ite_self]
theorem regMove_pc (x c v) : (regMove x c v).pc = x.pc := by unfold regMove; simp only [apply_dite Engine.pc, regWrite_pc, ite_self, dite_eq_ite]
theorem regMove_loops (x c v) : (regMove x c v).loops = x.loops := by unfold regMove; simp only [apply_dite Engine.loops, regWrite_loops, ite_self, dite_eq_ite]
theorem mem_law {α : Type} [DecidableEq α] (d : α) (m : Map α) (k j : Nat) (v : α) (h : mwf d m = true) : mget d (mset d m k v) k = v ∧ (j ≠ k → mget d (mset d m k v) j = mget d m j) ∧ mwf d (mset d m k v) = true :=
  ⟨by rw [mget_mset d _ _ _ h]; simp, fun hj => by rw [mget_mset d _ _ _ h]; simp [hj], mset_mwf d k v h⟩
theorem signRun_le (r : Sys2Proof.Acc) : ∀ n, signRun r n ≤ n
  | 0 => le_refl _
  | n+1 => by unfold signRun; split; have := signRun_le r n; omega; omega
theorem signRun_all (r : Sys2Proof.Acc) : ∀ n i, i < n → n - signRun r n ≤ i → r.getLsbD i = r.msb
  | n+1, i, h, hi => by
    unfold signRun at hi
    split at hi
    · rename_i g
      by_cases hh : i = n
      · subst hh; simpa [bit] using g
      · exact signRun_all r n i (by omega) (by omega)
    · omega
theorem signRun_stop (r : Sys2Proof.Acc) : ∀ n, signRun r n < n → r.getLsbD (n - 1 - signRun r n) ≠ r.msb
  | n+1, h => by
    unfold signRun at h ⊢
    split at h
    · rename_i g
      rw [if_pos g]
      have := signRun_stop r n (by omega)
      have e : n + 1 - 1 - (signRun r n + 1) = n - 1 - signRun r n := by omega
      rwa [e]
    · rename_i g; rw [if_neg g]; simpa [bit] using g

end Sys2Proof.Machine
end

