-- ==== Sys2Proof/Laws/Flow.lean ====
section
/-!
SUPPORT. The next state of an instruction that transfers control, waits or issues a request, and the service of semaphores
(R77-R83, R108-R113).
-/

namespace Sys2Proof.Machine

open Sys2Proof.Safety

theorem engFlow_next {s : State} {e : Eng} {f : BitVec 16 → Engine → Eff} {y : Engine} (h : engMay s e = true)
    (hf : f (lcFree (atIssue s e)) (engIn s e) = .ok y []) (hw : e = weNum → y.pc.toNat < 4096) (hl : ¬ y.loops.length < (engIn s e).loops.length) :
    engFlow s e f = .next (jump s e y) := by
  simp only [engIn] at hf hl
  simp only [engFlow, h, if_true, hf, engEnd, engCommit, engPlace, jump, markStores_nil, hl, if_false, getEng_setEng, weLeft]
  rw [if_neg]
  simp only [Bool.and_eq_true, decide_eq_true_eq, not_and, not_le]
  exact hw
theorem setEng_freeTaken (s e x) : setEng (freeTaken s) e x = freeTaken (setEng s e x) := by unfold setEng freeTaken; split <;> rfl
theorem engFlow_free {s : State} {e : Eng} {f : BitVec 16 → Engine → Eff} {y : Engine} (h : engMay s e = true)
    (hf : f (lcFree (atIssue s e)) (engIn s e) = .ok y []) (hw : e = weNum → y.pc.toNat < 4096) (hl : y.loops.length < (engIn s e).loops.length) :
    engFlow s e f = .next (freeTaken (jump s e y)) := by
  simp only [engIn] at hf hl
  simp only [engFlow, h, if_true, hf, engEnd, engCommit, engPlace, jump, markStores_nil, hl, if_true, setEng_freeTaken, weLeft]
  rw [if_neg]
  have : ∀ s, getEng (freeTaken s) e = getEng s e := fun s => rfl
  simp only [this, getEng_setEng, Bool.and_eq_true, decide_eq_true_eq, not_and, not_le]
  exact hw
theorem moveOn_jump (s e y) (h : y.pc = (engIn s e).pc): moveOn s e y [] = jump s e { y with pc := y.pc + 1 } := by
  simp [moveOn, jump, h]
theorem condFlow_off {c : BitVec 4} {x : Engine} {taken} (h1 : condOk c = true) (h2 : atLoopEnd x = false) (h3 : condHolds x c = false) :
  condFlow c taken x = .ok { x with pc := x.pc + 1 } [] := by simp [condFlow, h1, h2, h3]
theorem condFlow_on {c : BitVec 4} {x : Engine} {taken} (h1 : condOk c = true) (h2 : atLoopEnd x = false) (h3 : condHolds x c = true) :
  condFlow c taken x = taken x := by simp [condFlow, h1, h2, h3]
theorem pcw {s e} (h : Ready s e) : e = weNum → ((engIn s e).pc + 1).toNat < 4096 := by
  intro he
  have := h.2.2 he
  have h2 := BitVec.toNat_add (engIn s e).pc 1
  simp only [engIn] at *
  simp at h2 ⊢; omega
theorem loopStep_any {x : Engine} {stop} (h : ∀ l ∈ x.loops, l.stop ≠ stop) : x.loops.any (fun l => l.stop = stop) = false := by
  simpa using h
theorem engIssue_next {s : State} {e : Eng} {f : Engine → Eff} {y : Engine} (h1 : engMay s e = true) (h2 : atLoopEnd (getEng s e) = false)
    (h3 : e = weNum → (getEng s e).pc.toNat + 1 < 4096) (hf : f { getEng s e with dvLate := false } = .ok y []) :
    engIssue s e f = .next (setEng s e { y with pc := (getEng s e).pc + 1, ixAg := (getEng s e).ix }) := by
  simp only [engIssue, h1, if_true, atExec_off _ h2, pcNext_off _ h2, hf, fetchFree_off h2, engEnd, engPlace]
  rw [if_neg]
  · simp
  · simp only [getEng_markStores, Bool.false_eq_true, if_false, getEng_setEng, weLeft]
    by_cases he : e = weNum
    · have := h3 he
      simp only [he, decide_true, Bool.true_and, decide_eq_true_eq, not_le]
      simp only [he] at this
      have := BitVec.toNat_add (getEng s weNum).pc 1
      simp at this ⊢; omega
    · simp [he]
theorem setEng_lt (s : State) {e : Eng} (x) (h : e ≠ weNum) : ∃ hlt : e.val < 25, setEng s e x = { s with core := { s.core with eng := s.core.eng.set e.val x hlt } } := by
  have hlt : e.val < 25 := by
    have := e.isLt
    have : e.val ≠ 25 := fun hh => h (Fin.ext hh)
    omega
  exact ⟨hlt, by simp [setEng, hlt]⟩
theorem serve_none (n : Fin 32) : ∀ (es : List (Fin 25)) (c : CoreSt), (∀ i ∈ es, c.eng[i].run ≠ .waitS n) → serveWaiting n es c = c
  | [], c, _ => rfl
  | i :: es, c, h => by
    have := h i (by simp)
    unfold serveWaiting
    rw [if_neg (by intro hh; rw [Bool.and_eq_true] at hh; exact this (eq_of_beq hh.1))]
    exact serve_none n es c fun j hj => h j (by simp [hj])
theorem serve_one (n : Fin 32) (i : Fin 25) : ∀ (es : List (Fin 25)) (c : CoreSt), es.Nodup → i ∈ es → c.eng[i].run = .waitS n → (∀ j ∈ es, j ≠ i → c.eng[j].run ≠ .waitS n) → c.sems[n] ≠ 0 →
    serveWaiting n es c = { c with sems := vset c.sems n (c.sems[n] - 1), eng := vmod c.eng i fun y => { y with run := .running } }
  | [], c, hn, hi, h, ho, hs => absurd hi (by simp)
  | j :: es, c, hn, hi, h, ho, hs => by
    unfold serveWaiting
    by_cases hj : j = i
    · rw [hj] at hn ho ⊢
      rw [if_pos (by rw [h]; simp only [beq_self_eq_true, Bool.true_and]; exact decide_eq_true hs)]
      apply serve_none
      intro k hk
      have hne : k ≠ i := by intro hh; rw [hh] at hk; exact (List.nodup_cons.1 hn).1 hk
      have := ho k (by simp [hk]) hne
      have hv : ¬ i.val = k.val := fun hh => hne (Fin.ext hh.symm)
      simp only [vmod, vset, Fin.getElem_fin, Vector.getElem_set, hv, if_false] at this ⊢
      exact this
    · rw [if_neg (by intro hh; rw [Bool.and_eq_true] at hh; exact ho j (by simp) hj (eq_of_beq hh.1))]
      exact serve_one n i es c (List.nodup_cons.1 hn).2 (by simpa [Ne.symm hj] using hi) h (fun k hk => ho k (by simp [hk])) hs

end Sys2Proof.Machine
end

