-- ==== Sys2Proof/Machine/Pads.lean ====
section
/-!
DEFINITION. What the digital lands that the device drives show: class F pads (R322, R432), class H pads (R323, R324, R435) and
the output lands of the power dies (R430, R197). They are read off the state; no command changes them by themselves.
-/

namespace Sys2Proof.Machine

/-- What the device does with a digital land: it leaves it at high impedance, drives it to a level, or drives a clock or data
signal on it. -/
inductive Pad where
  | float
  | low
  | high
  | signal
  deriving DecidableEq, Repr

/-- A land driven to a level. -/
def padLevel (b : Bool) : Pad := if b then .high else .low

/-- R156, R322: the active core's drivers of the TDM lands work. -/
def tdmPowered (s : State) : Bool := domOn s (coreDom s.arb.active)

/-- R156, R157, R322: TDMp_BCLK and TDMp_FSYNC: driven by a port that is enabled as clock source, and inputs otherwise. -/
def tdmClockPad (s : State) (p : Fin 4) : Pad :=
  let t := s.core.fab.tdm[p]
  if !tdmPowered s then .float
  else if t.en && t.role && t.st ≠ 0 && !s.pm.tdmHalt then .signal else .float

/-- R156, R159, R322: TDMp_DOUT: the transmit slots of a port that runs, and 0 of any other. -/
def tdmDataPad (s : State) (p : Fin 4) : Pad :=
  if !tdmPowered s then .float else if tdmDrives s (16 * p.val) then .signal else .low

/-- R322, R432: P_SCL and P_SDA: open-drain lands of port P, driven only while it has a transfer or a bus clear in progress. -/
def portPPad (s : State) : Pad :=
  if tdmPowered s && s.ports.pc.busy then .signal else .float

/-- R242, R250, R322: PDM_CLKq: low under PRIV_MUTE; floating while the pair is disabled; else its clock, or low where it is
stopped. -/
def pdmClkPad (s : State) (q : Fin 4) : Pad :=
  if s.conv.privMute then .low
  else if !pdmWanted s q then .float
  else if s.conv.pdmOn[q] then .signal else .low

/-- R322, R432: LO_MUTEk: high while line output k has u < 1 or its quiet charge is not complete; it floats with VO off. -/
def loMutePad (s : State) (k : Fin 4) : Pad :=
  if !domOn s 10 then .float
  else padLevel (decide ((mget {} s.core.fab.sinks k.val).u < 48) || decide (qchg s.conv ≠ 2))

/-- R323, R435: LRLYb: its hold latch while a hold is in force, its source otherwise; without the die at high impedance. -/
def lrlyPad (s : State) (b : Fin 8) : Pad :=
  if !bridgeFitted s b.val then .float
  else padLevel (if s.pm.held then bit s.pads.lrly b.val else lrlySource s b)

/-- R323, R435: AMP_ENn. -/
def ampPad (s : State) (d : Fin 4) : Pad :=
  if !dieFitted s d.val then .float
  else padLevel (if s.pm.held then bit s.pads.amp d.val else ampSource s d)

/-- What a half-bridge's output lands do. -/
inductive SwPad where
  /-- R430: high impedance, with 47 kOhm to PGND. -/
  | off
  /-- R197: both held low. -/
  | low
  /-- R197, R201: switching about a duty of one half with nothing to play, the probe's tone or the signal. -/
  | switching
  deriving DecidableEq, Repr

/-- R430, R197: SWb_P and SWb_N: at high impedance with the die off; switching in PROBE, SOFTSTART, RUN and STOPPING; else low. -/
def swPad (s : State) (b : Fin 8) : SwPad :=
  if !dieOn s (b.val / 2) then .off
  else if contributes (s.bridges[b]) && !s.tap.extest then .switching else .low

end Sys2Proof.Machine
end

