-- ==== Sys2Proof/Tests/Slice0.lean ====
section
/-!
SUPPORT. Small tests: the checks of well-formedness, words of Enlia written out from R91-R122, worked values of the spec's examples,
and, for every statement with hypotheses, a state and operands that meet the hypotheses of each of its clauses.
-/

namespace Sys2Proof.Tests

open Sys2Proof Sys2Proof.Machine Sys2Proof.Safety

/-! Well-formedness refuses each ill-formed term. -/

theorem test_wf_fabric_word_of_another_row :
    (Instr.fabEnd 0).wf = true ∧ (Instr.fabEnd 0x100000).wf = false ∧ (Instr.looka 0x900030).wf = true ∧
    (Instr.bussrc 0x900030 0).wf = false := by decide
theorem test_wf_line_word_of_another_row :
    (Instr.sweep 0 (0xB00000 : BitVec 24)).wf = true ∧
    (Instr.supervisionStop 0 0).wf = true ∧ (Instr.sweep 0 0).wf = false := by decide
theorem test_wf_host_command_of_another_row :
    (Instr.claim { port := .h0, host := .a } [0xF0000000] 0 0).rowOk = false ∧
    (Instr.claim { port := .h0, host := .a } [] 0 0).wf = false := by decide
theorem test_wf_lengths :
    (Instr.wakeBlockStrobe []).wf = false ∧ (Instr.wakeBlockStrobe (List.replicate 16 (0, 0))).wf = true ∧
    (Instr.scanPublish false { convs := [] }).wf = false ∧ (Instr.nightScan { convs := List.replicate 16 [] }).wf = false ∧
    (Instr.nightScan { convs := List.replicate 16 [0] }).wf = true ∧ (Instr.probeToneEnd 0 [1] []).wf = false ∧
    (Instr.sweepIntegrationEnd 0 { periods := [{ v := [], i := [] }] }).wf = false ∧
    (Instr.earthTestEnd { plus := [1], minus := [] }).wf = false := by decide
theorem test_wf_illegal_word : (Instr.illegalInstruction 3 0).wf = false ∧ (Instr.illegalInstruction 3 1).wf = true := by decide

/-! Words of Enlia, bit by bit from R88-R122. -/

/-- R88: the word 0 is NOP. -/
theorem test_word_nop : decodeEnlia 3 0 = some (.nop 3) := by decide
/-- R91-R95: MAC (0x03), D = 1, S = 2, an X load into XD1 from P2 with mode 1, a Y load into YD0 (2) from P5 (1) with mode 3. -/
theorem test_word_mac : decodeEnlia 3 0b1_000011_01_0010_01_01_10_001_01_10_01_011_0 =
    some (.mac 3 1 2 { xk := 1, xr := 1, xp := 2, xm := 1, yk := 1, yr := 2, yp := 1, ym := 3 }) := by decide
/-- R95: the code 0x07 is illegal. -/
theorem test_word_pa_gap : decodeEnlia 3 0b1_000111_00_0000_00_00_00_000_00_00_00_000_0 = none := by decide
/-- R99: MOV, DST = M1 (17), SRC = A2 (2). -/
theorem test_word_mov : decodeEnlia 3 0b0001_010001_000010_0000000000000000 = some (.mov 3 17 2) := by decide
/-- R103: MVY (MEM = 1), a store (DIR = 1) of A1 (5) at 0x123. -/
theorem test_word_mvy : decodeEnlia 3 0b0100_1_1_101_00000000000_000100100011 = some (.mvy 3 true 5 0x123) := by decide
/-- R104: ASH with rounding, D = 3, SRC = 1, K = -1. -/
theorem test_word_ash : decodeEnlia 3 0b0101_0_00_1_11_01_00000000000000_111111 = some (.ash 3 true 3 1 0x3F) := by decide
/-- R110 and the chapter's example: LOOP with COUNT 48 is 0x63060000 with END in its low bits. -/
theorem test_word_loop : decodeEnlia 3 0x63060111 = some (.loop 3 48 0x111) := by decide
/-- R110: BRA with COND = 9 (CS) to 0x1ABC. -/
theorem test_word_bra : decodeEnlia 3 0b0110_0000_1001_0000000_1101010111100 = some (.bra 3 9 0x1ABC) := by decide
/-- R121, R122: SYS (SUB 4), FN 0x01 RDFRAME into A2 (6), on SV. -/
theorem test_word_rdframe : decodeEnlia sv 0b0111_100_000001_110_0000000000000000 = some (.rdframe sv 6 0) := by decide
/-- No row of the command table gives bits. -/
theorem test_table_word : decodeTableWord 32 0x63060111 = none ∧ State.reset.withFetchWord 32 0 = State.reset := by decide

/-! Arithmetic of the spec. -/

/-- R63: ties go to the even neighbour. -/
theorem test_rnd_ties : Machine.rnd 0x800000 24 = 0 ∧ Machine.rnd 0x1800000 24 = 2 ∧ Machine.rnd (-0x800000) 24 = 0 := by decide
/-- R67: an offset of L - 1 advanced by 1 gives offset 0, and offset 0 advanced by -1 gives offset L - 1. -/
theorem test_advance_wraps : advance 48 (64 + 47) 1 = 64 ∧ advance 48 64 (-1) = 64 + 47 ∧ advance 0 4095 1 = 0 := by decide
/-- R62: the product of -1.0 with itself is +1.0 exactly, in accumulator form 2^47. -/
theorem test_product : (product (0x800000 : Sample) 0x800000).toInt = 2 ^ 47 := by decide
/-- R294: the copy capacities. -/
theorem test_copy_capacity : copyCap .f16 = 1663 ∧ copyCap .f96 = 13238 := by decide
/-- R453: while reset is held a command has no effect. -/
theorem test_reset_holds : exec .kfLock State.reset = .next State.reset := rfl

/-! Witnesses: a device that runs, and states near it. -/

/-- A device in DAY under control of host A in MAINTENANCE, with every domain on, and a control program whose engines run. -/
def live : State :=
  { State.reset with
    resetHeld := false
    feeds := .replicate 2 { ok := true }
    clk := { State.reset.clk with ck32Ok := true, kfLock := true, sadcLock := true, xo := .replicate 2 true,
                                  fl := .replicate 2 true, el := .replicate 2 true }
    arb := { State.reset.arb with coreRun := true }
    pm := { State.reset.pm with st := 0, held := false, kaHeld := false, on := 0xFFFF }
    core := { State.reset.core with prog := .control
                                    tab := { State.reset.core.tab with sup := List.replicate 17 256 }
                                    eng := vmap State.reset.core.eng fun _ x => { x with run := .running } }
    ret := { State.reset.ret with lc := 3 } }
/-- `live` with engine 3 changed. -/
def withE3 (f : Engine → Engine) : State := setEng live 3 (f (getEng live 3))
/-- `live` with bridge 2 changed. -/
def withBr (f : Bridge → Bridge) : State := { live with bridges := vmod live.bridges 2 f }
/-- Host A on the fast port. -/
abbrev pa : PortView := { port := .f, host := .a }
/-- Moves that load XD1 from P2 and YD0 from P5. -/
abbrev mvs : Moves := { xk := 1, xr := 1, xp := 2, xm := 1, yk := 1, yr := 2, yp := 1, ym := 3 }

theorem ready3 : Ready live 3 := ⟨by decide, by decide, by decide⟩
theorem readySv : Ready live sv := ⟨by decide, by decide, by decide⟩
theorem quiet3 : Quiet (getEng live 3) := ⟨by decide, by decide, by decide, by decide⟩

theorem witness_StepTakesTheFrontCommand : ({ live with pending := [.nop 3, .kfLock] } : State).pending = .nop 3 :: [.kfLock] := rfl
theorem witness_EngineWordsRoundTrip :
    ((Instr.bra 3 13 0x1FFF).engine? = some 3 ∧ (encodeEnlia (.bra 3 13 0x1FFF)).isSome) ∧
    decodeEnlia 3 0x60D01FFF = some (.bra 3 13 0x1FFF) := by decide
theorem witness_StepKeepsTheInvariant : Inv live :=
  ⟨by decide, by decide, by decide, (fun _ h => nomatch (show (none : Option (BitVec 3)) = some _ from h)),
   (fun _ h => nomatch (show (none : Option (BitVec 3)) = some _ from h)), by decide, by decide, by decide⟩
theorem witness_StepKeepsTheInvariant_next : step { live with pending := [.bypass] } = exec .bypass live := rfl
theorem witness_FramesOfInstructions :
    (Instr.nop 3).engine? = some 3 ∧ (touches (.nop 3)).isSome ∧ ∃ t, exec (.nop 3) live = .next t := ⟨by decide, by decide, _, rfl⟩
theorem witness_FramesOfDeviceRows :
    (Instr.bypass.engine? = none ∧ (touches .bypass).isSome ∧ ∃ t, exec .bypass live = .next t) ∧
    (live.resetHeld = false ∧ (touchesFirst (.feedLow .a)).isNone ∧ (touchesFirst (.alarmFire 0)).isSome ∧
      ∃ t, exec (.alarmFire 0) live = .next t) := ⟨⟨by decide, by decide, _, rfl⟩, by decide, by decide, by decide, _, rfl⟩
theorem witness_MultiplyOperations : Ready live 3 ∧ movesOk mvs = true ∧ (pairOf (engIn live 3) 9).isSome = true :=
  ⟨ready3, by decide, by decide⟩
theorem witness_SaturatingOperations : Ready live 3 ∧ movesOk mvs = true ∧ (srcOf (engIn live 3) 7).isSome = true :=
  ⟨ready3, by decide, by decide⟩
theorem witness_BitOperationsAndMoves : Ready live 3 ∧ movesOk mvs = true ∧ (srcOf (engIn live 3) 0).isSome = true :=
  ⟨ready3, by decide, by decide⟩
theorem witness_Searches : (Ready live 3 ∧ movesOk mvs = true ∧ mvs.xk = 1 ∧ mvs.yk = 1) ∧
    (engMay live 3 = true ∧ ({ mvs with yk := 2 } : Moves).yk ≠ 1) := ⟨⟨ready3, by decide, rfl, rfl⟩, by decide, by decide⟩
theorem witness_Addressing :
    ((48 : BitVec 12) ≠ 0 ∧ (48 : BitVec 12).toNat ≤ 2 ^ 6 ∧ ∀ j, (48 : BitVec 12).toNat ≤ 2 ^ j → 6 ≤ j) ∧
    ((2048 : BitVec 12).toNat ≤ 2 ^ 11 ∧ ∀ j, (2048 : BitVec 12).toNat ≤ 2 ^ j → 11 ≤ j) ∧
    (let x : Engine := { dlen := .replicate 4 1, dbas := .replicate 4 0x1FFFFF }
     x.dlen[(0 : Fin 4)] ≠ 0 ∧ x.dbas[(0 : Fin 4)].toNat + x.dlen[(0 : Fin 4)].toNat ≤ 2 ^ 21) := by
  refine ⟨⟨by decide, by decide, fun j h => ?_⟩, ⟨by decide, fun j h => ?_⟩, by decide, by decide⟩
  · by_contra hj
    have : 2 ^ j ≤ 2 ^ 5 := Nat.pow_le_pow_right (by decide) (by omega)
    have e : (48 : BitVec 12).toNat = 48 := by decide
    omega
  · by_contra hj
    have : 2 ^ j ≤ 2 ^ 10 := Nat.pow_le_pow_right (by decide) (by omega)
    have e : (2048 : BitVec 12).toNat = 2048 := by decide
    omega
theorem witness_RegisterMovesAndImmediates :
    Ready live 3 ∧ (regOk 59 = true ∧ regOk 0 = true) ∧ (regOk 4 = true ∧ 4 ≤ (4 : BitVec 6).toNat) ∧
    ((7 : BitVec 6).toNat < 8) ∧ (24 ≤ (31 : BitVec 6).toNat ∧ (31 : BitVec 6).toNat < 32) ∧
    (40 ≤ (40 : BitVec 6).toNat ∧ (40 : BitVec 6) ≠ 44) := ⟨ready3, by decide⟩
theorem witness_DataMemory : Ready live 3 ∧ mwf (0 : Sample) [(4095, (1 : Sample))] = true ∧ mwf (0 : Word) [(0, (1 : Word))] = true :=
  ⟨ready3, by decide⟩
theorem witness_Shifts : Ready live 3 ∧ 0 ≤ (0x1F : BitVec 6).toInt ∧ (0x20 : BitVec 6).toInt < 0 := ⟨ready3, by decide⟩
theorem witness_ConditionalTransfers :
    (Ready live 3 ∧ condOk 13 = true ∧ condHolds (engIn live 3) 13 = false) ∧
    (condOk 0 = true ∧ condHolds (engIn live 3) 0 = true ∧ (engIn live 3).rets.length < 8) ∧
    (∃ r rs, (engIn (withE3 fun x => { x with rets := [8191] }) 3).rets = r :: rs) ∧
    (∃ l m ls, (engIn (withE3 fun x => { x with loops := [{ start := 0, stop := 4 }, { start := 0, stop := 5 }] }) 3).loops
      = l :: m :: ls) ∧
    ∃ l, (engIn (withE3 fun x => { x with loops := [{ start := 0, stop := 4 }] }) 3).loops = [l] :=
  ⟨⟨ready3, by decide, by decide⟩, by decide, ⟨_, _, rfl⟩, ⟨_, _, _, rfl⟩, ⟨_, rfl⟩⟩
theorem witness_ConditionalTransfers_ready :
    Ready (withE3 fun x => { x with rets := [8191] }) 3 ∧
    Ready (withE3 fun x => { x with loops := [{ start := 0, stop := 4 }, { start := 0, stop := 5 }] }) 3 ∧
    Ready (withE3 fun x => { x with loops := [{ start := 0, stop := 4 }] }) 3 :=
  ⟨⟨by decide, by decide, by decide⟩, ⟨by decide, by decide, by decide⟩, ⟨by decide, by decide, by decide⟩⟩
/-- A loop level from 1 to 2, with the engine at its end and LC = n. -/
def atEnd (n : BitVec 16) (ls : List LoopLevel) : State :=
  withE3 fun x => { x with pc := 2, lc := n, loops := { start := 1, stop := 2 } :: ls }
theorem witness_Loops :
    (Ready live 3 ∧ (engIn live 3).pc.toNat < (8191 : BitVec 13).toNat ∧ (∀ l ∈ (engIn live 3).loops, l.stop ≠ 8191) ∧
      (engIn live 3).loops = []) ∧
    (engMay (atEnd 2 []) 3 = true ∧ (engIn (atEnd 2 []) 3).loops = { start := 1, stop := 2 } :: [] ∧
      (engIn (atEnd 2 []) 3).pc = 2 ∧ 1 < (engIn (atEnd 2 []) 3).lc.toNat) ∧
    (engMay (atEnd 1 []) 3 = true ∧ (engIn (atEnd 1 []) 3).lc = 1) ∧
    (engMay (atEnd 1 [{ start := 0, stop := 9 }]) 3 = true ∧ (engIn (atEnd 1 [{ start := 0, stop := 9 }]) 3).lc = 1) :=
  ⟨⟨ready3, by decide⟩, by decide, by decide, by decide⟩
theorem witness_Loops_nested :
    Ready (withE3 fun x => { x with loops := List.replicate 3 { start := 0, stop := 9 } }) 3 ∧
    (engIn (withE3 fun x => { x with loops := List.replicate 3 { start := 0, stop := 9 } }) 3).loops.length < 4 :=
  ⟨⟨by decide, by decide, by decide⟩, by decide⟩
/-- Engine 3 has an increment of semaphore 5 outstanding; the semaphore holds n; engine 7 runs or waits for it. -/
def sigState (n : BitVec 8) (r : EngRun) : State :=
  let s := withE3 fun x => { x with sigq := [{ sem := 5, dAhead := 0, fAhead := 0 }] }
  setEng { s with core := { s.core with sems := vset s.core.sems 5 n } } 7 { (getEng live 7) with run := r }
theorem witness_Semaphores :
    (Ready live 3 ∧ Quiet (getEng live 3) ∧ (atIssue live 3).core.sems[(31 : Fin 32)] = 0) ∧
    ((sigState 254 .running).resetHeld = false ∧ (sigState 254 .running).arb.coreRun = true ∧
      (getEng (sigState 254 .running) 3).sigq = [{ sem := 5, dAhead := 0, fAhead := 0 }] ∧
      (∀ i : Fin 25, (sigState 254 .running).core.eng[i].run ≠ .waitS 5) ∧ (sigState 254 .running).core.sems[(5 : Fin 32)] ≠ 255) ∧
    ((∀ i : Fin 25, (sigState 255 .running).core.eng[i].run ≠ .waitS 5) ∧ (sigState 255 .running).core.sems[(5 : Fin 32)] = 255) ∧
    ((sigState 0 (.waitS 5)).core.eng[(7 : Fin 25)].run = .waitS 5 ∧ (sigState 0 (.waitS 5)).core.sems[(5 : Fin 32)] = 0 ∧
      ∀ j : Fin 25, j ≠ 7 → (sigState 0 (.waitS 5)).core.eng[j].run ≠ .waitS 5) :=
  ⟨⟨ready3, quiet3, by decide⟩, by decide, by decide, by decide⟩
theorem witness_Semaphores_taken : Ready (sigState 0 .running) 7 ∧ (atIssue (sigState 1 .running) 7).core.sems[(5 : Fin 32)] ≠ 0 :=
  ⟨⟨by decide, by decide, by decide⟩, by decide⟩
theorem witness_InstructionFaults :
    engMay live 3 = true ∧ illegalCause 3 0x00000001 = some 1 ∧ (10 ≤ (10 : BitVec 4).toNat) ∧ (8 ≤ (8 : BitVec 4).toNat) ∧
    regOk 47 = false ∧ (3 : BitVec 6).toNat < 4 ∧ condOk 14 = false ∧ (0 : BitVec 13).toNat ≤ (engIn live 3).pc.toNat ∧
    atLoopEnd (engIn live 3) = false ∧ (engIn live 3).rets = [] ∧ (engIn live 3).loops = [] ∧ (3 : Eng) ≠ sv ∧
    (engMay { live with wake := { live.wake with we := { live.wake.we with run := .running } } } weNum = true) := by decide
theorem witness_InstructionFaults_full :
    (8 ≤ (engIn (withE3 fun x => { x with rets := List.replicate 8 0 }) 3).rets.length) ∧
    (4 ≤ (engIn (withE3 fun x => { x with loops := List.replicate 4 { start := 0, stop := 9 } }) 3).loops.length ∧
     engMay (withE3 fun x => { x with loops := List.replicate 4 { start := 0, stop := 9 } }) 3 = true ∧
     atLoopEnd (engIn (withE3 fun x => { x with loops := List.replicate 4 { start := 0, stop := 9 } }) 3) = false) := by decide
theorem witness_EngineFaults :
    (23 : Eng).val < 24 ∧ live.core.prog = .control ∧ engRuns live.core.eng[(0 : Fin 25)] = true ∧
    (withE3 fun x => { x with run := .halted }).core.eng[(3 : Fin 25)].run = .halted := by decide
/-- Engine 3 with a window of one word at 0x1FFF7F. -/
def winState : State := withE3 fun x => { x with winBase := 0x1FFF7F, winLen := 1, dp := .replicate 4 0x1FFF7F }
theorem witness_DelayAndFabricAccess :
    (Ready winState 3 ∧ Quiet (getEng winState 3) ∧ dlyOk 0 0 1 = true ∧
      (getEng winState 3).winBase ≤ (getEng winState 3).dp[(0 : Fin 4)].toNat ∧
      (getEng winState 3).dp[(0 : Fin 4)].toNat < (getEng winState 3).winBase + (getEng winState 3).winLen ∧
      ¬ 0x1FFF80 ≤ (getEng winState 3).dp[(0 : Fin 4)].toNat) ∧
    (Ready live 3 ∧ ¬ ((getEng live 3).dp[(0 : Fin 4)].toNat < (getEng live 3).winBase + (getEng live 3).winLen)) ∧
    (fabOk 0 0 false 16 = true ∧ slotProvided live.core.fab 16 = true ∧ 47 < slotLen live.core.fab 16 ∧
      isControlSlot 16 = false ∧ slotWritable 3 16 = false) ∧
    (fabOk 0 0 false 300 = true ∧ slotProvided live.core.fab 300 = true ∧ slotWritable 3 300 = true ∧ 0 < slotLen live.core.fab 300) ∧
    (slotProvided live.core.fab 0 = false ∨ ¬ 255 < slotLen live.core.fab 16) :=
  ⟨⟨⟨by decide, by decide, by decide⟩, ⟨by decide, by decide, by decide, by decide⟩, by decide⟩, ⟨ready3, by decide⟩, by decide,
   by decide, by decide⟩
theorem witness_DelayAndFabricAccess_more :
    (let s := { live with wake := { live.wake with we := { live.wake.we with run := .running } } }
     Ready s weNum ∧ Quiet (getEng s weNum)) ∧
    (let s := { live with clk := { live.clk with degraded := true } }
     Ready s 3 ∧ s.clk.degraded = true) :=
  ⟨⟨⟨by decide, by decide, by decide⟩, by decide, by decide, by decide, by decide⟩, ⟨by decide, by decide, by decide⟩, rfl⟩
theorem witness_AccessResults :
    (withE3 fun x => { x with dq := [.read 0x1FFFFF (.opr 3)] }).resetHeld = false ∧
    (getEng (withE3 fun x => { x with dq := [.read 0x1FFFFF (.opr 3)] }) 3).dq = .read 0x1FFFFF (.opr 3) :: [] ∧
    (getEng (withE3 fun x => { x with dq := [.read 0 (.acc 0)] }) 3).dq = .read 0 (.acc 0) :: [] ∧
    (getEng (withE3 fun x => { x with dq := [.zero (.acc 0)] }) 3).dq = .zero (.acc 0) :: [] ∧
    (getEng (withE3 fun x => { x with dq := [.write 5 7] }) 3).dq = .write 5 7 :: [] ∧ live.arb.stbyUp = false ∧
    (getEng (withE3 fun x => { x with fq := [.read 16 47 (.opr 0)] }) 3).fq = .read 16 47 (.opr 0) :: [] ∧
    (getEng (withE3 fun x => { x with fq := [.read 16 0 (.acc 3)] }) 3).fq = .read 16 0 (.acc 3) :: [] ∧
    (getEng (withE3 fun x => { x with fq := [.write 300 0 1] }) 3).fq = .write 300 0 1 :: [] := by decide
theorem witness_AccessResults_sys :
    ∃ r rs v, (getEng (setEng live sv { getEng live sv with sysq := [{ ra := 4, val := some 1, c := false }] }) sv).sysq = r :: rs ∧
      r.val = some v ∧ 4 ≤ r.ra.toNat := ⟨_, _, _, rfl, rfl, by decide⟩
/-- `live` with a command of host A waiting, seen by CMDHEAD or not. -/
def withCmd (seen : Bool) : State :=
  { live with hosts := { live.hosts with q := [{ id := 0, host := .a, cnum := 1, words := [0x01000000], retiring := false }] }
              core := { live.core with cmdSeen := seen } }
theorem witness_SysQueries :
    (Ready live sv ∧ (headEnt (atIssue live sv)).isNone = true ∧ (atIssue live sv).pm.set = none ∧ (atIssue live sv).pm.req = none) ∧
    (Ready (withCmd true) sv ∧ (headEnt (atIssue (withCmd true) sv)).isSome = true ∧ (atIssue (withCmd true) sv).core.cmdSeen = true) ∧
    (stageAccept 3 1 1 (atIssue live sv)).isSome = true :=
  ⟨⟨readySv, by decide⟩, ⟨⟨by decide, by decide, by decide⟩, by decide⟩, by decide⟩
theorem witness_SysDeferredEffects :
    Ready live sv ∧ storeUp (atIssue live sv) = true ∧ saveBusy (atIssue live sv) = false ∧
    rsrdOk 0 = true ∧ rswrOk 0x3FFFF = true := ⟨readySv, by decide⟩
/-- `live` with a set in bank 0 that provides engine 3. -/
def withSet : State := { live with ret := { live.ret with mram := [(0x100001, 0x10000), (0x100002, 12), (0x100008, 0x301)] } }
theorem witness_SysLoads :
    (let s := { live with core := { live.core with prog := .resident } }
     Ready s sv ∧ (atIssue s sv).core.prog = .resident ∧ loadOpen (atIssue s sv) = false ∧ (atIssue s sv).core.svStart = false) ∧
    ((atIssue live sv).core.prog = .control ∧ engRuns (getEng (atIssue live sv) (engOf 23)) = true) ∧
    (pStart 3 { withSet with core := { withSet.core with eng := vmod live.core.eng 3 fun x => { x with run := .stopped } } }).isSome
      = true ∧
    (pLoad 3 { withSet with core := { withSet.core with prog := .resident, load := { step := 2 } } }).isSome = true ∧
    (let s := { live with core := { live.core with prog := .resident, load := { step := 3, loaded := [24] } } }
     (plEnd s).isSome = true) :=
  ⟨⟨⟨by decide, by decide, by decide⟩, by decide⟩, by decide, by decide, by decide, by decide⟩
theorem witness_ClockMonitors :
    live.resetHeld = false ∧ live.clk.ck32Ok = true ∧ live.clk.kfLock = true ∧ live.clk.sadcLock = true ∧ domOn live 11 = true ∧
    live.clk.el[sideIx .a] = true ∧ live.pm.st ≠ 3 ∧ live.conv.linkOk = true ∧
    ({ live.conv with linkOk := false } : Conv).linkOk = false ∧
    (let s := { live with arb := { live.arb with coreRun := false } }
     s.arb.active = .a ∧ s.arb.coreRun = false ∧ s.pm.dawn.isNone = true ∧ s.clk.xo[sideIx .a] = true ∧ s.clk.fl[sideIx .a] = true) ∧
    (let s := { live with arb := { live.arb with stbyUp := true } }
     s.arb.active ≠ .b ∧ s.arb.stbyUp = true ∧ s.pm.dawn.isNone = true ∧ s.clk.xo[sideIx .b] = true) ∧
    (let s := { live with clk := { live.clk with ck32Ok := false } }
     s.resetHeld = false ∧ s.clk.ck32Ok = false ∧ s.clk.holdover = false) ∧
    (live.arb.active = .a ∧ live.arb.coreRun = true ∧ live.arb.stbyUp = false ∧ live.clk.fl[sideIx .a] = true) := by decide
theorem witness_FeedMonitors :
    (State.reset.feeds[sideIx .a].ok = false ∧ State.reset.feeds[sideIx .a].ov = false) ∧
    ({ State.reset with resetHeld := false } : State).resetHeld = false ∧ live.feeds[sideIx .a].ok = true ∧
    live.feeds[sideIx .a].ov = false ∧ ({ live.pm with st := 2 } : Pm).st = 2 ∧
    (let s := { live with feeds := .replicate 2 { ov := true } }
     s.resetHeld = false ∧ s.feeds[sideIx .b].ov = true) ∧
    (let s := { live with feeds := #v[{ ok := true }, {}] }
     s.resetHeld = false ∧ s.feeds[sideIx .a].ok = true ∧ s.feeds[if sideIx .a = 0 then (1 : Fin 2) else 0].ok = false) := by decide
theorem witness_Timebase :
    (let s := { live with time := { live.time with alEn := .replicate 2 true, alArm := .replicate 2 true } }
     s.resetHeld = false ∧ s.time.alEn[(1 : Fin 2)] = true ∧ s.time.alArm[(1 : Fin 2)] = true ∧
     s.time.alVal[(1 : Fin 2)].toNat ≤ s.time.sec.toNat) ∧
    live.time.period ≠ 0 ∧ (0 ≤ live.time.trim.toInt ∧ live.time.sub.toNat + live.time.trim.toInt.toNat < 2 ^ 15) ∧
    ({ live with time := { live.time with trim := 0x80 } } : State).time.trim.toInt < 0 ∧ live.conv.permit = 0 ∧
    1 < ({ live with conv := { live.conv with permit := 2 } } : State).conv.permit.toNat ∧ storeUp live = true ∧
    ({ live with ret := { live.ret with checking := true } } : State).ret.checking = true := by decide
theorem witness_Timebase_tick :
    (let s := { live with clk := { live.clk with ck32Ok := false } }
     s.pending = [] ∧ s.clk.ck32Ok = false ∧ s.clk.holdover = false ∧ s.clk.internal = false) ∧
    (State.reset.pending = [] ∧ State.reset.resetHeld = true) ∧
    (live.pending = [] ∧ live.resetHeld = false ∧ live.clk.ck32Ok = true ∧ live.time.load = false ∧ live.time.trimSkip = 0 ∧
      live.time.trimCnt + 1 ≠ 0 ∧ live.time.sub.toNat + 1 < 2 ^ 15) ∧
    ({ live with time := { live.time with load := true } } : State).time.load = true ∧
    (let s := { live with time := { live.time with trimSkip := 1 } }
     s.pending = [] ∧ 0 < s.time.trimSkip ∧ s.time.trimCnt + 1 ≠ 0) ∧
    (let s := { live with time := { live.time with sub := 0x7FFF } }
     s.pending = [] ∧ s.time.trimSkip = 0 ∧ s.time.sub.toNat + 1 = 2 ^ 15 ∧ s.conv.permit = 0) := by decide
/-- `live` whose bridge words are all w. -/
def withPower (w : Word) : State :=
  { live with core := { live.core with tab := { live.core.tab with power := List.replicate 12 w } } }
theorem witness_RailsAndClocks :
    (let s := withPower 0x100
     s.resetHeld = false ∧ brUp s 7 = true ∧ s.arb.coreRun = true ∧ rslot s 7 ≠ 0) ∧
    (let s := withBr fun x => { x with st := 1, fade := true }
     brUp s 2 = true ∧ (s.bridges[(2 : Fin 8)]).st = 1 ∧ (s.bridges[(2 : Fin 8)]).fade = true) ∧
    (let s := withBr fun x => { x with st := 3 }
     brUp s 2 = true ∧ (s.bridges[(2 : Fin 8)]).st = 3 ∧ (getSink s.core.fab (8 + 2)).u = 0) ∧
    ((live.bridges[(2 : Fin 8)]).st ≠ 3 ∧ (live.bridges[(2 : Fin 8)]).st ≠ 1) ∧
    (({ live with dies := .replicate 4 { guardOn := true } } : State).dies[(3 : Fin 4)]).guardOn = true ∧
    dieOn live 3 = true ∧ (({} : Bridge).st = 0) ∧
    (let s := withPower 0x100
     s.resetHeld = false ∧ ∃ x : Bridge, x.st = 0 ∧ x.startReq = true ∧ startReady s 0 = false) ∧ rslot (withPower 0) 2 = 0 := by
  refine ⟨by decide, by decide, by decide, by decide, by decide, by decide, by decide, ⟨by decide, { startReq := true }, by decide⟩, by decide⟩
theorem witness_BridgeChanges :
    (let x : Bridge := { st := 1 }
     (x.st = 1 ∨ x.st = 2 ∨ x.st = 3) ∧ (x.st = 1 ∨ x.st = 2) ∧ x.runBit = false) ∧
    ({ st := 5 } : Bridge).st = 5 ∧ ({ st := 8 } : Bridge).st = 8 ∧ ({ st := 2, runBit := true } : Bridge).runBit = true := by decide
/-- A state in which bridge 0 may start. -/
def startState : State :=
  { live with core := { live.core with tab := { live.core.tab with power := List.replicate 12 0x100 } }
              dies := .replicate 4 { modOk := true } }
/-- Bridge 2 of `live` with a trip limit of n, no loop. -/
def tripState (n : Nat) (st : BitVec 4) : State :=
  { withPower (BitVec.ofNat 32 (n * 2 ^ 15)) with bridges := vmod live.bridges 2 fun x => { x with st := st } }
theorem witness_ShortAndProbe :
    ((tripState 1 2).resetHeld = false ∧ brUp (tripState 1 2) 2 = true ∧ contributes ((tripState 1 2).bridges[(2 : Fin 8)]) = true ∧
      (950000 :: ((tripState 1 2).bridges[(2 : Fin 8)]).win.filter fun u => u ≤ 950000 && 950000 - u ≤ 950000).length ≤
        fld (brWord (tripState 1 2) 2) 15 6) ∧
    (fld (brWord (tripState 0 2) 2) 15 6 <
      (950000 :: ((tripState 0 2).bridges[(2 : Fin 8)]).win.filter fun u => u ≤ 950000 && 950000 - u ≤ 950000).length ∧
      ((tripState 0 2).bridges[(2 : Fin 8)]).st ≠ 5 ∧ isLoop (tripState 0 2) 2 = false) ∧
    (((tripState 1 4).bridges[(2 : Fin 8)]).st = 4 ∧ isLoop (tripState 1 4) 2 = false ∧
      contributes ((tripState 1 4).bridges[(2 : Fin 8)]) = false) ∧
    (let s := { tripState 1 5 with bridges := vmod live.bridges 2 fun x => { x with st := 5, tone := true } }
     brUp s 2 = true ∧ (s.bridges[(2 : Fin 8)]).st = 5 ∧ (s.bridges[(2 : Fin 8)]).tone = true ∧ isLoop s 2 = false ∧
     (s.bridges[(2 : Fin 8)]).probeTrip = false ∧ fld (brWord s 2) 27 2 = 0 ∧
     (s.bridges[(2 : Fin 8)]).tone ≠ (live.bridges[(2 : Fin 8)]).tone) ∧
    (let s := { withPower 0x28000000 with bridges := vmod live.bridges 2 fun x => { x with st := 5, tone := true, probeTrip := true } }
     s.resetHeld = false ∧ brUp s 2 = true ∧ (s.bridges[(2 : Fin 8)]).st = 5 ∧ isLoop s 2 = false ∧ fld (brWord s 2) 27 2 ≠ 0 ∧
     bit (brWord s 2) 29 = true ∧ (s.bridges[(2 : Fin 8)]).probeTrip = true ∧
     fld (brWord s 2) 27 2 ≤ (s.bridges[(2 : Fin 8)]).prbFail + 1) ∧
    (let s := { withPower 0x40000000 with bridges := vmap live.bridges fun _ x => { x with st := 5, tone := true } }
     s.resetHeld = false ∧ isLoop s 2 = true ∧ isLoop s 3 = true ∧ (s.bridges[(2 : Fin 8)]).st = 5 ∧ (s.bridges[(3 : Fin 8)]).tone = true) ∧
    (let s := { withPower 0x40000000 with bridges := vmap live.bridges fun _ x => { x with st := 2 } }
     s.resetHeld = false ∧ isLoop s 2 = true ∧ contributes (s.bridges[(2 : Fin 8)]) = true ∧ fld (brWord s 2) 15 6 < 1 ∧
     (s.bridges[(2 : Fin 8)]).st ≠ 5) ∧
    (let s := { withPower 0x40000000 with bridges := vmod live.bridges 2 fun x => { x with st := 4 } }
     s.resetHeld = false ∧ isLoop s 2 = true ∧ (s.bridges[(2 : Fin 8)]).st = 4) := by decide
/-- R201: what a passed and a failed probe would read: |V| / |I| at the tone, in Ohm. -/
theorem witness_ShortAndProbe_ohms :
    zBelow 1 (zShort 0) (16, 0) (1, 0) = false ∧ zBelow 1 (zShort 0) (0, 0) (1, 0) = true := by decide
theorem witness_ThermalAndBoost :
    (live.resetHeld = false ∧ dieOn live 3 = true ∧ (live.dies[(3 : Fin 4)]).tshut = false ∧ 214 ≤ (214 : BitVec 8).toNat) ∧
    ((live.dies[(3 : Fin 4)]).twarn = false ∧ 189 ≤ (198 : BitVec 8).toNat ∧ (198 : BitVec 8).toNat < 199) ∧
    (188 : BitVec 8).toNat < 189 ∧ (live.dies[(3 : Fin 4)]).bfault = false ∧
    (let s := { live with dies := .replicate 4 { twarn := true, tstep := 1, tshut := true, bfault := true } }
     s.resetHeld = false ∧ dieOn s 0 = true ∧ (s.dies[(0 : Fin 4)]).twarn = true ∧ (s.dies[(0 : Fin 4)]).tstep < stepOf 213 ∧
     (213 : BitVec 8).toNat < 214 ∧ 0 < (s.dies[(0 : Fin 4)]).tstep ∧ (193 : BitVec 8).toNat < 190 + 4 * (s.dies[(0 : Fin 4)]).tstep ∧
     (s.dies[(0 : Fin 4)]).tshut = true ∧ (183 : BitVec 8).toNat < 184 ∧ (s.dies[(0 : Fin 4)]).bfault = true ∧
     (s.dies[(0 : Fin 4)]).bdead = false) := by decide
theorem witness_FrameBoundaries :
    (live.resetHeld = false ∧ live.arb.coreRun = true ∧ coreClocked live = true ∧ live.clk.kfLock = true ∧ live.time.missing = 0) ∧
    (let s := { live with arb := { live.arb with coreRun := false } }
     s.resetHeld = false ∧ s.arb.coreRun = false ∧ s.clk.kfLock = true) ∧
    (let s := { live with clk := { live.clk with kfLock := false, el := .replicate 2 false } }
     s.resetHeld = false ∧ s.clk.kfLock = false ∧ coreClocked s = false) ∧
    1 ≤ ({ live with time := { live.time with missing := 1 } } : State).time.missing ∧
    ((withE3 fun x => { x with run := .waitF }).core.eng[(3 : Fin 25)]).run = .waitF ∧
    ((withE3 fun x => { x with run := .starting }).core.eng[(3 : Fin 25)]).run = .starting ∧
    ((withE3 fun x => { x with run := .halted }).core.eng[(3 : Fin 25)]).run = .halted := by decide
theorem witness_FrameCounts :
    live.resetHeld = false ∧ live.arb.coreRun = true ∧ coreClocked live = true ∧ live.clk.kfLock = true := by decide
/-- `live` with the copy of a frame in flight, good or spoilt, under load n. -/
def withCopy (bad : Bool) (n : Nat) : State :=
  { live with mirror := { live.mirror with fly := some { frame := 0 }, flyBad := bad, load := n } }
theorem witness_MirrorAndTakeover :
    ((withCopy false 6293).resetHeld = false ∧ (withCopy false 6293).mirror.fly.isSome = true ∧
      (withCopy false 6293).mirror.flyBad = false ∧
      (withCopy false 6293).mirror.load ≤ copyCap (withCopy false 6293).core.fab.f) ∧
    live.mirror.fly.isNone = true ∧ live.arb.stbyUp = false ∧
    ((withCopy true 0).mirror.flyBad = true ∨ copyCap (withCopy true 0).core.fab.f < (withCopy true 0).mirror.load) ∧
    (let s := { withCopy false 0 with arb := { live.arb with stbyUp := true } }
     s.arb.stbyUp = true ∧ s.mirror.fly.isSome = true ∧ s.mirror.flyBad = false) ∧
    (let s := { live with core := { live.core with wdog := 255 } }
     s.resetHeld = false ∧ s.arb.coreRun = true ∧ s.core.tab.wdog ≤ s.core.wdog) ∧
    (let s := { live with arb := { live.arb with stbyUp := true } }
     s.resetHeld = false ∧ s.arb.stbyUp = true ∧ s.mirror.fly.isNone = true ∧ controlRuns s = true ∧ stbyStale s = false ∧
     s.mirror.fill.isNone = true ∧ s.arb.take = none ∧
     viewOpen s pa = true ∧ bit (0x3 : Word) 2 = false ∧ bit (0x4 : Word) 0 = false) ∧
    ({ live with arb := { live.arb with take := some 0 } } : State).arb.take = some 0 ∧
    (viewOpen live pa = true ∧ live.pm.dawn.isNone = true ∧ live.pm.entry.isNone = true ∧ live.pm.repeat_ = false ∧
      live.arb.stbyUp = false ∧ live.pm.st = 0 ∧ live.feeds[sideIx (other live.arb.active)].ok = true ∧ Side.b ≠ live.arb.active) ∧
    (let s := { live with pm := { live.pm with sideTry := .replicate 2 true } }
     s.resetHeld = false ∧ s.pm.sideTry[sideIx .b] = true ∧ s.pm.st = 0 ∧ s.arb.coreRun = true) := by decide
theorem witness_RegisterCommits :
    (live.resetHeld = false ∧ viewOpen live pa = true ∧ live.ret.lc = 3) ∧
    (let s := { live with ret := { live.ret with lc := 2 } }
     s.resetHeld = false ∧ viewOpen s pa = true ∧ s.ret.lc ≠ 3 ∧ fld (0x100 : Word) 8 8 ≠ 0) ∧
    (regAt 3 0x04 = some .frame ∧ regWritable .frame = false) ∧ (regAt 3 0xFC).isNone = true ∧
    (regAt 3 0x20 = some .utimeCtrl ∧ regWritable .utimeCtrl = true ∧ writeRight .b 3 .utimeCtrl = false ∧
      writeRight .a 3 .utimeCtrl = true ∧ regAbsent live .utimeCtrl = false ∧ coreHeld 3 0x20 = false) := by decide
theorem witness_RegisterCommits_refused :
    (let s := { live with variant := .tf8840 }
     regAt 6 0x1C = some (.brStatus 6) ∧ regWritable (.brStatus 6) = true ∧ writeRight .a 6 (.brStatus 6) = true ∧
     regAbsent s (.brStatus 6) = true) ∧
    (let s := { live with arb := { live.arb with coreRun := false } }
     regAt 6 0x08 = some (.brStatus 1) ∧ regAbsent s (.brStatus 1) = false ∧ coreHeld 6 0x08 = true ∧ coreUp s = false) ∧
    (let s := { live with ret := { live.ret with lc := 2 } }
     regAt 4 0x04 = some (.twAddr01 0) ∧ regWritable (.twAddr01 0) = true ∧ writeRight .a 4 (.twAddr01 0) = true ∧
     regAbsent s (.twAddr01 0) = false ∧ coreHeld 4 0x04 = false ∧ lkOpen s = false ∧
     (1 ^^^ regShown s pa (.twAddr01 0)) &&& lkMask (.twAddr01 0) ≠ 0) := by decide
/-- `live` with one event waiting for host A, of which n bytes have been read. -/
def withEvent (n : Nat) : State :=
  { live with hosts := { live.hosts with evq := #v[[entryOf { kind := 0, src := 3, pay := 0 } 0 (stampNow live)], [], []]
                                         evPos := #v[n, 0, 0] } }
theorem witness_WindowAccess :
    (live.resetHeld = false ∧ viewOpen live pa = true ∧ mwf {} live.ports.views = true ∧ commandTakes pa live = true ∧
      (getPv live pa).asm.length < 3) ∧
    (let s := { live with hosts := { live.hosts with q := List.replicate 64 { id := 0, host := .a, cnum := 0, words := [], retiring := false } } }
     viewOpen s pa = true ∧ commandTakes pa s = false) ∧
    ((withEvent 22).hosts.evq[(0 : Fin 3)].length = 1 ∧ (withEvent 22).hosts.evPos[(0 : Fin 3)] < 23) ∧
    ((withEvent 23).hosts.evq[(0 : Fin 3)].length = 1 ∧ (withEvent 23).hosts.evPos[(0 : Fin 3)] = 23) ∧
    live.hosts.evq[(0 : Fin 3)] = [] ∧ (getPv live pa).recFifo = [] ∧
    (getPv (modPv live pa fun p => { p with recFifo := [7] }) pa).recFifo = 7 :: [] ∧ captureShown live .a = false ∧
    (let s := { live with conv := { live.conv with permit := 1 }, wake := { live.wake with capDone := true } }
     captureShown s .a = true ∧ (getPv (modPv s pa fun p => { p with cap := 63999 }) pa).cap < 64000) := by decide
/-- The headers of LDSTAT, and of CLAIM at level 2 of resource 1, which is not defined; each of one word. -/
theorem witness_HostCommands :
    (live.resetHeld = false ∧ viewOpen live pa = true ∧ (getPv live pa).asm = [] ∧ (getPv live pa).chk = [] ∧ cqFull live .a = false) ∧
    (nwOk 0x080001E2 = true ∧ hdrNw 0x080001E2 = 1 ∧ hdrOp 0x080001E2 = 0xE2 ∧ admitFails live .a [0x080001E2] = none) ∧
    (nwOk 0x020101F0 = true ∧ hdrNw 0x020101F0 = 1 ∧ hdrOp 0x020101F0 = 0xF0 ∧ admitFails live .a [0x020101F0] = some 1) ∧
    (hdrOp 0x080001E0 = 0xE0 ∧ hdrOp 0x080001E1 = 0xE1 ∧ hdrOp 0x020101F1 = 0xF1 ∧ hdrOp 0x080001F2 = 0xF2 ∧ hdrOp 0x080001F3 = 0xF3) ∧
    (hdrOp 0x080001DF = 0xDF ∧ hdrOp 0x080001E3 = 0xE3 ∧ hdrOp 0x080001F4 = 0xF4) := by decide
theorem witness_AdmissionChecks :
    (getPv (modPv live pa fun v => { v with chk := [[0]] }) pa).chk = [[0]] ∧ mwf {} live.ports.views = true ∧
    (getPv live pa).chk = [] ∧ (getPv live pa).asm = [] ∧ (getPv (modPv live pa fun v => { v with asm := [1] }) pa).asm = 1 :: [] ∧
    hostAdmitted live .c = true ∧ programsAdmitted live = true ∧ formOk 0x080001E2 = true ∧ formOk 0x080001F4 = false ∧
    hostAdmitted { live with ret := { live.ret with lc := 2 } } .c = false ∧
    programsAdmitted { live with ret := { live.ret with lc := 0 } } = false := by decide
theorem witness_Claims :
    (mwf 3 live.hosts.claims = true ∧ claimAt live 7 4 = 3 ∧ (∀ k : Nat, k < 5 → claimAt live 7 k = 3)) ∧
    (let s := claim .b 7 4 live
     claimAt s 7 4 = BitVec.ofNat 2 (hostIx .b).val ∧ HostId.b ≠ .a ∧ claimAt s 7 4 ≠ BitVec.ofNat 2 (hostIx .a).val ∧
     claimAt s 7 4 ≠ 3 ∧ ∀ k : Nat, k < 5 → 4 < k → claimAt s 7 k = 3) := by
  refine ⟨⟨by decide, by decide, fun k _ => rfl⟩, by decide, by decide, by decide, by decide, fun k h g => by omega⟩
theorem witness_ResidentProgram :
    (hdrOp (0x80001E1 : BitVec 32) = 0xE1 ∧ live.core.autoOn = false ∧ (pStart 24 live).isNone = true) ∧
    (let s := { live with core := { live.core with prog := .resident, load := { step := 4 } } }
     s.core.autoOn = false ∧ (pStart 24 s).isSome = true) ∧
    (let s := { live with core := { live.core with prog := .resident, load := { step := 1 } } }
     s.resetHeld = false ∧ s.core.load.step = 1) ∧
    (let s := { live with core := { live.core with prog := .resident, load := { step := 7, engine := 24 } } }
     s.resetHeld = false ∧ s.core.load.step = 7 ∧ s.core.prog = .resident ∧ s.core.load.engine.toNat < 25 ∧ s.arb.stbyUp = false ∧
     engLoadCheck (setWords s s.core.load.set.toNat) s.core.load.engine.toNat = 0) ∧
    live.core.play.isNone = true ∧ live.core.load.step ≠ 1 := by decide
theorem witness_ResidentProgram_message :
    (let p : Play := { pos := 0, msg := [0, 0, 0, 0, 1] }
     p.pos < msgSamples p.msg ∧ msgSamples { p with pos := 1 }.msg ≤ ({ p with pos := 1 } : Play).pos ∧ live.sadc.evac = false ∧ msgDefined live 0 = false ∧
     p.stopAfter = false ∧ ({ p with stopAfter := true } : Play).stopAfter = true ∧
     msgDefined { live with ret := { live.ret with mram := [(0x200000, 1)] } } 0 = true) ∧
    (let s := { live with core := { live.core with prog := .resident, play := some { pos := 0, msg := [] } }
                          sadc := { live.sadc with evac := true }
                          ret := { live.ret with mram := [(0x200000, 1)] } }
     s.resetHeld = false ∧ s.core.play.isSome = true ∧ msgSamples [] ≤ 0 ∧ s.sadc.evac = true ∧ residentRuns s = true ∧
     msgDefined s 0 = true) := by decide
theorem witness_FabricCommands :
    (live.resetHeld = false ∧ controlRuns live = true) ∧
    (let w : BitVec 24 := 0x100010
     fabOp w = 1 ∧ fld w 9 5 = 0 ∧ 16 ≤ fld w 0 9 ∧ busProvided live.core.fab (fld w 14 6) = true ∧ slotUsable live (fld w 0 9) = true ∧
     (busTake 0 (fld w 0 9) 1 (getBus live.core.fab (fld w 14 6)).entries).isSome = true ∧
     (busTake 0 (fld w 0 9) 0 (getBus live.core.fab (fld w 14 6)).entries).isNone = true) ∧
    (fabOp (0x10000F : BitVec 24) = 1 ∧ fld (0x10000F : BitVec 24) 0 9 < 16) ∧
    (let w : BitVec 24 := 0x200010
     fabOp w = 2 ∧ fld w 10 2 = 0 ∧ sinkUsable live (fld w 12 8) = true ∧ sinkTakes (fld w 12 8) (fld w 0 10) = true ∧
     slotUsable live (fld w 0 10) = true ∧ (sinkTake 0 (fld w 0 10) 1 (getSink live.core.fab (fld w 12 8)).entries).isSome = true) ∧
    (fabOp (0x200C10 : BitVec 24) = 2 ∧ fld (0x200C10 : BitVec 24) 10 2 ≠ 0) ∧
    (fabOp (0x380000 : BitVec 24) = 3 ∧ fld (0x380000 : BitVec 24) 6 5 = 0 ∧ bit (0x380000 : BitVec 24) 19 = true ∧
      sinkUsable live (fld (0x380000 : BitVec 24) 11 8) = true) ∧
    (fabOp (0x300000 : BitVec 24) = 3 ∧ bit (0x300000 : BitVec 24) 19 = false ∧
      busProvided live.core.fab (fld (0x300000 : BitVec 24) 11 8) = true) ∧
    (fabOp (0x320000 : BitVec 24) = 3 ∧ fld (0x320000 : BitVec 24) 6 5 = 0 ∧ bit (0x320000 : BitVec 24) 19 = false ∧
      busProvided live.core.fab (fld (0x320000 : BitVec 24) 11 8) = false) ∧
    (fabOp (0x4FC000 : BitVec 24) = 4 ∧ fld (0x4FC000 : BitVec 24) 0 14 = 0 ∧
      busProvided live.core.fab (fld (0x4FC000 : BitVec 24) 14 6) = true) := by decide
theorem witness_FabricCommands_more :
    (fabOp (0x570001 : BitVec 24) = 5 ∧ fld (0x570001 : BitVec 24) 16 4 = 7 ∧ fld (0x570001 : BitVec 24) 1 15 = 0 ∧
      inputNamed live.core.fab 7 = false ∧ pdmFixed live 7 = false ∧ live.core.fab.r96 = false ∧ live.clk.degraded = false) ∧
    (fabOp (0x80003F : BitVec 24) = 8 ∧ fld (0x80003F : BitVec 24) 6 14 = 0) ∧
    (fabOp (0x900060 : BitVec 24) = 9 ∧ fld (0x900060 : BitVec 24) 7 13 = 0 ∧ fld (0x900060 : BitVec 24) 0 7 ≤ 96) ∧
    (fabOp (0x900061 : BitVec 24) = 9 ∧ 96 < fld (0x900061 : BitVec 24) 0 7) ∧
    (fabOp (0x68A000 : BitVec 24) = 6 ∧ fld (0x68A000 : BitVec 24) 18 2 = 2 ∧ tdmOk 0x68A000 = true) ∧
    (fabOp (0x600001 : BitVec 24) = 6 ∧ tdmOk 0x600001 = false) ∧
    (let w : BitVec 24 := 0x780000
     fabOp w = 7 ∧ fld w 0 7 = 0 ∧ live.core.fab.direct.live = false ∧ fld w 7 8 < 6 ∧ sinkUsable live (fld w 7 8) = true ∧
     pdmFixed live (fld w 15 4) = false ∧ bit w 19 = true) ∧
    (let w : BitVec 24 := 0x700780
     fabOp w = 7 ∧ fld w 0 7 = 0 ∧ 8 ≤ fld w 7 8 ∧ fld w 7 8 < 16 ∧ sinkUsable live (fld w 7 8) = true ∧ bit w 19 = false) := by decide
theorem witness_FabricCommands_lists :
    (cmdBad false 0x570001 live = none ∧ cmdBad false 0x570000 live = none ∧ cmdKey 0x570001 = cmdKey 0x570000 ∧
      fabOp (0x570001 : BitVec 24) ≠ 3) ∧ (cmdBad false 0x900030 live = some 13 ∧ cmdBad true 0x900030 live = none) ∧
    ({ live with arb := { live.arb with coreRun := false } } : State).arb.coreRun = false := by decide
theorem witness_FabricCommands_entries :
    (let es : List Entry := [newEntry 16 1 0]
     es.find? (fun e => e.slot = 17) = none ∧ liveCount es < 32 ∧ es.length < 40 ∧ es.any (fun e => e.slot = 16) = true ∧
     es.any (fun e => e.slot = 17) = false ∧ es.length < 4) ∧
    (let es : List Entry := (List.range 32).map fun i => newEntry (16 + i) 1 0
     es.find? (fun e => e.slot = 48) = none ∧ 32 ≤ liveCount es ∧ 4 ≤ es.length) ∧
    ((newEntry 16 1 0).g1 ≠ 0) := by decide
/-- `live` with bridge 2 in RUN, its line at l, and the earth test running. -/
def withLine (l : Line) : State :=
  { withBr (fun x => { x with st := 2 }) with
    lmu := { live.lmu with line := vset live.lmu.line 2 l, earth := { live.lmu.earth with mode := 1 } } }
theorem witness_TdmPorts :
    (let s := modFab live fun f => { f with tdm := vmod f.tdm 1 fun t => { t with en := true, st := 2 } }
     s.resetHeld = false ∧ s.arb.coreRun = true ∧ (s.core.fab.tdm[(1 : Fin 4)]).en = true ∧ (s.core.fab.tdm[(1 : Fin 4)]).role = false ∧
     (s.core.fab.tdm[(1 : Fin 4)]).st = 2 ∧
     (9999 :: (s.core.fab.tdm[(1 : Fin 4)]).sync10.filter fun u => 9999 - u < 10000).length ≤ 8) ∧
    (let s := modFab live fun f => { f with tdm := vmod f.tdm 1 fun t => { t with en := true, st := 2, sync10 := List.replicate 8 0 } }
     8 < (9999 :: (s.core.fab.tdm[(1 : Fin 4)]).sync10.filter fun u => 9999 - u < 10000).length) ∧
    (let s := modFab live fun f => { f with tdm := vmod f.tdm 1 fun t => { t with en := true, st := 3 } }
     s.resetHeld = false ∧ (s.core.fab.tdm[(1 : Fin 4)]).en = true ∧ (s.core.fab.tdm[(1 : Fin 4)]).st = 3) := by decide
theorem witness_TdmPorts_halted :
    (let s := { modFab live fun f => { f with tdm := vmod f.tdm 1 fun t => { t with en := true, st := 1, role := true } } with
                pm := { live.pm with tdmHalt := true } }
     s.resetHeld = false ∧ s.pm.tdmHalt = true ∧ (s.core.fab.tdm[(1 : Fin 4)]).role = true ∧ (s.core.fab.tdm[(1 : Fin 4)]).st = 1) ∧
    live.pm.tdmHalt = false := by decide
theorem witness_ResetAndScan :
    State.reset.resetHeld = true ∧ live.resetHeld = false ∧ live.core.auto.isNone = true ∧
    (let s := { live with core := { live.core with prog := .resident, auto := some 1 } }
     s.resetHeld = false ∧ s.core.auto = some 1 ∧ residentRuns s = true ∧ s.core.autoOn = false) ∧
    (let s := { live with core := { live.core with auto := some 1 } }
     s.core.auto = some 1 ∧ residentRuns s = false) ∧ live.ret.lc = 3 ∧
    ({ live with ret := { live.ret with lc := 2 } } : State).ret.lc = 2 := by decide
theorem witness_LineCommands :
    (live.resetHeld = false ∧ controlRuns live = true ∧ sslot live ≠ 0) ∧
    (supOp (0x900000 : BitVec 24) = 1 ∧ supBad live 0 0x900000 = false ∧ bit (0x900000 : BitVec 24) 23 = true ∧
      (0x900000 : BitVec 24) ≠ supNow live 0) ∧
    (supBad live 0 0x100000 = false ∧ bit (0x100000 : BitVec 24) 23 = false) ∧
    (supBad live 0 0x100001 = true ∧ bridgeFitted live 0 = true) ∧
    (let s := { live with variant := .tf8840 }
     supBad s 7 0x900000 = true ∧ bridgeFitted s 7 = false) ∧
    (supOp (0xC00000 : BitVec 24) = 4 ∧ supOp (0xD00000 : BitVec 24) = 5 ∧ supOp (0xB00000 : BitVec 24) = 3 ∧
      supOp (0xA10000 : BitVec 24) = 2 ∧ supOp (0x800000 : BitVec 24) = 0) ∧
    ({ live with ret := { live.ret with lc := 2 } } : State).ret.lc = 2 ∧
    (earthBad 0x900000 = false ∧ (0x900000 : BitVec 24) ≠ live.core.fab.sup[(8 : Fin 9)]) ∧ earthBad 0 = false ∧ earthBad 1 = true := by
  decide
theorem witness_LineResults :
    ((withLine { lmode := 1 }).resetHeld = false ∧ (withLine { lmode := 1 }).arb.coreRun = true ∧
      ((withLine { lmode := 1 }).lmu.line[(2 : Fin 8)]).lmode = 1 ∧ contNow (withLine { lmode := 1 }) 2 = false ∧
      lineRuns (withLine { lmode := 1 }) 2 = true ∧ lineHit (withLine { lmode := 1 }) 2 = false ∧ zpref (withLine { lmode := 1 }) 2 = none) ∧
    (let s := { withLine { lmode := 1, nextCont := true } with
                core := (withPower 0x40000000).core
                bridges := vmap live.bridges fun _ x => { x with st := 2 }
                lmu := { (withLine { lmode := 1, nextCont := true }).lmu with fp := .replicate 8 (List.replicate 128 0x2710) } }
     contNow s 2 = true ∧ lineRuns s 2 = true ∧ lineHit s 2 = false ∧ zpref s 2 = some 0x2710) ∧
    (let s := withLine { lmode := 2, winLeft := 1, spoilt := true }
     (s.lmu.line[(2 : Fin 8)]).lmode = 2 ∧ (s.lmu.line[(2 : Fin 8)]).winLeft ≤ 1 ∧
     windowValid s 2 { a := { v := [], i := [] }, b := { v := [], i := [] } } = false) ∧
    (let s := withLine { lmode := 2, winLeft := 2, spoilt := true }
     1 < (s.lmu.line[(2 : Fin 8)]).winLeft ∧ windowValid s 2 { a := { v := [], i := [] }, b := { v := [], i := [] } } = false) ∧
    (live.lmu.line[(2 : Fin 8)]).lmode = 0 ∧ (live.lmu.line[(2 : Fin 8)]).sweepWait = false ∧
    (controlRuns (withLine { sweepWait := true }) = true ∧ ((withLine { sweepWait := true }).lmu.line[(2 : Fin 8)]).sweepWait = true ∧
      lineRuns (withLine { sweepWait := true }) 2 = true) ∧
    (let s := withLine { lmode := 3, sweepDir := 1, integ := true, intAge := 1000000000 }
     (s.lmu.line[(2 : Fin 8)]).sweepDir ≠ 0 ∧ (s.lmu.line[(2 : Fin 8)]).hand = 0 ∧ (s.lmu.line[(2 : Fin 8)]).integ = true ∧
     16384 * sweepQ s 2 ≤ (s.lmu.line[(2 : Fin 8)]).intAge ∧ bothWays s 2 = false) ∧
    (let s := { withPower 0x40000000 with lmu := { live.lmu with line := vset live.lmu.line 2 { lmode := 4, sweepDir := 1 } } }
     s.arb.coreRun = true ∧ isLoop s 2 = true ∧ bothWays s 2 = true) ∧
    (let s := { live with core := { live.core with tab := { live.core.tab with sup := List.replicate 18 0x4000000 } } }
     s.resetHeld = false ∧ controlRuns s = true ∧ s.pm.st.toNat < 2 ∧ supervised s 2 = true ∧ (s.lmu.line[(2 : Fin 8)]).gap = false) ∧
    (withLine {}).lmu.earth.mode = 1 ∧
    2 ≤ ({ live.lmu.earth with passes := 1 } : Earth).passes + 1 := by decide
/-- R216: whether a window's voltage reaches half its amplitude is a measurement: some voltages do, some do not. -/
theorem witness_LineResults_valid :
    halfAmplitude (pilotMv 0 false) (100000000, 0) = true ∧ halfAmplitude (pilotMv 0 false) (0, 0) = false := by decide
/-- The earth test fails with a leakage current of 2.0 mA at a limit of 10 kOhm, and passes with one code; two halves of 20000 codes
are not opposite. -/
theorem witness_LineResults_earth :
    (meanCode [8192, 8192] - meanCode [-8192] = 16384 ∧ meanCode [1] - meanCode [0] = 1 ∧ meanCode [20000] + meanCode [20000] = 40000) ∧
    ((40960 : Rat) / 16384 - 100 < 10 ∧ ¬ ((40960 : Rat) / 1 - 100 < 10) ∧ (16384 : Rat) < 40000 ∧ ¬ ((16384 : Rat) < 1)) ∧
    (live.lmu.line[(2 : Fin 8)]).lfault ≠ true ∧ (live.lmu.line[(2 : Fin 8)]).lfault = false := by
  have a : (8192 : BitVec 16).toInt = 8192 ∧ (-8192 : BitVec 16).toInt = -8192 ∧ (1 : BitVec 16).toInt = 1 ∧
      (0 : BitVec 16).toInt = 0 ∧ (20000 : BitVec 16).toInt = 20000 := by decide
  refine ⟨⟨?_, ?_, ?_⟩, ⟨by norm_num, by norm_num, by norm_num, by norm_num⟩, by decide, by decide⟩ <;>
    simp only [meanCode, List.map, List.sum_cons, List.sum_nil, List.length, a.1, a.2.1, a.2.2.1, a.2.2.2.1, a.2.2.2.2] <;> norm_num
theorem witness_ScansAndComparators :
    (let s := { live with sadc := { live.sadc with s0 := { live.sadc.s0 with due := true }, s1 := { live.sadc.s1 with due := true } } }
     s.resetHeld = false ∧ s.sadc.s0.due = true ∧ s.sadc.s1.due = true) ∧
    (live.sadc.s0.due = false ∧ live.sadc.s1.due = false ∧ live.pm.st ≠ 2) ∧
    (let s := { live with pm := { live.pm with st := 2, on := 0 } }
     s.resetHeld = false ∧ s.pm.st = 2 ∧ domOn s 11 = false ∧ s.clk.kfLock = true) := by decide
/-- `live` whose comparator 0 has the word w, with 0 in channel 0 and n values in a row below. -/
def withCmp (w : Word) (n : Nat) : State :=
  { live with sadc := { live.sadc with tab := [w], cmp := vset live.sadc.cmp 0 { lowCnt := n } } }
theorem witness_Comparators :
    (cmpPers (tword (withCmp 0 0).sadc.tab 0) = 0) ∧
    (let s := withCmp 0x70FFF001 6
     let w := tword s.sadc.tab 0
     cmpPers w = 7 ∧ cmpApplies s 0 = true ∧ cmpSide s.sadc 0 = .inBand ∧ cmpValue s.sadc 0 < 16 * cmpField 0 w 0 ∧
     cmpPers w ≤ (s.sadc.cmp[(0 : Fin 32)]).lowCnt + 1) ∧
    (let s := withCmp 0x70FFF001 5
     (s.sadc.cmp[(0 : Fin 32)]).lowCnt + 1 < cmpPers (tword s.sadc.tab 0)) ∧
    (let s := withCmp 0x70FFF000 0
     let w := tword s.sadc.tab 0
     cmpPers w ≠ 0 ∧ 16 * cmpField 0 w 0 ≤ cmpValue s.sadc 0 ∧ cmpValue s.sadc 0 ≤ 16 * cmpField 0 w 12) := by decide
theorem witness_ConverterRows :
    (let s := { live with core := { live.core with tab := { live.core.tab with conv := List.replicate 8 0x100 ++ [0, 0x6000] } } }
     s.resetHeld = false ∧ controlRuns s = true ∧ cslot s ≠ 0 ∧ gainBad s 7 0x000079 = true ∧ gainBad s 7 0x800078 = false ∧
     bit (0x800078 : BitVec 24) 23 = true ∧ gainBad s 7 0 = false ∧ domOn s 9 = true ∧ inputOn s 7 = true) ∧
    (live.conv.gpend[(0 : Fin 8)]).isNone = true ∧
    (({ live.conv with gpend := .replicate 8 (some 1) } : Conv).gpend[(0 : Fin 8)]).isSome = true ∧
    (live.conv.jdet = false ∧ domOn live 10 = true) ∧
    domOn { live with pm := { live.pm with on := 0 } } 10 = false ∧ ({ live.conv with jdet := true } : Conv).jdet = true ∧
    ({ live.conv with jclass := 1 } : Conv).jclass = 1 ∧ (live.conv.jclass ≠ 5 ∧ (5 : BitVec 3) ≠ 2 ∧ live.conv.jclass ≠ 2) ∧
    live.conv.privMute = true ∧ ({ live.conv with privMute := false, clkWait := true } : Conv).clkWait = true ∧
    (let c : Conv := { live.conv with micpwr := true, micOff := true, vo := .up2 }
     c.micpwr = true ∧ c.micOff = true ∧ c.vo = .up2) ∧ ({ live.conv with vo := .down1 } : Conv).vo = .down1 := by
  decide
theorem witness_WakeRows :
    (live.resetHeld = false ∧ live.wake.loaded = false ∧ live.wake.cand = false ∧ live.wake.capBusy = false ∧
      mwf 0 live.wake.marks = true ∧ mwf 0 live.wake.we.x = true) ∧
    (let s := { live with wake := { live.wake with loaded := true, cand := true, candAge := 1499, capBusy := true }
                          conv := { live.conv with privMute := false } }
     s.wake.loaded = true ∧ s.wake.cand = true ∧ s.wake.candAge < 1500 ∧ s.wake.capBusy = true ∧ s.conv.privMute = false) ∧
    (let s := { live with conv := { live.conv with permit := 1, privMute := false } }
     s.resetHeld = false ∧ viewOpen s pa = true ∧ s.ret.lc = 3 ∧ s.conv.permit ≠ 0 ∧ s.wake.capBusy = false ∧ s.conv.privMute = false) ∧
    (live.ret.lc ≠ 3 ∨ live.conv.permit = 0) ∧
    (let s := { live with conv := { live.conv with permit := 1 } }
     s.conv.permit ≠ 0 ∧ s.conv.privMute = true) ∧
    (bit (0x840000 : Sample) 23 = true ∧ 4 ≤ fld (0x840000 : Sample) 16 4) ∧
    (bit (0x830000 : Sample) 23 = true ∧ fld (0x830000 : Sample) 16 4 < 4 ∧ bit live.wake.word (2 + fld (0x830000 : Sample) 16 4) = true) := by
  decide
/-- `live` with an entry e in progress. -/
def withEntry (e : Entry2) : State := { live with pm := { live.pm with entry := some e } }
theorem witness_EntryHandshake :
    (live.resetHeld = false ∧ live.pm.entry.isNone = true ∧ live.pm.st = 0 ∧ live.pm.tdmHalt = false ∧ live.pm.repeat_ = false ∧
      live.pm.dawn.isNone = true) ∧
    (let e : Entry2 := { target := 2, block := 1 }
     (withEntry e).pm.entry = some e ∧ blockReply (withEntry e) 1 2 = .agree ∧
     ((entryBlocks (withEntry e) 2).filter (e.block < ·)).head? = some 2 ∧ e.waiting = false ∧ e.window = false ∧ e.stopped = []) ∧
    ((entryBlocks live 2).filter (13 < ·) = []) ∧
    (blockReply (withBr fun x => { x with st := 2 }) 5 2 = .refuse) ∧
    (blockReply { live with conv := { live.conv with vo := .on } } 8 2 = .delay ∧ (8 : Nat) ≠ 0 ∧
      ({ delays := 7 } : Entry2).delays < 8 ∧ 8 ≤ ({ delays := 8 } : Entry2).delays) ∧
    ({ block := 2, waiting := true } : Entry2).waiting = true ∧
    (let s : State := { withEntry { block := 12, stopped := [10, 5, 4] } with pm := { live.pm with on := 0x07FF, entry := some { block := 12, stopped := [10, 5, 4] } } }
     let d : Dawn := { kind := .back, step := stepOfBlock 10, blocks := [10] }
     stepOfBlock 10 = 7 ∧ (stepDoms s d d.step).all (domOn s) = false) ∧
    (let s := withEntry { target := 2, window := true }
     s.pm.st ≠ 2 ∧ wakeCode s = none) := by decide
theorem witness_EntryHandshake_wake :
    (let s := { withEntry { target := 2, window := true } with sadc := { live.sadc with evac := true } }
     s.pm.st ≠ 2 ∧ wakeCode s = some 1) := by decide
/-- `live` with a DAWN d in progress. -/
def withDawn (d : Dawn) : State := { live with pm := { live.pm with dawn := some d } }
theorem witness_DawnSequence :
    (let s := { live with pm := { live.pm with st := 3 } }
     s.resetHeld = false ∧ s.pm.st = 3 ∧ s.pm.dawn.isNone = true ∧ s.pm.repeat_ = false ∧ s.clk.kfLock = true ∧ s.ret.wiping = false ∧
     (s.feeds[sideIx .a].ok || s.feeds[sideIx .b].ok) = true) ∧
    (let s := { live with pm := { live.pm with st := 2 }, sadc := { live.sadc with evac := true } }
     s.resetHeld = false ∧ s.pm.st = 2 ∧ wakeCode s = some 1 ∧ s.pm.dawn.isNone = true ∧ s.pm.repeat_ = false ∧ s.pm.entry.isNone = true) ∧
    (∀ n : Fin 8, let d : Dawn := { step := n.val + 1 }
      (withDawn d).pm.dawn = some d ∧ stepClocked (withDawn d) d = true ∧ (withDawn d).feeds[sideIx d.side].ok = true ∧ d.kind ≠ .back ∧
      d.kind ≠ .side ∧ d.off = false ∧ d.retried = false ∧ d.kfRef = false ∧ d.other = none ∧ (withDawn d).pm.back.isNone = true) ∧
    (let d : Dawn := { step := 6, kind := .side, side := .b }
     (withDawn d).pm.dawn = some d ∧ stepClocked (withDawn d) d = true ∧ d.kind = .side ∧ (withDawn d).feeds[sideIx d.side].ok = true) ∧
    (let s := { withDawn { step := 4 } with clk := { live.clk with xo := .replicate 2 false } }
     stepClocked s { step := 4 } = false) ∧
    (let s := { withDawn { step := 3, retried := true } with feeds := #v[{ ok := true }, {}] }
     s.feeds[sideIx (other .a)].ok = false ∧ (withDawn { step := 3 }).feeds[sideIx (other .a)].ok = true) ∧
    (({ step := 3, retried := true, other := some 3 } : Dawn).other = some 3 ∧ ({ step := 3, retried := true, other := some 2 } : Dawn).other = some 2) ∧
    (({ step := 9 } : Dawn).wipe = false ∧ ({ step := 6, off := true } : Dawn).off = true ∧ ({ step := 7, off := true } : Dawn).off = true) ∧
    (stepDoms { live with pm := { live.pm with on := 0 } } {} 7 = [9, 10, 11] ∧ stepDoms live {} 8 = []) ∧
    (let s := { live with pm := { live.pm with repeat_ := true } }
     s.pm.repeat_ = true ∧ s.pm.dawn.isNone = true ∧ s.pm.st.toNat < 2) ∧ live.pm.repeat_ = false := by decide
/-- `live` with a staged set x. -/
def withStage (x : StagedSet) : State := { live with pm := { live.pm with set := some x } }
theorem witness_StagedSets :
    (let x : StagedSet := { changes := [(3, 1)], opened := true, concerned := 0x010, left := 1 }
     (withStage x).resetHeld = false ∧ (withStage x).pm.set = some x ∧ x.opened = true ∧ bit x.concerned 4 = true ∧
     unitMay (withStage x) x 4 = true ∧ x.concerned &&& ~~~ x.ready ≠ 0 ∧ x.left ≤ 1 ∧ bit x.concerned 11 = false) ∧
    (let x : StagedSet := { changes := [(3, 1)], opened := true, concerned := 0x010, ready := 0x010, left := 2 }
     x.opened = true ∧ x.concerned &&& ~~~ x.ready = 0 ∧ 1 < x.left) ∧
    ({ changes := [(3, 1)] } : StagedSet).opened = false := by decide
/-- `live` with host A at address 0x10 of port H0, whose transfer is in phase f. -/
def withTw (f : TwPhase) : State :=
  let c : TwCfg := { addr01 := 0x90, ctrl := 0x800000 }
  { live with ports := { live.ports with tw := vset live.ports.tw 0 { cfg := c, use := c, phase := f, view := some .a } } }
theorem witness_TwoWireAndFastPort :
    ((withTw .idle).resetHeld = false ∧ twListens (withTw .idle) .h0 = true ∧ ((withTw .idle).ports.tw[(0 : Fin 3)]).phase = .idle) ∧
    ((withTw (.held true)).ports.tw[(0 : Fin 3)]).phase = .held true ∧
    ((withTw .addr).ports.tw[(0 : Fin 3)]).phase = .addr ∧ nightWindow (withTw .addr) = false ∧
    nightWindow { withTw .addr with pm := { live.pm with entry := some { target := 2, window := true } } } = true ∧
    (addressView (withTw .addr) .h0 0x11).isNone = true ∧ addressView (withTw .addr) .h0 0x10 = some .a ∧
    reqOn (withTw .idle) .h0 = true ∧ twOpens (withTw .idle) 0 .a = true ∧
    ((withTw .pointer).ports.tw[(0 : Fin 3)]).phase = .pointer ∧ ((withTw .pointer).ports.tw[(0 : Fin 3)]).view = some .a ∧
    live.pm.st ≠ 2 ∧ (live.hosts.evq[(0 : Fin 3)]) = [] ∧ (withEvent 0).hosts.evq[(0 : Fin 3)] ≠ [] ∧
    (withEvent 0).hosts.evTouched[(0 : Fin 3)] = false ∧
    (let s := { withTw .idle with pm := { live.pm with st := 2 } }
     s.resetHeld = false ∧ portLogicUp s = false ∧ (s.ports.tw[(0 : Fin 3)]).phase = .idle) ∧
    (portLogicUp live = true ∧ fpView live = some .a ∧ fpView (fpBegins false live) = some .a ∧ live.ports.fp.sel = false ∧
      (fpBegins true live).ports.fp.sel = true ∧ (0x33 : Byte) ≠ 0x32 ∧ (0x33 : Byte) ≠ 0x6B ∧ (0x33 : Byte) ≠ 0x05) := by decide
theorem witness_TwoWireAndFastPort_night :
    (let s := { withTw .idle with pm := { live.pm with st := 2 } }
     s.resetHeld = false ∧ portLogicUp s = false ∧ s.pm.st = 2 ∧ s.pm.dawn.isNone = true ∧ s.pm.repeat_ = false ∧ s.pm.entry.isNone = true ∧
     addressView s .h0 (fld (0x20 : Byte) 1 7) = some .a) := by decide
theorem witness_PortPController_full : 256 ≤ ({ live.ports.pc with tx := List.replicate 256 0 } : PcPort).tx.length := by
  show 256 ≤ (List.replicate 256 (0 : Byte)).length
  rw [List.length_replicate]
theorem witness_PortPController :
    (live.resetHeld = false ∧ viewOpen live pa = true ∧ coreUp live = true ∧ live.ports.pc.busy = false ∧
      live.ports.pc.tx.length < 256 ∧ (0xFF000000 : Word) &&& 0xFFFFFF = 0) ∧
    (let c : PcPort := { live.ports.pc with busy := true, rx := [1], losses := 15 }
     c.busy = true ∧ c.rx = 1 :: [] ∧ c.clear = false ∧ c.retry = false ∧ 15 ≤ c.losses) ∧ live.ports.pc.losses < 15 := by decide
/-- `live` with a site key, and an LC_TAG for the change to COMMISSIONING with nonce 1. -/
def tagged : State :=
  let t : Vector Word 8 :=
    #v[2551181209, 2130521951, 2933116245, 523638338, 283345657, 1324212201, 2465840359, 1728530574]
  { live with ret := { live.ret with key := some 0, nonce := 1, tag := t } }
theorem witness_LifeCycle :
    (live.resetHeld = false ∧ viewOpen live pa = true ∧ lcBusy live = false ∧ lcListed 3 0 = false) ∧
    lcBusy { live with ret := { live.ret with wiping := true } } = true ∧
    (lcBusy tagged = false ∧ lcListed tagged.ret.lc.toNat 4 = true ∧ viewOpen tagged pa = true ∧
      serialGt 32 tagged.ret.nonce.toNat tagged.ret.nonceLast.toNat = true ∧ tagged.ret.key ≠ none) ∧
    (serialGt 32 tagged.ret.nonceLast.toNat tagged.ret.nonceLast.toNat = false ∧ lcTagOk live 0x80000004 = false ∧
      lcListed 1 2 = true ∧ 1 ≤ 1) ∧
    (let s := { live with ret := { live.ret with lc := 0 } }
     lcBusy s = false ∧ viewOpen s pa = true ∧ s.ret.lc.toNat = 0 ∧ lcListed 0 1 = true) ∧
    (let s := { live with ret := { live.ret with lc := 1 } }
     lcBusy s = false ∧ s.ret.key = none ∧ s.ret.lc.toNat = 1) ∧ live.ret.key = none ∧
    (let s := { live with ret := { live.ret with wiping := true, pendWipe := some 4 } }
     s.resetHeld = false ∧ s.ret.wiping = true ∧ s.ret.pendWipe = some 4 ∧ s.ret.lcNext = none) ∧ live.ret.wiping = false := by decide
theorem witness_LifeCycle_tag : lcTagOk tagged 0x80000004 = true := by decide +kernel
theorem witness_ImageStore :
    (live.resetHeld = false ∧ viewOpen live pa = true ∧ imgBad live .a 6 0 = none ∧ imgBad live .c 5 0 = some 5 ∧
      imgBusy live = false ∧ live.ret.wiping = false ∧ saveBusy live = false ∧ storeUp live = true ∧ live.ret.img.busy = false ∧
      live.ret.img.out = []) ∧
    (let s := { live with ret := { live.ret with lc := 1 } }
     s.ret.lc = 1 ∧ imgBusy s = false ∧ s.ret.wiping = false ∧ saveBusy s = false ∧ storeUp s = true) ∧
    (let s := { live with ret := { live.ret with lc := 0 } }
     s.ret.lc = 0 ∧ imgBusy s = false) ∧
    (let s := { live with ret := { live.ret with img := { live.ret.img with busy := true, full := true, op := 1, num := 1, out := [5] } } }
     s.ret.img.busy = true ∧ s.ret.img.full = true ∧ s.ret.img.op = 1 ∧ s.ret.img.num.toNat = 1 ∧ setWriteCheck s 1 ≠ 0 ∧
     s.ret.img.out = 5 :: [] ∧ viewOpen s pa = true ∧ pa.host ≠ .b) ∧
    (let s := { live with ret := { live.ret with save := { live.ret.save with run := true } } }
     s.ret.save.run = true ∧ mwf 0 s.ret.mram = true) ∧ live.ret.save.run = false := by decide
theorem witness_ImageStore_overlap : msgOverlap live (256 * 4) (256 * 4 + 1) = false := by decide +kernel
theorem witness_ImageStore_operations :
    (bankBusy live 0 = true ∧ bankBusy live 1 = false ∧ imgBusy live = false) ∧
    imgBusy { live with ret := { live.ret with img := { live.ret.img with busy := true } } } = true := by decide
theorem witness_EventQueues :
    (withEvent 0).hosts.evq[(0 : Fin 3)].length < 32 ∧
    (let s := { live with hosts := { live.hosts with evq := #v[List.replicate 32 (entryOf { kind := 0, src := 3, pay := 0 } 0 (stampNow live)), [], []] } }
     32 ≤ s.hosts.evq[(0 : Fin 3)].length) ∧ (1 : Fin 3) ≠ 0 ∧ queueExists live .c = true ∧ masked live .a 0 = true ∧
    queueExists { live with ret := { live.ret with lc := 2 } } .c = false ∧ live.resetHeld = false := by decide
theorem witness_RateLimits :
    ((limOf 18 3 live.hosts.lims).isNone = true ∧ live.resetHeld = false ∧ (18 : Nat) ≠ 19) ∧
    ((limOf 18 3 (raiseLimited 18 3 0 none live).hosts.lims).any fun l => l.run) = true := by decide
theorem witness_IgnoredItems :
    live.hosts.ign[(0 : Fin 4)].ev = false ∧
    ({ live with hosts := { live.hosts with ign := .replicate 4 { ev := true } } } : State).hosts.ign[(3 : Fin 4)].ev = true := by decide
theorem witness_FaultOutputs :
    live.resetHeld = false ∧ live.pm.kaHeld = false ∧ State.reset.pm.kaHeld = true ∧ (31 : Nat) < 32 := by decide
theorem witness_EveryCommandRuns : (Instr.looka 0x900030).rowOk = true ∧ (Instr.looka 0x800030).rowOk = false := by decide
theorem witness_ConvergentRounding : 0 < 24 ∧ 2 * |(0x800000 : Int) - Machine.rnd 0x800000 24 * 2 ^ 24| = 2 ^ 24 := by decide

end Sys2Proof.Tests
end

section
/-!
PROOFS. O12: convergent rounding (R63) takes one of the two multiples that enclose its operand, the nearer one, and of two
equally near the even one.
-/

namespace Sys2Proof.Machine

theorem rnd_zero (x : Int) : rnd x 0 = x := if_pos rfl

/-- R63: what rounding can give: the quotient where the remainder lies below half, the next one where it lies above, and on
half the even of the two. -/
theorem rnd_succ_cases (x : Int) (n : Nat) :
    let q := x / 2 ^ (n + 1)
    let r := x % 2 ^ (n + 1)
    (rnd x (n + 1) = q ∧ (r < 2 ^ n ∨ r = 2 ^ n ∧ q % 2 = 0)) ∨
      (rnd x (n + 1) = q + 1 ∧ (2 ^ n < r ∨ r = 2 ^ n ∧ q % 2 = 1)) := by
  intro q r
  have hrnd : rnd x (n + 1) = if 2 ^ n < r then q + 1 else if r = 2 ^ n ∧ q % 2 = 1 then q + 1 else q :=
    if_neg n.succ_ne_zero
  rw [hrnd]
  split
  · exact .inr ⟨rfl, .inl ‹_›⟩
  · split
    · exact .inr ⟨rfl, .inr ‹_›⟩
    · exact .inl ⟨rfl, by omega⟩

/-- R63: the distance from the rounded multiple is at most half a step, and half a step only at an even multiple. -/
theorem rnd_succ_nearest (x : Int) (n : Nat) :
    2 * |x - rnd x (n + 1) * 2 ^ (n + 1)| ≤ 2 ^ (n + 1) ∧
      (2 * |x - rnd x (n + 1) * 2 ^ (n + 1)| = 2 ^ (n + 1) → rnd x (n + 1) % 2 = 0) := by
  have hstep : (2 : Int) ^ (n + 1) = 2 * 2 ^ n := pow_succ' 2 n
  have hpos : (0 : Int) < 2 ^ (n + 1) := by positivity
  have hlow := Int.emod_nonneg x hpos.ne'
  have hhigh := Int.emod_lt_of_pos x hpos
  have hx := Int.mul_ediv_add_emod x (2 ^ (n + 1))
  rcases rnd_succ_cases x n with ⟨heq, hr⟩ | ⟨heq, hr⟩
  · have herr : x - rnd x (n + 1) * 2 ^ (n + 1) = x % 2 ^ (n + 1) := by rw [heq]; linarith
    rw [herr, abs_of_nonneg hlow]
    omega
  · have herr : x - rnd x (n + 1) * 2 ^ (n + 1) = x % 2 ^ (n + 1) - 2 ^ (n + 1) := by rw [heq]; linarith
    rw [herr, abs_of_neg (by omega)]
    omega

/-- Settles O12: rounding drops no bit with `k` = 0, and otherwise takes the nearer enclosing multiple. -/
theorem convergentRounding : Obligations.ConvergentRounding := by
  intro x k
  refine ⟨rnd_zero x, fun hk => ?_⟩
  obtain ⟨n, rfl⟩ := Nat.exists_eq_succ_of_ne_zero hk.ne'
  exact rnd_succ_nearest x n

end Sys2Proof.Machine
end

section
/-!
PROOFS. O13: modulo addressing of data and delay pointers (R67, R70) and the addressing modes (R66). The exact address is in
the range of its register, so narrowing it loses nothing.
-/

namespace Sys2Proof.Machine

theorem toNat_ofInt_emod (n : Nat) (v : Int) : ((BitVec.ofInt n v).toNat : Int) = v % 2 ^ n := by
  rw [BitVec.toNat_ofInt, Int.toNat_of_nonneg (Int.emod_nonneg _ (by positivity)), Nat.cast_pow, Nat.cast_ofNat]

/-- R67, R70: an address in a buffer of `len` words from `base`, one that ends within the register's range. -/
theorem toNat_ofInt_buffer {n base len : Nat} (off : Int) (hlen : 0 < len) (hfit : base + len ≤ 2 ^ n) :
    ((BitVec.ofInt n (base + off % len)).toNat : Int) = base + off % len := by
  have hlow := Int.emod_nonneg off (b := len) (by omega)
  have hhigh := Int.emod_lt_of_pos off (b := len) (by omega)
  have hcast : ((base + len : Nat) : Int) ≤ 2 ^ n := by exact_mod_cast hfit
  rw [toNat_ofInt_emod, Int.emod_eq_of_lt (by omega) (by omega)]

/-- R67: the block of 2^k words around an address ends within the memory. -/
theorem block_fits {n k : Nat} (p : BitVec n) (hk : k ≤ n) : p.toNat / 2 ^ k * 2 ^ k + 2 ^ k ≤ 2 ^ n := by
  have hsplit : 2 ^ (n - k) * 2 ^ k = 2 ^ n := Nat.pow_sub_mul_pow 2 hk
  have hq : p.toNat / 2 ^ k < 2 ^ (n - k) := (Nat.div_lt_iff_lt_mul (by positivity)).2 (hsplit ▸ p.isLt)
  calc p.toNat / 2 ^ k * 2 ^ k + 2 ^ k = (p.toNat / 2 ^ k + 1) * 2 ^ k := (Nat.succ_mul _ _).symm
    _ ≤ 2 ^ (n - k) * 2 ^ k := Nat.mul_le_mul_right _ hq
    _ = 2 ^ n := hsplit

theorem advance_linear (p : BitVec 12) (m : Int) : ((advance 0 p m).toNat : Int) = (p.toNat + m) % 4096 :=
  toNat_ofInt_emod 12 _

theorem advance_modulo {l : BitVec 12} {k : Nat} (p : BitVec 12) (m : Int) (hl : l ≠ 0) (hk : l.toNat ≤ 2 ^ k)
    (hmin : ∀ j, l.toNat ≤ 2 ^ j → k ≤ j) :
    let base := p.toNat / 2 ^ k * 2 ^ k
    ((advance l p m).toNat : Int) = base + ((p.toNat - base : Int) + m) % l.toNat := by
  have hfit := block_fits p (hmin 12 l.isLt.le)
  rw [advance, if_neg hl, clog2_eq hk hmin]
  exact toNat_ofInt_buffer _ (BitVec.toNat_pos_of_ne_zero hl) (by omega)

theorem dadvance_linear {x : Engine} {k : Fin 4} (m : Int) (hl : x.dlen[k] = 0) :
    ((dadvance x k m).toNat : Int) = (x.dp[k].toNat + m) % 2 ^ 21 := by
  rw [dadvance, if_pos hl, toNat_ofInt_emod]

theorem dadvance_modulo {x : Engine} {k : Fin 4} (m : Int) (hl : x.dlen[k] ≠ 0)
    (hfit : x.dbas[k].toNat + x.dlen[k].toNat ≤ 2 ^ 21) :
    ((dadvance x k m).toNat : Int) =
      x.dbas[k].toNat + ((x.dp[k].toNat - x.dbas[k].toNat : Int) + m) % x.dlen[k].toNat := by
  rw [dadvance, if_neg hl]
  exact toNat_ofInt_buffer _ (BitVec.toNat_pos_of_ne_zero hl) hfit

/-- R66: mode 4 takes the twelve low bits of IX as a signed step. -/
theorem dataAddr_ix (x : Engine) (n : Fin 8) :
    dataAddr x n 4 = (advance x.l[n] x.p[n] (x.ixAg.extractLsb' 0 12).toInt, x.p[n]) := by
  rw [← BitVec.setWidth_eq_extractLsb' (by decide)]
  rfl

/-- Settles O13: the pointers advance linearly or in their buffers, and every addressing mode is an advance of its pointer. -/
theorem addressing : Obligations.Addressing := by
  refine ⟨⟨?data_linear, ?data_modulo, ?delay⟩, ?modes⟩
  case data_linear =>
    rintro _ p m rfl
    exact advance_linear p m
  case data_modulo => exact fun _ p m _ => advance_modulo p m
  case delay => exact fun _ _ m => ⟨dadvance_linear m, dadvance_modulo m⟩
  case modes => exact fun x n => ⟨rfl, rfl, rfl, rfl, dataAddr_ix x n, rfl, rfl⟩

end Sys2Proof.Machine
end

section
/-!
PROOFS. O11: the searches (R97). The selected move's load gives the candidate, which replaces A[D] and IX when it is strictly
beyond A[D]; without a load there is no candidate, and the instruction faults.
-/

namespace Sys2Proof.Machine

open Sys2Proof.Safety

/-- R97: a search whose selected move is no load is illegal, whatever the engine holds. -/
theorem paSearch_illegal {ab : Bool} {better : Int → Int → Bool} {d : BitVec 2} {sel : BitVec 4} {mv : Moves}
    (hk : (if bit sel 0 then mv.yk else mv.xk) ≠ 1) (x : Engine) : paSearch ab better d sel mv x = .flt 3 :=
  if_neg (by simp only [hk, decide_false, Bool.and_false, Bool.false_eq_true, not_false_iff])

/-- Settles O11: a legal search is an instance of `search_next`, with the comparison of its row. -/
theorem searches : Obligations.Searches := by
  refine ⟨fun s e d y mv hready hmv hload => ?legal, fun s e d sel mv hmay hload => ?illegal⟩
  case legal =>
    exact ⟨search_next hready hmv hload rfl rfl rfl (by simp),
      search_next hready hmv hload rfl rfl rfl (by simp),
      search_next hready hmv hload rfl rfl rfl (by simp)⟩
  case illegal =>
    have hfault (ab : Bool) (better : Int → Int → Bool) :
        engRun s e (paSearch ab better d sel mv) = .next (settle (engFault e 3 (atIssue s e))) :=
      engRun_fault hmay fun _ => paSearch_illegal hload _
    exact ⟨hfault false _, hfault false _, hfault true _⟩

end Sys2Proof.Machine
end

section
/-!
PROOFS. O14: register moves (R99-R101), immediate loads (R102) and the immediate add (R105). The register codes of R90 are
split by class: a lemma gives a code as the first code of its class plus the number of the register.
-/

namespace Sys2Proof.Machine

open Sys2Proof.Safety

/-- R90: a code below 64 fits its field. -/
theorem regCode_toNat {n : Nat} (h : n < 64) : (BitVec.ofNat 6 n).toNat = n := by
  rw [BitVec.toNat_ofNat, Nat.mod_eq_of_lt h]

/-! What ADDI adds to (R105). -/

section
variable {dst : BitVec 6} (imm : BitVec 21) (x : Engine)

theorem addImm_p {n : Fin 8} (hdst : dst.toNat = 8 + n) :
    addImm dst imm x = .ok { x with p := vset x.p n (advance x.l[n] x.p[n] imm.toInt) } [] := by
  have hn : dst.toNat % 8 = n := by omega
  simp (disch := omega) [addImm, if_pos, if_neg, hn]

theorem addImm_m {n : Fin 8} (hdst : dst.toNat = 16 + n) :
    addImm dst imm x = .ok { x with m := vset x.m n (BitVec.ofInt 12 (x.m[n].toInt + imm.toInt)) } [] := by
  have hn : dst.toNat % 8 = n := by omega
  simp (disch := omega) [addImm, if_pos, if_neg, hn]

theorem addImm_dp {n : Fin 4} (hdst : dst.toNat = 32 + n) :
    addImm dst imm x = .ok { x with dp := vset x.dp n (dadvance x n imm.toInt) } [] := by
  have hn : dst.toNat % 4 = n := by omega
  simp (disch := omega) [addImm, if_pos, if_neg, hn]

theorem addImm_dbas {n : Fin 4} (hdst : dst.toNat = 36 + n) :
    addImm dst imm x = .ok { x with dbas := vset x.dbas n (BitVec.ofInt 21 (x.dbas[n].toNat + imm.toInt)) } [] := by
  have hn : dst.toNat % 4 = n := by omega
  simp (disch := omega) [addImm, if_pos, if_neg, hn]

theorem addImm_ix : addImm 44 imm x = .ok { x with ix := BitVec.ofInt 16 (x.ix.toNat + imm.toInt) } [] := rfl

/-- R105: every destination outside P, M, DP, DBAS and IX is illegal. -/
theorem addImm_illegal
    (hdst : dst.toNat < 8 ∨ (24 ≤ dst.toNat ∧ dst.toNat < 32) ∨ (40 ≤ dst.toNat ∧ dst ≠ 44)) :
    addImm dst imm x = .flt 3 := by
  obtain hlow | ⟨hlow, hhigh⟩ | ⟨hlow, hne⟩ := hdst
  · simp (disch := omega) only [addImm, if_pos]
  · simp (disch := omega) only [addImm, if_pos, if_neg]
  · have hix : dst.toNat ≠ 44 := fun heq => hne (BitVec.eq_of_toNat_eq heq)
    simp (disch := omega) only [addImm, if_neg]
end

/-! What a register move reads and writes (R100, R101). -/

section
variable {dst src : BitVec 6} (x : Engine)

theorem regRead_opr {r : Fin 4} (hsrc : src.toNat = 4 + r) : regRead x src = x.opr[r].toInt := by
  have hr : src.toNat % 4 = r := by omega
  simp (disch := omega) [regRead, if_pos, hr]

theorem regWrite_acc (v : Int) {d : Fin 4} (hdst : dst.toNat = d) :
    regWrite x dst v = { x with acc := vset x.acc d (BitVec.ofInt 56 (v * 2 ^ 24)) } := by
  have hd : dst.toNat % 4 = d := by omega
  simp (disch := omega) [regWrite, if_pos, hd]

theorem regWrite_opr (v : Int) {d : Fin 4} (hdst : dst.toNat = 4 + d) :
    regWrite x dst v = { x with opr := vset x.opr d (BitVec.ofInt 24 v) } := by
  have hd : dst.toNat % 4 = d := by omega
  simp (disch := omega) [regWrite, if_pos, if_neg, hd]

theorem regWrite_m (v : Int) {d : Fin 8} (hdst : dst.toNat = 16 + d) :
    regWrite x dst v = { x with m := vset x.m d (BitVec.ofInt 12 v) } := by
  have hd : dst.toNat % 8 = d := by omega
  simp (disch := omega) [regWrite, if_pos, if_neg, hd]

theorem regWrite_sr (v : Int) : regWrite x 46 v = srWrite x (BitVec.ofInt 16 v) := rfl

theorem regMove_acc_acc {d r : Fin 4} (hdst : dst.toNat = d) (hsrc : src.toNat = r) :
    regMove x dst src = { x with acc := vset x.acc d x.acc[r] } := by
  simp [regMove, hdst, hsrc]

/-- R100: an accumulator moved to another register is narrowed, and S keeps that it clipped. -/
theorem regMove_of_acc {r : Fin 4} (hdst : 4 ≤ dst.toNat) (hsrc : src.toNat = r) :
    regMove x dst src =
      let y := regWrite x dst (narrow x.acc[r]).1.toInt
      { y with fs := y.fs || (narrow x.acc[r]).2 } := by
  simp [regMove, hsrc, Nat.not_lt.2 hdst]

theorem regMove_of_opr {r : Fin 4} (hsrc : src.toNat = 4 + r) : regMove x dst src = regWrite x dst x.opr[r].toInt := by
  have hacc : ¬ src.toNat < 4 := by omega
  rw [regMove, dif_neg hacc, regRead_opr x hsrc]
end

/-- R101: the bits of SR are the low bits of the operand register. -/
theorem bit_ofInt_toInt {n m i : Nat} (v : BitVec n) (hi : i < m) (hn : i < n) :
    bit (BitVec.ofInt m v.toInt) i = v.getLsbD i := by
  change (v.signExtend m).getLsbD i = _
  rw [BitVec.getLsbD_signExtend]
  simp [hi, hn]

/-- R101: SR written from a 24-bit register. -/
theorem srWrite_ofInt_toInt (x : Engine) (v : Sample) :
    srWrite x (BitVec.ofInt 16 v.toInt) =
      { x with fn := v.getLsbD 0, fz := v.getLsbD 1, fv := v.getLsbD 2, fc := v.getLsbD 3, fs := v.getLsbD 4,
               fdv := v.getLsbD 5 || x.dvLate } := by
  simp [srWrite, bit_ofInt_toInt]

section
variable {s : State} {e : Eng}

theorem mov_next (h : Ready s e) {dst src : BitVec 6} (hdst : regOk dst = true) (hsrc : regOk src = true) :
    exec (.mov e dst src) s = .next (moveOn s e (regMove (engIn s e) dst src) []) :=
  show execMov e dst src s = _ from engRun_next h (if_pos (by rw [hdst, hsrc]; rfl))

theorem ldi_next (h : Ready s e) {dst : BitVec 6} (imm : BitVec 22) (hdst : regOk dst = true) (hacc : 4 ≤ dst.toNat) :
    exec (.ldi e dst imm) s = .next (moveOn s e (regWrite (engIn s e) dst imm.toInt) []) :=
  show execLdi e dst imm s = _ from engRun_next h (if_pos (by simp [hdst, hacc]))

theorem addi_next (h : Ready s e) {dst : BitVec 6} {imm : BitVec 21} {y : Engine}
    (hadd : addImm dst imm (engIn s e) = .ok y []) : exec (.addi e dst imm) s = .next (moveOn s e y []) :=
  engRun_next h hadd
end

/-- Settles O14: each instruction runs by `engRun_next` on what its register code selects, and ADDI's other codes fault. -/
theorem registerMovesAndImmediates : Obligations.RegisterMovesAndImmediates := by
  refine ⟨fun s e hready => ⟨?mov, ?load, ?ldi, ?pointers, ?delays, ?ix, ?illegal⟩,
    fun x => ⟨?acc_acc, ?acc_opr, ?opr_acc, ?opr_m, ?opr_sr⟩⟩
  case mov => exact fun dst src => mov_next hready
  case load => exact fun r imm => ⟨show execLdx e r imm s = _ from engRun_next hready rfl,
    show execLda e r imm s = _ from engRun_next hready rfl⟩
  case ldi => exact fun dst imm => ldi_next hready imm
  case pointers =>
    exact fun n imm => ⟨addi_next hready (addImm_p imm _ (regCode_toNat (by omega))),
      addi_next hready (addImm_m imm _ (regCode_toNat (by omega)))⟩
  case delays =>
    exact fun n imm => ⟨addi_next hready (addImm_dp imm _ (regCode_toNat (by omega))),
      addi_next hready (addImm_dbas imm _ (regCode_toNat (by omega)))⟩
  case ix => exact fun imm => addi_next hready (addImm_ix imm _)
  case illegal => exact fun dst imm hdst => engRun_fault hready.1 fun _ => addImm_illegal imm _ hdst
  case acc_acc => exact fun d r => regMove_acc_acc x (regCode_toNat (by omega)) (regCode_toNat (by omega))
  case acc_opr =>
    intro d r w
    have hdst : (BitVec.ofNat 6 (4 + d.val)).toNat = 4 + d := regCode_toNat (by omega)
    rw [regMove_of_acc x (by omega) (regCode_toNat (by omega)), regWrite_opr x _ hdst, narrow_eq, BitVec.ofInt_toInt]
  case opr_acc =>
    intro d r
    rw [regMove_of_opr x (regCode_toNat (by omega)), regWrite_acc x _ (regCode_toNat (by omega))]
  case opr_m =>
    intro d r
    rw [regMove_of_opr x (regCode_toNat (by omega)), regWrite_m x _ (regCode_toNat (by omega))]
  case opr_sr =>
    intro r
    rw [regMove_of_opr x (regCode_toNat (by omega)), regWrite_sr, srWrite_ofInt_toInt]

end Sys2Proof.Machine
end

section
/-!
PROOFS. O8, O9, O10: parallel arithmetic (R93-R96). Each instruction runs by `paMul_next` or `paAlu_next`; what is left is what
its operation makes of A[D] and its operand: a lemma per kind of result gives the engine with the accumulator and the flags.
-/

namespace Sys2Proof.Machine

open Sys2Proof.Safety

/-! What a result leaves of the engine (R59, R95). -/

section
variable (x : Engine) (d : BitVec 2)

/-- A result that is a bit pattern: V is clear and S stands. -/
theorem applyAlu_bits (r : Sys2Proof.Acc) (c : Option Bool) :
    applyAlu x (ix2 d) (aluOf r false (some false) c) = accResult x d r.toInt false c false := by
  rw [← aluOf_apply x d r.toInt (accBd r).1 (accBd r).2, BitVec.ofInt_toInt]

/-- A result that is the exact value of a product or of its negative. -/
theorem applyAlu_exact {r : Sys2Proof.Acc} {q : Int} (hr : r.toInt = q) (c : Option Bool) :
    applyAlu x (ix2 d) (aluOf r false (some false) c) = accResult x d q false c false :=
  hr ▸ applyAlu_bits x d r c

/-- CMP: the flags of the saturated difference; a difference of accumulators is negative or zero as its operands compare. -/
theorem applyAlu_cmp (q r : Sys2Proof.Acc) :
    applyAlu x (ix2 d) (aluCmp q r) =
      { x with fn := decide (q.toInt < r.toInt), fz := decide (q.toInt = r.toInt),
               fv := decide (clamp56 (q.toInt - r.toInt) ≠ q.toInt - r.toInt), fc := decide (q.toNat < r.toNat) } := by
  have hclamp := clamp_le (q.toInt - r.toInt)
  have hneg : clamp56 (q.toInt - r.toInt) < 0 ↔ q.toInt < r.toInt := by unfold clamp56; omega
  have hzero : clamp56 (q.toInt - r.toInt) = 0 ↔ q.toInt = r.toInt := by unfold clamp56; omega
  simp only [applyAlu, aluCmp, aluSub, aluSat, aluOf, sat56, satN56, msb56 _ hclamp.1 hclamp.2, zero56 _ hclamp.1 hclamp.2,
    hneg, hzero, Option.getD_some, Bool.or_false]
  rfl

/-- LIM: the accumulator takes its value as a 24-bit word in accumulator form; V and S tell whether it clipped. -/
theorem applyAlu_lim (q r : Sys2Proof.Acc) :
    applyAlu x (ix2 d) (aluLim q r) =
      let w := rnd r.toInt 24
      let clip := decide (clamp24 w ≠ w)
      accResult x d (clamp24 w * 2 ^ 24) clip none clip := by
  have hlow : -2 ^ 55 ≤ clamp24 (rnd r.toInt 24) * 2 ^ 24 := by unfold clamp24; omega
  have hhigh : clamp24 (rnd r.toInt 24) * 2 ^ 24 < 2 ^ 55 := by unfold clamp24; omega
  rw [aluLim, narrow_eq, widen, toInt24]
  exact aluOf_apply x d _ hlow hhigh _ _ _

/-- MAX and MIN: one of the two operands, C telling whether it is the source. -/
theorem applyAlu_choice (q r : Sys2Proof.Acc) (p : Prop) [Decidable p] :
    applyAlu x (ix2 d) (if p then aluOf r false (some false) (some true) else aluOf q false (some false) (some false)) =
      accResult x d (if p then r else q).toInt false (some (decide p)) false := by
  by_cases hp : p
  · simp only [hp, if_true, decide_true, applyAlu_bits]
  · simp only [hp, if_false, decide_false, applyAlu_bits]
end

theorem toInt_neg_product (a b : Sample) : (-product a b).toInt = -(a.toInt * b.toInt * 2) := by
  have hbound := prod_bd a b
  rw [product, ← BitVec.ofInt_neg, BitVec.toInt_ofInt, Int.bmod_eq_of_le] <;> norm_num at * <;> omega

theorem carry_product (q : Sys2Proof.Acc) (a b : Sample) :
    carry q (product a b) = decide (2 ^ 56 ≤ q.toNat + (a.toInt * b.toInt * 2 % 2 ^ 56).toNat) := by
  rw [carry, prod_nat']

theorem borrow_product (q : Sys2Proof.Acc) (a b : Sample) :
    borrow q (product a b) = decide ((q.toNat : Int) < a.toInt * b.toInt * 2 % 2 ^ 56) := by
  simp only [borrow, ← prod_nat, Nat.cast_lt]

/-- Settles O8: each operation runs on the product, whose exact value is twice that of its factors. -/
theorem multiplyOperations : Obligations.MultiplyOperations := by
  intro s e d sel mv a b hready hmv hpair x p q sum diff
  have hrun (op) (y : Engine) (hy : applyAlu x (ix2 d) (op x.acc[ix2 d] (product a b)) = y) :
      engRun s e (paMul op d sel mv) = .next (paNext s e mv y) := hy ▸ paMul_next hready hmv hpair
  have hprod : (product a b).toInt = p := prod_int a b
  have hsum : carry x.acc[ix2 d] (product a b) = sum := carry_product _ a b
  have hdiff : borrow x.acc[ix2 d] (product a b) = diff := borrow_product _ a b
  refine ⟨hrun aluMpy _ ?mpy, hrun aluMpyn _ ?mpyn, hrun aluMac _ ?mac, hrun aluMacn _ ?macn, hrun aluMacr _ ?macr,
    hrun aluMacnr _ ?macnr⟩
  case mpy => exact applyAlu_exact x d hprod _
  case mpyn => exact applyAlu_exact x d (toInt_neg_product a b) _
  case mac => rw [aluMac, hprod, hsum, aluSat_apply]
  case macn => rw [aluMacn, hprod, hdiff, aluSat_apply]
  case macr => rw [aluMacr, hprod, hsum, aluSat_apply]
  case macnr => rw [aluMacnr, hprod, hdiff, aluSat_apply]

/-- Settles O9: each operation runs on its source; ABS takes the magnitude, CMP and LIM have results of their own. -/
theorem saturatingOperations : Obligations.SaturatingOperations := by
  intro s e d sel mv r hready hmv hsrc x q sum diff
  have hrun (op) (y : Engine) (hy : applyAlu x (ix2 d) (op x.acc[ix2 d] r) = y) :
      engRun s e (paAlu op d sel mv) = .next (paNext s e mv y) := hy ▸ paAlu_next hready hmv hsrc
  refine ⟨hrun aluAdd _ (aluSat_apply ..), hrun aluSub _ (aluSat_apply ..), hrun aluCmp _ (applyAlu_cmp ..),
    hrun aluNeg _ (aluSat_apply ..), hrun aluAbs _ ?abs, hrun aluRnd _ (aluSat_apply ..), hrun aluAsl _ (aluSat_apply ..),
    hrun aluLim _ (applyAlu_lim ..)⟩
  case abs => rw [aluAbs, aluSat_apply, Int.natCast_natAbs]

/-- R94: PMOV and CLR run with S = 0. -/
theorem paNone_next {s : State} {e : Eng} {op : Sys2Proof.Acc → Sys2Proof.Acc → Alu} {d : BitVec 2} {mv : Moves}
    (hready : Ready s e) (hmv : movesOk mv = true) :
    engRun s e (paNone op d 0 mv) =
      .next (paNext s e mv (applyAlu (engIn s e) (ix2 d) (op (engIn s e).acc[ix2 d] 0))) :=
  pa_next (src := fun _ => some 0) hready hmv rfl

/-- Settles O10: each operation runs on its source, whose bits its result is made of. -/
theorem bitOperationsAndMoves : Obligations.BitOperationsAndMoves := by
  refine ⟨fun s e d sel mv r hready hmv hsrc => ?bits, fun s e d mv hready => ⟨?nop, fun hmv => ⟨?pmov, ?clr⟩⟩⟩
  case bits =>
    intro x q put
    have hrun (op) (y : Engine) (hy : applyAlu x (ix2 d) (op q r) = y) :
        engRun s e (paAlu op d sel mv) = .next (paNext s e mv y) := hy ▸ paAlu_next hready hmv hsrc
    exact ⟨hrun aluMova _ (applyAlu_bits ..), hrun aluAnd _ (applyAlu_bits ..), hrun aluOr _ (applyAlu_bits ..),
      hrun aluXor _ (applyAlu_bits ..), hrun aluNot _ (applyAlu_bits ..), hrun aluAsr _ (applyAlu_bits ..),
      hrun aluLsr _ (applyAlu_bits ..), hrun aluMax _ (applyAlu_choice x d q r _), hrun aluMin _ (applyAlu_choice x d q r _)⟩
  case nop => exact engRun_next hready (f := fun x => .ok x []) rfl
  case pmov =>
    have hpmov : applyAlu (engIn s e) (ix2 d) (aluPmov (engIn s e).acc[ix2 d] 0) = engIn s e := by
      simp [applyAlu, aluPmov]
    exact (paNone_next hready hmv).trans (by rw [hpmov])
  case clr =>
    have hclr : applyAlu (engIn s e) (ix2 d) (aluClr (engIn s e).acc[ix2 d] 0) =
        { engIn s e with acc := vset (engIn s e).acc (ix2 d) 0, fn := false, fz := true, fv := false } := by
      simp [applyAlu, aluClr]
    exact (paNone_next hready hmv).trans (by rw [hclr])

end Sys2Proof.Machine
end

section
/-!
PROOFS. O15, O16: absolute accesses of X and Y memory (R103), shifts and the count of sign bits (R104).
-/

namespace Sys2Proof.Machine

open Sys2Proof.Safety

/-! Absolute accesses (R103): the register field names an operand register from 0, an accumulator from 4. -/

section
variable {r : Fin 4} (y : Bool) (a : BitVec 12) (x : Engine)

theorem absAccess_load_opr :
    absAccess y false (BitVec.ofNat 3 r.val) a x = .ok { x with opr := vset x.opr r (memGet x y a) } [] := by
  fin_cases r <;> rfl

theorem absAccess_load_acc :
    absAccess y false (BitVec.ofNat 3 (4 + r.val)) a x = .ok { x with acc := vset x.acc r (widen (memGet x y a)) } [] := by
  fin_cases r <;> rfl

theorem absAccess_store_opr :
    absAccess y true (BitVec.ofNat 3 r.val) a x = .ok { (memSet x y a x.opr[r]) with fs := x.fs || false } [(y, a)] := by
  fin_cases r <;> rfl

theorem absAccess_store_acc :
    absAccess y true (BitVec.ofNat 3 (4 + r.val)) a x =
      .ok { (memSet x y a (narrow x.acc[r]).1) with fs := x.fs || (narrow x.acc[r]).2 } [(y, a)] := by
  fin_cases r <;> rfl
end

/-- Settles O15: each access runs on what its fields select, and the laws of maps are those of every sparse memory. -/
theorem dataMemory : Obligations.DataMemory := by
  refine ⟨fun s e r a hready => ?access, mem_law 0, mem_law 0⟩
  intro x o c w v clip
  have hload (y : Bool) :
      engRun s e (absAccess y false o a) = .next (moveOn s e { x with opr := vset x.opr r (memGet x y a) } []) ∧
      engRun s e (absAccess y false c a) = .next (moveOn s e { x with acc := vset x.acc r (widen (memGet x y a)) } []) :=
    ⟨engRun_next hready (absAccess_load_opr ..), engRun_next hready (absAccess_load_acc ..)⟩
  have hopr (y : Bool) : engRun s e (absAccess y true o a) = .next (moveOn s e (memSet x y a x.opr[r]) [(y, a)]) := by
    rw [engRun_next hready (absAccess_store_opr ..)]
    cases y <;> simp [memSet, x]
  have hacc (y : Bool) :
      engRun s e (absAccess y true c a) = .next (moveOn s e { (memSet x y a v) with fs := clip } [(y, a)]) := by
    rw [engRun_next hready (absAccess_store_acc ..), narrow_eq]
  exact ⟨(hload false).1, (hload true).1, (hload false).2, (hload true).2, hopr false, hopr true, hacc false, hacc true⟩

/-! Shifts (R104). -/

theorem aluAsh_left {rd : Bool} {r : Sys2Proof.Acc} {n : Int} (hn : 0 ≤ n) :
    aluAsh rd r n = aluSat (r.toInt * 2 ^ n.toNat) (some (lastOut r n)) := if_pos hn

theorem aluAsh_right {rd : Bool} {r : Sys2Proof.Acc} {n : Int} (hn : n < 0) :
    aluAsh rd r n = aluSat (if rd then rnd r.toInt (-n).toNat else r.toInt / 2 ^ (-n).toNat) (some (lastOut r n)) :=
  if_neg (not_le.2 hn)

/-- Settles O16: a shift by K from its arithmetic, and CLS from the run of bits below bit 55 that equal it. -/
theorem shifts : Obligations.Shifts := by
  intro s e d src k hready x r n out
  have hash (rd : Bool) :
      exec (.ash e rd d src k) s = .next (moveOn s e (applyAlu x (ix2 d) (aluAsh rd r n)) []) :=
    engRun_next hready (f := fun x => .ok (applyAlu x (ix2 d) (aluAsh rd x.acc[ix2 src] n)) []) rfl
  have hlsh : exec (.lsh e false d src k) s = .next (moveOn s e (accResult x d
      (if 0 ≤ n then r <<< n.toNat else r >>> (-n).toNat).toInt false (some out) false) []) := by
    rw [← applyAlu_bits]
    exact engRun_next hready (f := fun x => .ok (applyAlu x (ix2 d) (aluLsh x.acc[ix2 src] n)) []) rfl
  refine ⟨fun hn rd => ?left, fun hn => ?floor, fun hn => ?round, fun hn => ?lsl, fun hn => ?lsr, ?cls⟩
  case left => rw [hash, aluAsh_left hn, aluSat_apply]; rfl
  case floor => rw [hash, aluAsh_right hn, aluSat_apply]; rfl
  case round => rw [hash, aluAsh_right hn, aluSat_apply]; rfl
  case lsl => rw [hlsh, if_pos hn]
  case lsr => rw [hlsh, if_neg (not_le.2 hn)]
  case cls =>
    refine ⟨signRun r 55, signRun_le r 55, fun i hlow hhigh => ?same, fun hc => ?stop, ?run⟩
    case same =>
      obtain hi | rfl := Nat.lt_or_eq_of_le hhigh
      · exact signRun_all r 55 i hi hlow
      · exact (BitVec.msb_eq_getLsbD_last r).symm
    case stop => exact signRun_stop r 55 hc
    case run =>
      exact engRun_next hready (f := fun x => if false || (0 : BitVec 2) ≠ 0 || (0 : BitVec 6) ≠ 0 then .flt 3
        else .ok { x with ix := BitVec.ofNat 16 (signRun x.acc[ix2 src] 55) } []) rfl

end Sys2Proof.Machine
end

section
/-!
PROOFS. O17, O18: the condition codes and the conditional transfers (R111, R112, R79), loops and their ends (R77, R78, R110).
-/

namespace Sys2Proof.Machine

open Sys2Proof.Safety

/-! Conditional transfers. -/

section
variable {s : State} {e : Eng} {c : BitVec 4} {taken : BitVec 16 → Engine → Eff}

/-- R112: a transfer whose condition does not hold moves on. -/
theorem condRun_off (hready : Ready s e) (hc : condOk c = true) (hcond : condHolds (engIn s e) c = false) :
    engFlow s e (fun fv => condFlow c (taken fv)) = .next (moveOn s e (engIn s e) []) := by
  rw [moveOn_jump s e _ rfl]
  exact engFlow_next hready.1 (condFlow_off hc hready.2.1 hcond) (pcw hready) (lt_irrefl _)

/-- R112: a taken transfer that keeps its loop levels. -/
theorem condRun_on (hready : Ready s e) (hc : condOk c = true) (hcond : condHolds (engIn s e) c = true) {y : Engine}
    (htaken : taken (lcFree (atIssue s e)) (engIn s e) = .ok y []) (hpc : e = weNum → y.pc.toNat < 4096)
    (hloops : y.loops = (engIn s e).loops) :
    engFlow s e (fun fv => condFlow c (taken fv)) = .next (jump s e y) :=
  engFlow_next hready.1 ((condFlow_on hc hready.2.1 hcond).trans htaken) hpc (by simp [hloops])

/-- R79, R112: a taken transfer that pops a loop level takes a free value for LC (log 6). -/
theorem condRun_pop (hready : Ready s e) (hc : condOk c = true) (hcond : condHolds (engIn s e) c = true) {y : Engine}
    (htaken : taken (lcFree (atIssue s e)) (engIn s e) = .ok y []) (hpc : e = weNum → y.pc.toNat < 4096)
    (hloops : y.loops.length < (engIn s e).loops.length) :
    engFlow s e (fun fv => condFlow c (taken fv)) = .next (freeTaken (jump s e y)) :=
  engFlow_free hready.1 ((condFlow_on hc hready.2.1 hcond).trans htaken) hpc hloops
end

/-- R83: the address after one that lies below the end of WE's program memory. -/
theorem toNat_succ_lt {a : BitVec 13} (h : a.toNat + 1 < 4096) : (a + 1).toNat < 4096 := by
  rw [BitVec.toNat_add]
  exact lt_of_le_of_lt (Nat.mod_le _ _) h

theorem condOk_iff (c : BitVec 4) : condOk c = true ↔ c ≠ 14 ∧ c ≠ 15 := by
  simp only [condOk, decide_eq_true_eq]
  bv_omega

theorem popLoop_inner (fv : BitVec 16) {x : Engine} {l m : LoopLevel} {ls : List LoopLevel} (h : x.loops = l :: m :: ls) :
    popLoop fv x = { x with loops := m :: ls, lc := m.count } := by simp [popLoop, h]

theorem popLoop_last (fv : BitVec 16) {x : Engine} {l : LoopLevel} (h : x.loops = [l]) :
    popLoop fv x = { x with loops := [], lc := fv } := by simp [popLoop, h]

/-! What each transfer does when it is taken (R112, R79). -/

/-- BRA, and BRX with its computed target. -/
def branchTo (a : BitVec 13) (x : Engine) : Eff := .ok { x with pc := a } []

/-- CALL. -/
def callTo (a : BitVec 13) (x : Engine) : Eff :=
  if 8 ≤ x.rets.length then .flt 8 else .ok { x with rets := (x.pc + 1) :: x.rets, pc := a } []

/-- RET. -/
def returnOf (x : Engine) : Eff :=
  match x.rets with
  | [] => .flt 9
  | r :: rs => .ok { x with rets := rs, pc := r } []

/-- EXIT; `fv` is the value that LC takes with no level left. -/
def exitOf (fv : BitVec 16) (x : Engine) : Eff :=
  match x.loops with
  | [] => .flt 7
  | l :: _ => .ok { (popLoop fv x) with pc := l.stop + 1 } []

section
variable (e : Eng) (c : BitVec 4) (a : BitVec 13) (s : State)

theorem exec_bra : exec (.bra e c a) s = engFlow s e fun _ => condFlow c (branchTo a) := rfl
theorem exec_call : exec (.call e c a) s = engFlow s e fun _ => condFlow c (callTo a) := rfl
theorem exec_ret : exec (.ret e c) s = engFlow s e fun _ => condFlow c returnOf := rfl
theorem exec_brx : exec (.brx e c a) s =
    engFlow s e fun _ => condFlow c fun x => branchTo (a + x.ixAg.setWidth 13) x := rfl
theorem exec_exit : exec (.exit e c) s = engFlow s e fun fv => condFlow c (exitOf fv) := rfl
end

section
variable {x : Engine}

theorem callTo_push (a : BitVec 13) (h : x.rets.length < 8) :
    callTo a x = .ok { x with pc := a, rets := (x.pc + 1) :: x.rets } [] := if_neg (not_le.2 h)

theorem callTo_full (a : BitVec 13) (h : 8 ≤ x.rets.length) : callTo a x = .flt 8 := if_pos h

theorem returnOf_pop {r : BitVec 13} {rs : List (BitVec 13)} (h : x.rets = r :: rs) :
    returnOf x = .ok { x with pc := r, rets := rs } [] := by rw [returnOf, h]

theorem returnOf_empty (h : x.rets = []) : returnOf x = .flt 9 := by rw [returnOf, h]

theorem exitOf_inner (fv : BitVec 16) {l m : LoopLevel} {ls : List LoopLevel} (h : x.loops = l :: m :: ls) :
    exitOf fv x = .ok { x with pc := l.stop + 1, loops := m :: ls, lc := m.count } [] := by
  rw [exitOf, h, popLoop_inner fv h]

theorem exitOf_last (fv : BitVec 16) {l : LoopLevel} (h : x.loops = [l]) :
    exitOf fv x = .ok { x with pc := l.stop + 1, loops := [], lc := fv } [] := by
  rw [exitOf, h, popLoop_last fv h]

theorem exitOf_none (fv : BitVec 16) (h : x.loops = []) : exitOf fv x = .flt 7 := by rw [exitOf, h]
end

/-- Settles O17: a transfer that is not taken moves on; a taken one goes where its own clause says. -/
theorem conditionalTransfers : Obligations.ConditionalTransfers := by
  refine ⟨fun x => ⟨rfl, rfl, rfl, rfl, rfl, rfl, rfl, rfl, rfl, rfl, rfl, rfl, rfl, rfl, condOk_iff⟩, ?_⟩
  intro s e c a hready hc x t
  simp only [exec_bra, exec_call, exec_ret, exec_brx, exec_exit]
  refine ⟨fun hcond => ?off, fun hcond hpc => ⟨?bra, fun hrets => ?call⟩, fun hcond r rs hrets hpc => ?ret,
    fun hcond hpc => ?brx, fun hcond l m ls hloops hpc => ?exit, fun hcond l hloops hpc => ?exitLast⟩
  case off =>
    have hoff {taken : BitVec 16 → Engine → Eff} := condRun_off (taken := taken) hready hc hcond
    exact ⟨hoff, hoff, hoff, hoff, hoff⟩
  case bra => exact condRun_on hready hc hcond rfl hpc rfl
  case call => exact condRun_on hready hc hcond (callTo_push a hrets) hpc rfl
  case ret => exact condRun_on hready hc hcond (returnOf_pop hrets) hpc rfl
  case brx =>
    have ht : a + x.ixAg.setWidth 13 = t := by rw [BitVec.setWidth_eq_extractLsb' (by decide)]
    exact condRun_on hready hc hcond (by rw [branchTo, ht]) hpc rfl
  case exit =>
    exact condRun_pop hready hc hcond (exitOf_inner _ hloops) (fun he => toNat_succ_lt (hpc he))
      (by rw [show (engIn s e).loops = _ from hloops]; simp)
  case exitLast =>
    exact ⟨_, condRun_pop hready hc hcond (exitOf_last _ hloops) (fun he => toNat_succ_lt (hpc he))
      (by rw [show (engIn s e).loops = _ from hloops]; simp)⟩

/-! Loop instructions. -/

section
variable {x : Engine} {n : BitVec 16} {stop : BitVec 13} (hlow : x.pc.toNat < stop.toNat)
  (hfresh : ∀ l ∈ x.loops, l.stop ≠ stop) (hend : atLoopEnd x = false)
include hlow hfresh hend

theorem loopStep_eq : loopStep n stop x =
    if n = 0 then .ok { x with pc := stop + 1 } [] else if 4 ≤ x.loops.length then .flt 6 else .ok (pushLoop x stop n) [] := by
  simp [loopStep, hlow, hend, loopStep_any hfresh]

theorem loopStep_skip (hn : n = 0) : loopStep n stop x = .ok { x with pc := stop + 1 } [] := by
  rw [loopStep_eq hlow hfresh hend, if_pos hn]

theorem loopStep_push (hn : n ≠ 0) (hroom : x.loops.length < 4) : loopStep n stop x = .ok (pushLoop x stop n) [] := by
  rw [loopStep_eq hlow hfresh hend, if_neg hn, if_neg (not_le.2 hroom)]

theorem loopStep_full (hn : n ≠ 0) (hfull : 4 ≤ x.loops.length) : loopStep n stop x = .flt 6 := by
  rw [loopStep_eq hlow hfresh hend, if_neg hn, if_pos hfull]
end

/-- LOOPR: the loop with the count that its register holds. -/
def loopOf (creg : BitVec 6) (stop : BitVec 13) (x : Engine) : Eff :=
  match cregValue creg x with
  | some n => loopStep n stop x
  | none => .flt 3

theorem loopOf_some {creg : BitVec 6} {stop : BitVec 13} {x : Engine} {n : BitVec 16} (h : cregValue creg x = some n) :
    loopOf creg stop x = loopStep n stop x := by rw [loopOf, h]

theorem cregValue_p (n : Fin 8) (x : Engine) : cregValue (BitVec.ofNat 6 (8 + n.val)) x = some (x.p[n].setWidth 16) := by
  fin_cases n <;> rfl

/-! Loop ends. -/

theorem atLoopEnd_innermost {x : Engine} {l : LoopLevel} {ls : List LoopLevel} (h : x.loops = l :: ls) (hstop : l.stop = x.pc) :
    atLoopEnd x = true := by simp [atLoopEnd, h, hstop]

@[simp] theorem getEng_freeTaken (s : State) (e : Eng) : getEng (freeTaken s) e = getEng s e := rfl

/-- R78: at a loop end NOP leaves the engine as the fetch left it. -/
theorem nop_fetch {s : State} {e : Eng} (hmay : engMay s e = true)
    (hpc : e = weNum → (pcNext (freeVal (atIssue s e)) (engIn s e)).pc.toNat < 4096) :
    exec (.nop e) s = .next (iff (fetchFree (engIn s e)) freeTaken (jump s e (pcNext (freeVal (atIssue s e)) (engIn s e)))) := by
  have hplace : weLeft e (pcNext (freeVal (atIssue s e)) (engIn s e)) = false := by
    simpa [weLeft] using hpc
  have hstay (b : Bool) (y : Engine) : engCommit e (engIn s e) y [] (if b then freeTaken (atIssue s e) else atIssue s e) =
      iff b freeTaken (jump s e y) := by
    cases b <;> simp [engCommit, engPlace, jump, iff, setEng_freeTaken]
  have hget (b : Bool) (y : Engine) : (getEng (iff b freeTaken (jump s e y)) e).pc = y.pc := by
    cases b <;> simp [iff, jump]
  change engRun s e (fun x => .ok x []) = _
  simp only [engRun, hmay, if_true, atExec]
  rw [hstay, engEnd, if_neg]
  simp only [weLeft, hget] at hplace ⊢
  simpa using hplace

/-- R78: at the end of the innermost level: the loop goes on, or the level is popped. -/
theorem pcNext_again (fv : BitVec 64) {x : Engine} {l : LoopLevel} {ls : List LoopLevel} (h : x.loops = l :: ls)
    (hstop : l.stop = x.pc) (hlc : 1 < x.lc.toNat) : pcNext fv x = { x with pc := l.start, lc := x.lc - 1 } := by
  simp [pcNext, h, hstop, hlc]

theorem pcNext_pop (fv : BitVec 64) {x : Engine} {l : LoopLevel} {ls : List LoopLevel} (h : x.loops = l :: ls)
    (hstop : l.stop = x.pc) (hlc : x.lc = 1) : pcNext fv x = { popLoop (fv.setWidth 16) x with pc := x.pc + 1 } := by
  simp [pcNext, h, hstop, hlc]

/-- Settles O18: what `loopStep` makes of a count, and what the fetch of an instruction at a loop end makes of LC. -/
theorem loops : Obligations.Loops := by
  refine ⟨fun s e stop hready hlow hfresh hpc => ?begin, fun s e l ls hmay hloops hstop hpc => ?finish⟩
  case begin =>
    intro x after
    have hafter (n : BitVec 16) {f : BitVec 16 → Engine → Eff} (hf : f (lcFree (atIssue s e)) x = loopStep n stop x) :
        after n (engFlow s e f) := by
      have hend : atLoopEnd x = false := hready.2.1
      refine ⟨fun hn => ?skip, fun hn hnone => ?first, fun l ls hn hsome hroom => ?inner⟩
      case skip =>
        exact engFlow_next hready.1 (hf.trans (loopStep_skip hlow hfresh hend hn)) (fun he => toNat_succ_lt (hpc he))
          (lt_irrefl _)
      case first =>
        have hpush : pushLoop x stop n =
            { x with pc := x.pc + 1, lc := n, loops := [{ start := x.pc + 1, stop := stop, count := n }] } := by
          simp [pushLoop, hnone]
        rw [← hpush]
        exact engFlow_next hready.1 (hf.trans (loopStep_push hlow hfresh hend hn (by simp [hnone]))) (pcw hready)
          (by rw [hpush]; simp [x] at hnone; simp [hnone])
      case inner =>
        have hpush : pushLoop x stop n = { x with pc := x.pc + 1, lc := n, loops :=
            { start := x.pc + 1, stop := stop, count := n } :: { l with count := x.lc } :: ls } := by
          simp [pushLoop, hsome]
        rw [← hpush]
        exact engFlow_next hready.1 (hf.trans (loopStep_push hlow hfresh hend hn hroom)) (pcw hready)
          (by rw [hpush]; simp [x] at hsome; simp [hsome])
    exact ⟨fun count => hafter _ (f := fun _ => loopStep (count.setWidth 16) stop) rfl,
      fun n => hafter _ (f := fun _ => loopOf (BitVec.ofNat 6 (8 + n.val)) stop) (loopOf_some (cregValue_p n x)),
      hafter _ (f := fun _ => loopOf 44 stop) rfl⟩
  case finish =>
    intro x five
    have hend : atLoopEnd x = true := atLoopEnd_innermost hloops hstop
    have hcond (c : BitVec 4) {taken : BitVec 16 → Engine → Eff} (hc : condOk c = true) :
        engFlow s e (fun fv => condFlow c (taken fv)) = five :=
      engFlow_fault hmay fun fv => by simp [condFlow, hc, hend, x]
    simp only [exec_bra, exec_call, exec_ret, exec_brx, exec_exit]
    refine ⟨fun hlc => ?again, fun m ms hlc hls => ?pop, fun hlc hls => ?popLast,
      fun c a hc => ⟨hcond c hc, hcond c hc, hcond c hc, hcond c hc, hcond c hc⟩, ?waitf, fun he n => ?waits⟩
    case again =>
      have hnext := pcNext_again (freeVal (atIssue s e)) hloops hstop hlc
      refine ⟨(iff (fetchFree x) freeTaken (jump s e { x with pc := l.start, lc := x.lc - 1 })).freeCtr, ?_⟩
      rw [nop_fetch hmay (fun he => by rw [hnext]; exact (hpc he).1), hnext]
      cases fetchFree (engIn s e) <;> rfl
    case pop =>
      have hnext := pcNext_pop (freeVal (atIssue s e)) hloops hstop hlc
      rw [popLoop_inner _ (by rw [← hls, hloops])] at hnext
      have hfree : fetchFree x = false := by simp [fetchFree, hlc, show x.loops = _ from hloops, hls]
      have hlow : e = weNum → (x.pc + 1).toNat < 4096 := fun he => toNat_succ_lt (hstop ▸ (hpc he).2)
      rw [nop_fetch hmay (fun he => by rw [hnext]; exact hlow he), hnext]
      simp only [x] at hfree
      rw [hfree]
      rfl
    case popLast =>
      have hnext := pcNext_pop (freeVal (atIssue s e)) hloops hstop hlc
      rw [popLoop_last _ (by rw [hloops, hls])] at hnext
      have hfree : fetchFree x = true := by simp [fetchFree, hend, show x.loops = _ from hloops, hls]
      have hlow : e = weNum → (x.pc + 1).toNat < 4096 := fun he => toNat_succ_lt (hstop ▸ (hpc he).2)
      refine ⟨(freeVal (atIssue s e)).setWidth 16, ?_⟩
      rw [nop_fetch hmay (fun he => by rw [hnext]; exact hlow he), hnext]
      simp only [x] at hfree
      rw [hfree]
      rfl
    case waitf =>
      exact engFlow_fault (f := fun _ x => if atLoopEnd x then .flt 5
        else .ok { x with pc := x.pc + 1, run := .waitF, waitfDone := true } []) hmay fun fv => if_pos hend
    case waits => simp [exec, execWaits, hmay, he, five, show atLoopEnd (getEng (drain e s) e) = true from hend]

end Sys2Proof.Machine
end

section
/-!
PROOFS. O19: WAITF, WAITS, SIG and the increment of a semaphore (R80-R82, R108, R109).
-/

namespace Sys2Proof.Machine

open Sys2Proof.Safety

section
variable {s : State} {e : Eng}

theorem drain_of_quiet (h : Quiet (getEng s e)) : drain e s = s := drain_quiet h.1 h.2.1 h.2.2.1 h.2.2.2

theorem waitf_next (h : Ready s e) :
    exec (.waitf e) s = .next (moveOn s e { engIn s e with run := .waitF, waitfDone := true } []) := by
  rw [moveOn_jump s e { engIn s e with run := .waitF, waitfDone := true } rfl]
  exact engFlow_next (f := fun _ x => if atLoopEnd x then .flt 5
    else .ok { x with pc := x.pc + 1, run := .waitF, waitfDone := true } []) h.1
    (if_neg (by simp [show atLoopEnd (engIn s e) = false from h.2.1])) (pcw h) (lt_irrefl _)

/-- R81: WAITS of an engine that has semaphores, off a loop end. -/
theorem waits_next (h : Ready s e) (he : e ≠ weNum) (sem : BitVec 5) :
    let x := engIn s e
    let s1 := atIssue s e
    let n : Fin 32 := ⟨sem.toNat, sem.isLt⟩
    exec (.waits e sem) s =
      if s1.core.sems[n] = 0 then .next (moveOn s e { x with run := .waitS n } [])
      else .next (modCore (moveOn s e x []) fun c => { c with sems := vset c.sems n (s1.core.sems[n] - 1) }) := by
  intro x s1 n
  obtain ⟨hmay, hend, -⟩ := h
  obtain ⟨hlt, -⟩ := setEng_lt s x he
  change execWaits e sem s = _
  simp only [execWaits, hmay, if_true, if_neg he, show atLoopEnd (getEng (drain e s) e) = false from hend,
    Bool.false_eq_true, if_false, engCommit, engPlace, moveOn, markStores_nil]
  split
  · rfl
  · simp [setEng, modCore, hlt, s1, x, n]

theorem sig_next (h : Ready s e) (he : e ≠ weNum) (hquiet : Quiet (getEng s e)) (n : BitVec 5) :
    exec (.sig e n) s = .next (moveOn s e
      { engIn s e with sigq := [{ sem := ⟨n.toNat, n.isLt⟩, dAhead := 0, fAhead := 0 }] } []) := by
  have hsame : drain e s = s := drain_of_quiet hquiet
  obtain ⟨hmay, hend, hpc⟩ := h
  obtain ⟨hdq, hfq, -, hsig⟩ := hquiet
  simp only [atIssue, hsame] at hend hpc
  change execSig e n s = _
  rw [execSig, engIssue_next hmay hend hpc (by simp only [he, if_false, hdq, hfq, hsig, dlyWrites, fabWrites]; rfl)]
  simp [moveOn, engIn, hsame, hdq, hfq]
end

/-! The increment of a semaphore (R81, R82). -/

/-- R82: one service of the waiting engines, in the order of their numbers. -/
abbrev served (n : Fin 32) (c : CoreSt) : CoreSt := serveWaiting n (List.finRange 25) c

theorem served_none {n : Fin 32} {c : CoreSt} (h : ∀ i : Fin 25, c.eng[i].run ≠ .waitS n) : served n c = c :=
  serve_none n _ c fun i _ => h i

theorem served_one {n : Fin 32} {i : Fin 25} {c : CoreSt} (hwait : c.eng[i].run = .waitS n)
    (hothers : ∀ j : Fin 25, j ≠ i → c.eng[j].run ≠ .waitS n) (hcount : c.sems[n] ≠ 0) :
    served n c = { c with sems := vset c.sems n (c.sems[n] - 1), eng := vmod c.eng i fun y => { y with run := .running } } :=
  serve_one n i _ c (List.nodup_finRange 25) (List.mem_finRange i) hwait (fun j _ => hothers j) hcount

/-- R81: below 255 the count rises, and the waiting engines are served. -/
theorem semSignal_below {n : Fin 32} {s : State} (h : s.core.sems[n] ≠ 255) :
    semSignal n s = modCore s fun c => served n { c with sems := vset c.sems n (c.sems[n] + 1) } := if_neg h

/-- R81: at 255 the count stays, and the event is raised. -/
theorem semSignal_full {n : Fin 32} {s : State} (h : s.core.sems[n] = 255) :
    semSignal n s = raiseLimited 20 0 n.val none (modCore s (served n)) := if_pos h

/-- R108: an increment that waits for nothing takes effect. -/
theorem applySigs_one {s : State} {e : Eng} {g : SigReq} (hq : (getEng s e).sigq = [g]) (hd : g.dAhead = 0) (hf : g.fAhead = 0) :
    applySigs e s = semSignal g.sem (setEng s e { getEng s e with sigq := [] }) := by
  simp [applySigs, hq, hd, hf]

/-- What the core's engines do stands while an engine's increments leave its queue. -/
theorem run_setEng_sigq {s : State} {e : Eng} (q : List SigReq) (i : Fin 25) :
    ((setEng s e { getEng s e with sigq := q }).core.eng[i]).run = (s.core.eng[i]).run := by
  unfold setEng
  split
  case isTrue hlt =>
    rw [Fin.getElem_fin, Vector.getElem_set]
    split
    case isTrue heq => simp [getEng, heq]
    case isFalse => rfl
  case isFalse => rfl

theorem sems_setEng (s : State) (e : Eng) (x : Engine) : (setEng s e x).core.sems = s.core.sems := by
  unfold setEng
  split <;> rfl

/-- Settles O19: the instructions by what they issue, an increment by whether the count is full and an engine waits. -/
theorem semaphores : Obligations.Semaphores := by
  refine ⟨fun s e hready => ⟨waitf_next hready, fun n he => ⟨fun hzero => ?wait, fun hcount => ?take⟩,
    fun n he hquiet => sig_next hready he hquiet n⟩, fun s e g hreset hrun he hq hd hf => ?apply⟩
  case wait => exact (waits_next hready he n).trans (if_pos hzero)
  case take => exact (waits_next hready he n).trans (if_neg hcount)
  case apply =>
    intro s1 n
    have hsems : s1.core.sems = s.core.sems := sems_setEng s e _
    have hexec : exec (.sigApply e) s = .next (settle (semSignal n s1)) := by
      change execSigApply e s = _
      rw [execSigApply, act_eq _ hreset, if_pos (by simp [he, hrun]), applySigs_one hq hd hf]
    have hidle (hnone : ∀ i : Fin 25, s.core.eng[i].run ≠ .waitS n) (m : Vector (BitVec 8) 32) :
        served n { s1.core with sems := m } = { s1.core with sems := m } :=
      served_none fun i => by rw [run_setEng_sigq]; exact hnone i
    refine ⟨fun hnone hcount => ?rise, fun hnone hfull => ?full, fun i hwait hothers hzero => ?release⟩
    case rise =>
      rw [hexec, semSignal_below (by rwa [hsems])]
      simp only [modCore, hidle hnone, hsems]
    case full =>
      rw [hexec, semSignal_full (by rwa [hsems])]
      simp only [modCore]
      rw [hidle hnone s1.core.sems]
    case release =>
      have hone : s1.core.sems[n] = 0 := by rw [hsems]; exact hzero
      rw [hexec, semSignal_below (by rw [hone]; decide)]
      simp only [modCore]
      rw [served_one (c := { s1.core with sems := vset s1.core.sems n (s1.core.sems[n] + 1) }) hwait hothers (by simp [hone])]
      simp [hone, vset]

end Sys2Proof.Machine
end

section
/-!
PROOFS. O20: the faults of instructions (R128), each from the check of its operation that fails; and O21: what an engine fault
does (R83, R132).
-/

namespace Sys2Proof.Machine

open Sys2Proof.Safety

/-! Parallel arithmetic (R92-R94). -/

theorem paStep_illegal {op : Sys2Proof.Acc → Sys2Proof.Acc → Alu} {src : Option Sys2Proof.Acc} {d : BitVec 2} {mv : Moves}
    (h : src = none ∨ movesOk mv = false) (x : Engine) : paStep op src d mv x = .flt 3 := by
  obtain rfl | hmv := h
  · rfl
  · cases src <;> simp [paStep, hmv]

/-- R93: S from 10 names no pair. -/
theorem pairOf_none {sel : BitVec 4} (h : 10 ≤ sel.toNat) (x : Engine) : pairOf x sel = none := by
  unfold pairOf
  split <;> first | omega | rfl

/-- R94: S from 8 names no source. -/
theorem srcOf_none {sel : BitVec 4} (h : 8 ≤ sel.toNat) (x : Engine) : srcOf x sel = none := by
  rw [srcOf, if_neg (by omega), if_neg (by omega)]

section
variable {op : Sys2Proof.Acc → Sys2Proof.Acc → Alu} {d : BitVec 2} {sel : BitVec 4} {mv : Moves}

theorem paMul_illegal (h : 10 ≤ sel.toNat ∨ movesOk mv = false) (x : Engine) : paMul op d sel mv x = .flt 3 :=
  paStep_illegal (h.imp_left fun hsel => by rw [pairOf_none hsel]; rfl) x

theorem paAlu_illegal (h : 8 ≤ sel.toNat ∨ movesOk mv = false) (x : Engine) : paAlu op d sel mv x = .flt 3 :=
  paStep_illegal (h.imp_left fun hsel => srcOf_none hsel x) x

theorem paNone_illegal (h : sel ≠ 0 ∨ movesOk mv = false) (x : Engine) : paNone op d sel mv x = .flt 3 :=
  paStep_illegal (h.imp_left fun hsel => if_neg hsel) x
end

/-! Flow (R111-R113). -/

theorem condFlow_illegal {c : BitVec 4} (h : condOk c = false) (taken : Engine → Eff) (x : Engine) :
    condFlow c taken x = .flt 3 := by simp [condFlow, h]

/-- R77: a loop that would end at its start or above is illegal. -/
theorem loopStep_backward {x : Engine} {stop : BitVec 13} (h : stop.toNat ≤ x.pc.toNat) (n : BitVec 16) :
    loopStep n stop x = .flt 3 := by simp [loopStep, h]

/-! SYS (R121, R122). -/

/-- R121, R128: a SYS whose fields are illegal, or on an engine other than SV. -/
theorem sysRun_fault {s : State} {e : Eng} (hmay : engMay s e = true) {fn : Nat} {localFn : Bool} {ra : BitVec 3} {imm : BitVec 16}
    {f : Engine → State → SysAns} {m : BitVec 16} {k : RaKind} {c : Nat} (hinfo : sysInfo fn = some (m, k))
    (hfault : sysFault e m k ra imm = some c) :
    sysRun fn localFn e ra imm s f = .next (settle (engFault e c (atIssue s e))) := by
  simp [sysRun, hmay, hinfo, hfault]

theorem sysFault_engine {e : Eng} (he : e ≠ sv) {m : BitVec 16} {k : RaKind} {ra : BitVec 3} (hra : raOk k ra = true) :
    sysFault e m k ra 0 = some 4 := by simp [sysFault, hra, he]

theorem sysFault_imm (e : Eng) {imm : BitVec 16} (himm : imm ≠ 0) (k : RaKind) (ra : BitVec 3) :
    sysFault e 0 k ra imm = some 1 := by
  have hmask : imm &&& ~~~(0 : BitVec 16) = imm := BitVec.and_allOnes
  rw [sysFault, hmask, if_pos himm]

theorem sysFault_ra (e : Eng) {k : RaKind} {ra : BitVec 3} (hra : raOk k ra = false) : sysFault e 0 k ra 0 = some 3 := by
  simp [sysFault, hra]

/-- Settles O20: each fault from the check that finds it. -/
theorem instructionFaults : Obligations.InstructionFaults := by
  refine ⟨fun s e hmay => ?fields, fun s e hmay hend => ?limits, fun s e hmay => ?sys⟩
  case fields =>
    intro halt
    have hrun {f : Engine → Eff} {n : Nat} (hf : ∀ x, f x = .flt n) : engRun s e f = halt n :=
      engRun_fault hmay fun _ => hf _
    have hflow {f : BitVec 16 → Engine → Eff} {n : Nat} (hf : ∀ fv, f fv (engIn s e) = .flt n) : engFlow s e f = halt n :=
      engFlow_fault hmay hf
    refine ⟨fun w c hcause => ?word, fun d sel mv h => ?mul, fun d sel mv h => ?alu, fun d sel mv h => ?bare,
      fun dst src h => ?mov, fun dst imm h => ?ldi, fun dst imm h => ?addi, fun d src k => ⟨?lsh, fun h => ?cls⟩,
      fun c a h => ?cond, fun n stop h => ?loop, fun n he => ⟨?sig, ?waits⟩⟩
    case word =>
      change execIllegalInstruction e w s = _
      rw [execIllegalInstruction, hcause]
      exact hrun fun _ => rfl
    case mul =>
      have hmul (op) : engRun s e (paMul op d sel mv) = halt 3 := hrun (paMul_illegal h)
      exact ⟨hmul _, hmul _, hmul _, hmul _, hmul _, hmul _⟩
    case alu =>
      have halu (op) : engRun s e (paAlu op d sel mv) = halt 3 := hrun (paAlu_illegal h)
      exact ⟨halu _, halu _, halu _, halu _, halu _, halu _⟩
    case bare =>
      have hbare (op) : engRun s e (paNone op d sel mv) = halt 3 := hrun (paNone_illegal h)
      exact ⟨hbare _, hbare _⟩
    case mov =>
      exact hrun (f := fun x => if regOk dst && regOk src then .ok (regMove x dst src) [] else .flt 3)
        fun _ => if_neg (by rcases h with h | h <;> simp [h])
    case ldi =>
      exact hrun (f := fun x => if regOk dst && 4 ≤ dst.toNat then .ok (regWrite x dst imm.toInt) [] else .flt 3)
        fun _ => if_neg (by rcases h with h | h <;> simp [h])
    case addi =>
      exact hrun fun x => addImm_illegal imm x
        (h.imp_right fun h => h.imp_right fun ⟨hlow, hne⟩ => ⟨hlow, fun heq => hne (heq ▸ rfl)⟩)
    case lsh =>
      exact hrun (f := fun x => if true then .flt 3 else .ok (applyAlu x (ix2 d) (aluLsh x.acc[ix2 src] k.toInt)) [])
        fun _ => rfl
    case cls =>
      exact hrun (f := fun x => if false || d ≠ 0 || k ≠ 0 then .flt 3
        else .ok { x with ix := BitVec.ofNat 16 (signRun x.acc[ix2 src] 55) } []) fun _ => if_pos (by simpa using h)
    case cond =>
      have hcond (taken : BitVec 16 → Engine → Eff) : engFlow s e (fun fv => condFlow c (taken fv)) = halt 3 :=
        hflow fun _ => condFlow_illegal h _ _
      exact ⟨hcond fun _ => branchTo a, hcond fun _ => callTo a, hcond fun _ => returnOf, hcond exitOf,
        hcond fun _ x => branchTo (a + x.ixAg.setWidth 13) x⟩
    case loop => exact hflow (f := fun _ => loopStep (n.setWidth 16) stop) fun _ => loopStep_backward h _
    case sig =>
      change execSig e n s = _
      rw [execSig, engIssue, if_pos hmay]
      simp [he, halt]
    case waits =>
      change execWaits e n s = _
      rw [execWaits, if_pos hmay]
      simp [he, halt]
  case limits =>
    intro x halt
    refine ⟨fun c a hc hcond => ?cond, fun n stop hlow hfresh hn hfull => ?loop⟩
    case cond =>
      have hflow {taken : BitVec 16 → Engine → Eff} {n : Nat} (htaken : ∀ fv, taken fv x = .flt n) :
          engFlow s e (fun fv => condFlow c (taken fv)) = halt n :=
        engFlow_fault hmay fun fv => (condFlow_on hc hend hcond).trans (htaken fv)
      exact ⟨fun h => hflow (taken := fun _ => callTo a) fun _ => callTo_full a h,
        fun h => hflow (taken := fun _ => returnOf) fun _ => returnOf_empty h,
        fun h => hflow (taken := exitOf) fun fv => exitOf_none fv h⟩
    case loop =>
      have hcount : n.setWidth 16 ≠ 0 := by bv_omega
      exact engFlow_fault (f := fun _ => loopStep (n.setWidth 16) stop) hmay
        fun _ => loopStep_full hlow hfresh hend hcount hfull
  case sys =>
    intro halt
    simp only [exec]
    refine ⟨fun he => ?engine, fun ra imm himm => ⟨?wdogImm, ?rdframeImm⟩, fun ra hra => ?wdogRa, fun ra hra => ?rdframeRa⟩
    case engine =>
      exact ⟨sysRun_fault hmay rfl (sysFault_engine he rfl), sysRun_fault hmay rfl (sysFault_engine he rfl),
        sysRun_fault hmay rfl (sysFault_engine he rfl), sysRun_fault hmay rfl (sysFault_engine he rfl),
        sysRun_fault hmay rfl (sysFault_engine he rfl), sysRun_fault hmay rfl (sysFault_engine he rfl)⟩
    case wdogImm => exact sysRun_fault hmay rfl (sysFault_imm e himm _ _)
    case rdframeImm => exact sysRun_fault hmay rfl (sysFault_imm e himm _ _)
    case wdogRa => exact sysRun_fault hmay rfl (sysFault_ra e (decide_eq_false hra))
    case rdframeRa => exact sysRun_fault hmay rfl (sysFault_ra e (decide_eq_false (not_le.2 hra)))

/-! What an engine fault does (R83, R132). -/

/-- R132: the end of a control program stops the signal engines that run, or that are about to start. -/
theorem stopControl_control {s : State} (h : s.core.prog = .control) :
    (stopControl s).core.svStop = true ∧ (stopControl s).core.load = {} ∧
      ∀ i : Fin 25, (stopControl s).core.eng[i] =
        if i.val < 24 && (engRuns s.core.eng[i] || s.core.eng[i].run == .starting) then { s.core.eng[i] with run := .stopped }
        else s.core.eng[i] := by
  simp only [stopControl, h, beq_self_eq_true, if_true]
  exact ⟨trivial, trivial, fun i => by rw [vmap_get_fin]⟩

/-- The engines after the control program's own engine has halted. -/
theorem eng_setEng_sv (s : State) (x : Engine) (i : Fin 25) :
    (setEng s sv x).core.eng[i] = if i.val = 24 then x else s.core.eng[i] := by
  change (s.core.eng.set 24 x)[i.val] = _
  rw [Vector.getElem_set]
  simp only [eq_comm (a := 24)]
  rfl

/-- Settles O21: the engine halts; of the wake engine and of SV more ends with it. -/
theorem engineFaults : Obligations.EngineFaults := by
  intro s e c x s1
  have hside : 2 ^ 22 * (sideIx s.arb.active).val = if s.arb.active = .b then 2 ^ 22 else 0 := by
    cases s.arb.active <;> rfl
  refine ⟨fun he => ?core, fun he => ?wake, fun he hprog => ?sv⟩
  case core =>
    have hwe : e ≠ weNum := fun h => by simp [h, weNum] at he
    have hsv : e ≠ sv := fun h => by simp [h, sv] at he
    simp only [engFault, if_neg hwe, if_neg hsv, hside]
    rfl
  case wake => subst he; rfl
  case sv =>
    subst he
    let s2 := raiseEv 17 (sv.val + 32 * c + 512 * x.pc.toNat + 2 ^ 22 * (sideIx s.arb.active).val) s1
    have hfault : engFault sv c s = stopControl s2 := rfl
    have hcontrol : s2.core.prog = .control := hprog
    obtain ⟨hstop, hload, heng⟩ := stopControl_control hcontrol
    have heng0 (i : Fin 25) : s2.core.eng[i] = if i.val = 24 then { x with run := .halted } else s.core.eng[i] :=
      eng_setEng_sv s _ i
    rw [hfault]
    refine ⟨hstop, ?halted, hload, fun i hi => ⟨fun hruns => ?stopped, fun hhalted => ?stays⟩⟩
    case halted =>
      have hafter : (stopControl s2).core.eng[(24 : Fin 25)] = { x with run := .halted } :=
        (heng 24).trans ((if_neg (Bool.false_ne_true)).trans ((heng0 24).trans (if_pos rfl)))
      exact congrArg Engine.run hafter
    case stopped =>
      have hi0 := heng0 i
      rw [if_neg hi.ne] at hi0
      rw [heng i, hi0, if_pos (by rw [hruns, Bool.true_or, Bool.and_true, decide_eq_true hi])]
    case stays =>
      have hi0 := heng0 i
      rw [if_neg hi.ne] at hi0
      have hidle : (engRuns s.core.eng[i] || s.core.eng[i].run == .starting) = false := by rw [engRuns, hhalted]; rfl
      rw [heng i, hi0, if_neg (by rw [hidle, Bool.and_false]; exact Bool.false_ne_true)]

end Sys2Proof.Machine
end

section
/-!
PROOFS. O22: the issue of delay and fabric accesses (R71, R116-R119, R127, R141). With nothing in flight of the engine there is
nothing to arrive first, so an access issues from the state it finds.
-/

namespace Sys2Proof.Machine

open Sys2Proof.Safety

/-! What the fields select. -/

section
variable {x : Engine} {k : Fin 4} {dm : BitVec 2} {ofs : BitVec 16}

/-- R119: the three ways in which a pointer and an offset give an address. -/
theorem dm_cases (h : dm ≠ 3) : dm = 0 ∨ dm = 1 ∨ dm = 2 := by bv_omega

theorem dlyAddr_addr (h : dm ≠ 3) : (dlyAddr x k dm ofs).1 = if dm = 1 then x.dp[k] else dadvance x k ofs.toInt := by
  obtain rfl | rfl | rfl := dm_cases h <;> rfl

theorem dlyAddr_ptr (h : dm ≠ 3) : (dlyAddr x k dm ofs).2 = if dm = 0 then x.dp[k] else dadvance x k ofs.toInt := by
  obtain rfl | rfl | rfl := dm_cases h <;> rfl
end

/-- R116: an address stage moves data pointers alone. -/
theorem locAdvance_dvLate (x : Engine) (loc : BitVec 3) (pq : BitVec 2) :
    locAdvance { x with dvLate := false } loc pq = { locAdvance x loc pq with dvLate := false } := by
  unfold locAdvance
  split <;> rfl

/-- What the address stage leaves unchanged. -/
theorem locAdvance_rest (x : Engine) (loc : BitVec 3) (pq : BitVec 2) :
    ∃ p, locAdvance x loc pq = { x with p := p } := by
  unfold locAdvance
  split
  · exact ⟨_, rfl⟩
  · exact ⟨x.p, rfl⟩

/-- What a location holds does not depend on a late violation. -/
theorem locSample_dvLate (x : Engine) (l : Loc) : locSample { x with dvLate := false } l = locSample x l := by
  cases l <;> rfl

theorem locDelay_dvLate (x : Engine) (l : Loc) : locDelay { x with dvLate := false } l = locDelay x l := by
  cases l <;> rfl

/-- R71, R259: what a read and a write may reach. -/
theorem inWindow_read (x : Engine) (a : BitVec 21) :
    inWindow x a false = true ↔ 0x1FFF80 ≤ a.toNat ∨ x.winBase ≤ a.toNat ∧ a.toNat < x.winBase + x.winLen := by
  unfold inWindow inScanMirror
  by_cases h : 0x1FFF80 ≤ a.toNat <;> simp [h]

theorem inWindow_write (x : Engine) (a : BitVec 21) :
    inWindow x a true = true ↔ ¬ 0x1FFF80 ≤ a.toNat ∧ x.winBase ≤ a.toNat ∧ a.toNat < x.winBase + x.winLen := by
  unfold inWindow inScanMirror
  by_cases h : 0x1FFF80 ≤ a.toNat <;> simp [h]

/-! With nothing in flight there is room at once. -/

section
variable {s : State} {e : Eng} (hquiet : Quiet (getEng s e))
include hquiet

theorem sysDone_of_quiet : sysDone e s = s := by
  obtain ⟨-, -, hsys, -⟩ := hquiet
  by_cases he : e = sv
  · subst he
    have hnone : deliverSys s = s := by simp [deliverSys, hsys]
    simp [sysDone, times, hnone]
  · simp [sysDone, he, times]

theorem roomDly_of_quiet : roomDly e s = s := by
  have hdone := sysDone_of_quiet hquiet
  obtain ⟨hdq, hfq, -, -⟩ := hquiet
  simp [roomDly, hdq, hfq, times, hdone]

theorem roomFab_of_quiet : roomFab e s = s := by
  have hdone := sysDone_of_quiet hquiet
  obtain ⟨hdq, hfq, -, -⟩ := hquiet
  simp [roomFab, hdq, hfq, times, hdone]
end

/-- R403: the payload of a limited event of an engine names its core. -/
theorem engEvent_eq (src : Nat) (e : Eng) (t : State) :
    engEvent src e t = raiseLimited src (e.val + (if t.arb.active = .b then 32 else 0)) e.val none t := by
  have hside : 32 * (sideIx t.arb.active).val = if t.arb.active = .b then 32 else 0 := by cases t.arb.active <;> rfl
  rw [engEvent, hside]

/-- The issue of an access that succeeds. -/
theorem issued_none (e : Eng) (o : Out) : issued none e o = o := rfl

/-- The issue of an access that fails. -/
theorem issued_some (ev : Nat) (e : Eng) (t : State) : issued (some ev) e (.next t) = .next (settle (engEvent ev e t)) := rfl

/-! Delay accesses. -/

/-- The engine after the address stage of a delay access that issues. -/
def dlyMoved (x : Engine) (loc : BitVec 3) (pq k dm : BitVec 2) (ofs : BitVec 16) : Engine :=
  { locAdvance x loc pq with
    dp := vset x.dp (ix2 k) (dlyAddr x (ix2 k) dm ofs).2, pc := x.pc + 1, ixAg := x.ix, dvLate := false }

theorem dlyAg_eq (x : Engine) (loc : BitVec 3) (pq : BitVec 2) (k : Fin 4) (dm : BitVec 2) (ofs : BitVec 16) :
    dlyAg { x with dvLate := false } loc pq k dm ofs =
      { locAdvance x loc pq with dp := vset x.dp k (dlyAddr x k dm ofs).2, dvLate := false } := by
  obtain ⟨p, hp⟩ := locAdvance_rest x loc pq
  have haddr : dlyAddr { x with dvLate := false } k dm ofs = dlyAddr x k dm ofs := rfl
  simp only [dlyAg, locAdvance_dvLate, haddr, hp]

/-- DLR on the engine `x`, with whether its address may be read and the free bit of a violation. -/
def dlrEff (loc : BitVec 3) (pq k dm : BitVec 2) (ofs : BitVec 16) (a : BitVec 21) (ok late : Bool) (x : Engine) : Eff :=
  if !dlyOk loc pq dm then .flt 3
  else
    let y := dlyAg x loc pq (ix2 k) dm ofs
    let dst := locOf x loc pq
    if ok then .ok { y with dq := y.dq ++ [.read a dst] } []
    else .ok (violate late { y with dq := y.dq ++ [.zero dst] }) []

/-- DLW likewise. -/
def dlwEff (loc : BitVec 3) (pq k dm : BitVec 2) (ofs : BitVec 16) (a : BitVec 21) (ok late : Bool) (x : Engine) : Eff :=
  if !dlyOk loc pq dm then .flt 3
  else
    let v := locDelay x (locOf x loc pq)
    let y0 := dlyAg x loc pq (ix2 k) dm ofs
    let y := { y0 with fs := y0.fs || v.2 }
    if ok then .ok { y with dq := y.dq ++ [.write a v.1] } []
    else .ok (violate late y) []

section
variable {s : State} {e : Eng} {loc : BitVec 3} {pq k dm : BitVec 2} {ofs : BitVec 16}

theorem exec_dlr (hmay : engMay s e = true) (hquiet : Quiet (getEng s e)) (hfields : dlyOk loc pq dm = true) {a : BitVec 21}
    {ok : Bool} (ha : a = (dlyAddr (getEng s e) (ix2 k) dm ofs).1) (hok : ok = (e = weNum || inWindow (getEng s e) a false)) :
    exec (.dlr e loc pq k dm ofs) s = issued (if !ok then some 18 else none) e
      (engIssue (violTaken (!ok) s) e (dlrEff loc pq k dm ofs a ok (lateBit s))) := by
  subst ha hok
  change execDlr e loc pq k dm ofs s = _
  rw [execDlr, if_pos hmay, roomDly_of_quiet hquiet]
  simp only [show ∀ b, (dlyOk loc pq dm && b) = b from fun b => by rw [hfields, Bool.true_and]]
  rfl

theorem exec_dlw (hmay : engMay s e = true) (hquiet : Quiet (getEng s e)) (hfields : dlyOk loc pq dm = true) {a : BitVec 21}
    {ok : Bool} (ha : a = (dlyAddr (getEng s e) (ix2 k) dm ofs).1) (hok : ok = (e ≠ weNum && inWindow (getEng s e) a true)) :
    exec (.dlw e loc pq k dm ofs) s = issued (if !ok && e ≠ weNum then some 18 else none) e
      (engIssue (violTaken (!ok) s) e (dlwEff loc pq k dm ofs a ok (lateBit s))) := by
  subst ha hok
  change execDlw e loc pq k dm ofs s = _
  rw [execDlw, if_pos hmay, drain_of_quiet hquiet]
  simp only [show ∀ b, (dlyOk loc pq dm && b) = b from fun b => by rw [hfields, Bool.true_and]]
  rfl

variable (hready : Ready s e) (hquiet : Quiet (getEng s e)) (hfields : dlyOk loc pq dm = true)
include hready hquiet hfields

/-- DLR: the access succeeds, and its request waits; or it sets DV and a zero waits. -/
theorem dlr_next :
    let x := getEng s e
    let a := (dlyAddr x (ix2 k) dm ofs).1
    let y := dlyMoved x loc pq k dm ofs
    let dst := locOf x loc pq
    (e = weNum ∨ inWindow x a false = true →
      exec (.dlr e loc pq k dm ofs) s = .next (setEng s e { y with dq := [.read a dst] })) ∧
    (e ≠ weNum → inWindow x a false = false → exec (.dlr e loc pq k dm ofs) s = .next (settle (engEvent 18 e
      (setEng (freeTaken s) e { y with dq := [.zero dst], fdv := true, dvLate := lateBit s })))) := by
  intro x a y dst
  obtain ⟨hmay, hend, hpc⟩ := hready
  simp only [atIssue, drain_of_quiet hquiet] at hend hpc
  have hdq : (dlyAg { x with dvLate := false } loc pq (ix2 k) dm ofs).dq = [] := by
    obtain ⟨p, hp⟩ := locAdvance_rest x loc pq
    rw [dlyAg_eq, hp]
    exact hquiet.1
  refine ⟨fun hok => ?read, fun he hout => ?zero⟩
  case read =>
    have hf : dlrEff loc pq k dm ofs a true (lateBit s) { x with dvLate := false } =
        .ok { y with dq := [.read a dst], pc := (locAdvance x loc pq).pc, ixAg := (locAdvance x loc pq).ixAg } [] := by
      simp only [dlrEff, hfields, Bool.not_true, Bool.false_eq_true, if_false, if_true, hdq]
      rw [dlyAg_eq]
      rfl
    rw [exec_dlr hmay hquiet hfields rfl (ok := true) (by simpa [x, a] using hok)]
    exact (issued_none e _).trans (engIssue_next hmay hend hpc hf)
  case zero =>
    have hf : dlrEff loc pq k dm ofs a false (lateBit s) { x with dvLate := false } =
        .ok { y with dq := [.zero dst], fdv := true, dvLate := lateBit s, pc := (locAdvance x loc pq).pc,
                     ixAg := (locAdvance x loc pq).ixAg } [] := by
      simp only [dlrEff, hfields, Bool.not_true, Bool.false_eq_true, if_false, hdq, violate]
      rw [dlyAg_eq]
      rfl
    rw [exec_dlr hmay hquiet hfields rfl (ok := false) (by simp [he, x, a, hout])]
    have hissue := engIssue_next (s := freeTaken s) hmay hend hpc hf
    simp only [Bool.not_false, if_true, violTaken]
    rw [hissue]
    rfl

/-- DLW: the access succeeds, and its request waits; or it is discarded and sets DV, on WE without an event. -/
theorem dlw_next :
    let x := getEng s e
    let a := (dlyAddr x (ix2 k) dm ofs).1
    let v := locDelay x (locOf x loc pq)
    let y : Engine := { dlyMoved x loc pq k dm ofs with fs := x.fs || v.2 }
    let t := setEng (freeTaken s) e { y with fdv := true, dvLate := lateBit s }
    (e ≠ weNum → inWindow x a true = true →
      exec (.dlw e loc pq k dm ofs) s = .next (setEng s e { y with dq := [.write a v.1] })) ∧
    (e ≠ weNum → inWindow x a true = false → exec (.dlw e loc pq k dm ofs) s = .next (settle (engEvent 18 e t))) ∧
    (e = weNum → exec (.dlw e loc pq k dm ofs) s = .next t) := by
  intro x a v y t
  obtain ⟨hmay, hend, hpc⟩ := hready
  simp only [atIssue, drain_of_quiet hquiet] at hend hpc
  have hag : (dlyAg { x with dvLate := false } loc pq (ix2 k) dm ofs).dq = [] ∧
      (dlyAg { x with dvLate := false } loc pq (ix2 k) dm ofs).fs = x.fs := by
    obtain ⟨p, hp⟩ := locAdvance_rest x loc pq
    rw [dlyAg_eq, hp]
    exact ⟨hquiet.1, rfl⟩
  have hv : locDelay { x with dvLate := false } (locOf { x with dvLate := false } loc pq) = v := locDelay_dvLate x _
  have hout : dlwEff loc pq k dm ofs a false (lateBit s) { x with dvLate := false } =
      .ok { y with fdv := true, dvLate := lateBit s, pc := (locAdvance x loc pq).pc, ixAg := (locAdvance x loc pq).ixAg } [] := by
    simp only [dlwEff, hfields, Bool.not_true, Bool.false_eq_true, if_false, hag.2, hv, violate]
    rw [dlyAg_eq]
    rfl
  have hissue := engIssue_next (s := freeTaken s) hmay hend hpc hout
  refine ⟨fun he hin => ?write, fun he hin => ?discarded, fun he => ?wake⟩
  case write =>
    have hf : dlwEff loc pq k dm ofs a true (lateBit s) { x with dvLate := false } =
        .ok { y with dq := [.write a v.1], pc := (locAdvance x loc pq).pc, ixAg := (locAdvance x loc pq).ixAg } [] := by
      simp only [dlwEff, hfields, Bool.not_true, Bool.false_eq_true, if_false, if_true, hag.1, hag.2, hv]
      rw [dlyAg_eq]
      rfl
    rw [exec_dlw hmay hquiet hfields rfl (ok := true) (by simp [he, x, a, hin])]
    exact (issued_none e _).trans (engIssue_next hmay hend hpc hf)
  case discarded =>
    rw [exec_dlw hmay hquiet hfields rfl (ok := false) (by simp [x, a, hin])]
    simp only [Bool.not_false, Bool.true_and, he, ne_eq, not_false_eq_true, decide_true, if_true, violTaken]
    rw [hissue]
    rfl
  case wake =>
    rw [exec_dlw hmay hquiet hfields rfl (ok := false) (by simp [he])]
    simp only [Bool.not_false, Bool.true_and, he, ne_eq, not_true_eq_false, decide_false, Bool.false_eq_true, if_false,
      if_true, violTaken]
    subst he
    exact hissue
end

/-! Fabric accesses (R117, R118). -/

/-- FRD on the engine `x`, with whether its access succeeds. -/
def frdEff (e : Eng) (loc : BitVec 3) (pq : BitVec 2) (ixa : Bool) (slot : BitVec 10) (j : Nat) (good : Bool) (x : Engine) : Eff :=
  if !fabOk loc pq ixa slot then .flt 3
  else if e = weNum then .flt 4
  else
    let dst := locOf x loc pq
    let y := locAdvance x loc pq
    .ok { y with fq := y.fq ++ [if good then .read slot.toNat j dst else .zero dst] } []

/-- FWR likewise. -/
def fwrEff (e : Eng) (loc : BitVec 3) (pq : BitVec 2) (ixa : Bool) (slot : BitVec 10) (j : Nat) (good : Bool) (x : Engine) : Eff :=
  if !fabOk loc pq ixa slot then .flt 3
  else if e = weNum then .flt 4
  else
    let v := locSample x (locOf x loc pq)
    let y0 := locAdvance x loc pq
    let y := { y0 with fs := y0.fs || v.2 }
    .ok (if good then { y with fq := y.fq ++ [.write slot.toNat j v.1] } else y) []

/-- R47, R118: what follows an access: the ignored item of degraded mode, or the event of one that failed. -/
def afterFabric (deg good : Bool) (e : Eng) (t : State) : State :=
  if deg then settle (ignoreCore 15 0 t) else if good then t else settle (engEvent 19 e t)

theorem fabFailed_next (deg good : Bool) (e : Eng) (t : State) :
    fabFailed deg (!(good && !deg)) e (.next t) = .next (afterFabric deg (good && !deg) e t) := by
  cases deg <;> cases good <;> rfl

/-- The engine after the address stage of a fabric access that issues. -/
def fabMoved (x : Engine) (loc : BitVec 3) (pq : BitVec 2) : Engine :=
  { locAdvance x loc pq with pc := x.pc + 1, ixAg := x.ix, dvLate := false }

section
variable {s : State} {e : Eng} {loc : BitVec 3} {pq : BitVec 2} {ixa : Bool} {slot : BitVec 10} {idx : BitVec 8}
  (hready : Ready s e) (hquiet : Quiet (getEng s e)) (hfields : fabOk loc pq ixa slot = true) (he : e ≠ weNum)
include hready hquiet hfields he

theorem frd_next :
    let x := getEng s e
    let j := sampleIx x loc pq ixa idx
    let deg := degradedSlot s slot.toNat
    let good := frdOk s slot.toNat j && !deg
    exec (.frd e loc pq ixa slot idx) s = .next (afterFabric deg good e (setEng s e { fabMoved x loc pq with
      fq := [if good then .read slot.toNat j (locOf x loc pq) else .zero (locOf x loc pq)] })) := by
  intro x j deg good
  obtain ⟨hmay, hend, hpc⟩ := hready
  simp only [atIssue, drain_of_quiet hquiet] at hend hpc
  have hlegal (b : Bool) : (fabOk loc pq ixa slot && decide (e ≠ weNum) && b) = b := by simp [hfields, he]
  have hfq : (locAdvance x loc pq).fq = [] := by
    obtain ⟨p, hp⟩ := locAdvance_rest x loc pq
    rw [hp]
    exact hquiet.2.1
  have hf : frdEff e loc pq ixa slot j good { x with dvLate := false } = .ok { locAdvance x loc pq with
      fq := [if good then .read slot.toNat j (locOf x loc pq) else .zero (locOf x loc pq)], dvLate := false } [] := by
    simp only [frdEff, hfields, he, Bool.not_true, Bool.false_eq_true, if_false, locAdvance_dvLate, hfq]
    rfl
  have hexec : exec (.frd e loc pq ixa slot idx) s = fabFailed deg (!good) e (engIssue s e (frdEff e loc pq ixa slot j good)) := by
    change execFrd e loc pq ixa slot idx s = _
    rw [execFrd, if_pos hmay, roomFab_of_quiet hquiet]
    simp only [hlegal]
    rfl
  rw [hexec, engIssue_next hmay hend hpc hf]
  exact fabFailed_next deg _ e _

theorem fwr_next :
    let x := getEng s e
    let j := sampleIx x loc pq ixa idx
    let deg := degradedSlot s slot.toNat
    let good := fwrOk s e slot.toNat j && !deg
    let v := locSample x (locOf x loc pq)
    let y : Engine := { fabMoved x loc pq with fs := x.fs || v.2 }
    exec (.fwr e loc pq ixa slot idx) s = .next (afterFabric deg good e
      (setEng s e (if good then { y with fq := [.write slot.toNat j v.1] } else y))) := by
  intro x j deg good v y
  obtain ⟨hmay, hend, hpc⟩ := hready
  simp only [atIssue, drain_of_quiet hquiet] at hend hpc
  have hlegal (b : Bool) : (fabOk loc pq ixa slot && decide (e ≠ weNum) && b) = b := by simp [hfields, he]
  have hmoved : (locAdvance x loc pq).fq = [] ∧ (locAdvance x loc pq).fs = x.fs := by
    obtain ⟨p, hp⟩ := locAdvance_rest x loc pq
    rw [hp]
    exact ⟨hquiet.2.1, rfl⟩
  have hv : locSample { x with dvLate := false } (locOf { x with dvLate := false } loc pq) = v := locSample_dvLate x _
  have hf : fwrEff e loc pq ixa slot j good { x with dvLate := false } =
      .ok (let y0 : Engine := { locAdvance x loc pq with fs := x.fs || v.2, dvLate := false }
        if good then { y0 with fq := [.write slot.toNat j v.1] } else y0) [] := by
    simp only [fwrEff, hfields, he, Bool.not_true, Bool.false_eq_true, if_false, locAdvance_dvLate, hmoved, hv]
    rfl
  have hexec : exec (.fwr e loc pq ixa slot idx) s = fabFailed deg (!good) e (engIssue s e (fwrEff e loc pq ixa slot j good)) := by
    change execFwr e loc pq ixa slot idx s = _
    rw [execFwr, if_pos hmay, drain_of_quiet hquiet]
    simp only [hlegal]
    rfl
  rw [hexec, engIssue_next hmay hend hpc hf]
  refine (fabFailed_next deg _ e _).trans ?_
  cases hgood : fwrOk s e slot.toNat j && !deg <;> simp only [good, hgood] <;> rfl
end

/-- Settles O22: an access that succeeds leaves its request, one that fails its event or ignored item. -/
theorem delayAndFabricAccess : Obligations.DelayAndFabricAccess := by
  refine ⟨fun s e loc pq k dm ofs hready hquiet hfields => ?delay,
    fun s e loc pq ixa slot idx hready hquiet hfields he => ?fabric⟩
  case delay =>
    intro x k' a p y z dst v event inside scan
    have hdm : dm ≠ 3 := by
      simp only [dlyOk, Bool.and_eq_true, decide_eq_true_eq] at hfields
      exact hfields.2
    have ha : (dlyAddr x k' dm ofs).1 = a := dlyAddr_addr hdm
    have hy : dlyMoved x loc pq k dm ofs = y := by rw [dlyMoved, dlyAddr_ptr hdm]
    have hevent (t : State) : engEvent 18 e t = event t := engEvent_eq 18 e t
    obtain ⟨hread, hzero⟩ := dlr_next hready hquiet hfields (ofs := ofs) (k := k)
    obtain ⟨hwrite, hdiscard, hwake⟩ := dlw_next hready hquiet hfields (ofs := ofs) (k := k)
    simp only [show (dlyAddr (getEng s e) (ix2 k) dm ofs).1 = a from ha,
      show dlyMoved (getEng s e) loc pq k dm ofs = y from hy, hevent] at hread hzero hwrite hdiscard hwake
    have hrd : inWindow x a false = true ↔ scan ∨ inside := inWindow_read x a
    have hwr : inWindow x a true = true ↔ ¬ scan ∧ inside := inWindow_write x a
    refine ⟨fun h => hread (h.imp_right hrd.2), fun he hs hi => hzero he ?_, fun he hs hi => hwrite he (hwr.2 ⟨hs, hi⟩),
      fun he h => hdiscard he ?_, hwake⟩
    · exact Bool.eq_false_iff.2 fun h => (hrd.1 h).elim hs hi
    · exact Bool.eq_false_iff.2 fun hin => h.elim (hwr.1 hin).1 fun hi => hi (hwr.1 hin).2
  case fabric =>
    intro x j y dst v n there event down
    have hj : sampleIx x loc pq ixa idx = j := by simp only [sampleIx, j, Bool.or_eq_true, decide_eq_true_eq]
    have hevent (t : State) : engEvent 19 e t = event t := engEvent_eq 19 e t
    have hdown : degradedSlot s n = true ↔ down := by simp [degradedSlot, down]
    have hread : frdOk s n j = true ↔ there ∧ isControlSlot n = false := by simp [frdOk, there, and_assoc]
    have hwrite : fwrOk s e n j = true ↔ there ∧ slotWritable e n = true := by simp [fwrOk, there, and_assoc]
    have hfrd := frd_next hready hquiet hfields he (idx := idx)
    have hfwr := fwr_next hready hquiet hfields he (idx := idx)
    simp only [show sampleIx (getEng s e) loc pq ixa idx = j from hj] at hfrd hfwr
    have hnot {p : Prop} {b : Bool} (h : b = true ↔ p) (hp : ¬ p) : b = false := Bool.eq_false_iff.2 fun hb => hp (h.1 hb)
    refine ⟨fun hd ht hc => ?read, fun hd ht => ?zero, fun hd => ?readDown, fun hd ht hw => ?write, fun hd ht => ?refused,
      fun hd => ?writeDown⟩
    case read =>
      rw [hfrd, hnot hdown hd, hread.2 ⟨ht, hc⟩]
      rfl
    case zero =>
      rw [hfrd, hnot hdown hd, hnot hread fun h => ht.elim (· h.1) (by simp [h.2])]
      exact congrArg (fun t => Host.Outcome.next (settle t)) (hevent _)
    case readDown =>
      rw [hfrd, hdown.2 hd, Bool.not_true, Bool.and_false]
      rfl
    case write =>
      rw [hfwr, hnot hdown hd, hwrite.2 ⟨ht, hw⟩]
      rfl
    case refused =>
      rw [hfwr, hnot hdown hd, hnot hwrite fun h => ht.elim (· h.1) (by simp [h.2])]
      exact congrArg (fun t => Host.Outcome.next (settle t)) (hevent _)
    case writeDown =>
      rw [hfwr, hdown.2 hd, Bool.not_true, Bool.and_false]
      rfl

end Sys2Proof.Machine
end

section
/-!
PROOFS. O23: the oldest request of an engine completes (R65, R72, R116, R120, R123).
-/

namespace Sys2Proof.Machine

open Sys2Proof.Safety

/-- What of the state outside the core and the wake part a change of one engine leaves: all of it. -/
@[simp] theorem setEng_arb (s : State) (e : Eng) (x : Engine) : (setEng s e x).arb = s.arb := by
  unfold setEng
  split <;> rfl

theorem delayToSample_eq (w : Word) :
    delayToSample w = (BitVec.ofInt 24 (clamp24 (rnd w.toInt 8)), decide (clamp24 (rnd w.toInt 8) ≠ rnd w.toInt 8)) :=
  satN24 _

/-- R69: registers are no data memory. -/
theorem locStore_opr (i : Fin 4) : locStore (.opr i) = [] := rfl

theorem locStore_acc (i : Fin 4) : locStore (.acc i) = [] := rfl

theorem locPutDelay_opr (x : Engine) (i : Fin 4) (w : Word) :
    locPutDelay x (.opr i) w =
      { x with opr := vset x.opr i (delayToSample w).1, fs := x.fs || (delayToSample w).2 } := rfl

section
variable {s : State} {e : Eng}

/-- R72: a delay read completes: the word stands in its destination. -/
theorem deliverDly_read {a : BitVec 21} {dst : Loc} {ds : List DlyReq} (hq : (getEng s e).dq = .read a dst :: ds)
    (he : e ≠ weNum) :
    deliverDly e s = markStores e (locStore dst) (setEng s e (locPutDelay
      { getEng s e with dq := ds, sigq := (getEng s e).sigq.map (sigAhead true) } dst (sramGet s a.toNat))) := by
  simp only [deliverDly, hq, if_neg he]

theorem deliverDly_zero {dst : Loc} {ds : List DlyReq} (hq : (getEng s e).dq = .zero dst :: ds) :
    deliverDly e s = markStores e (locStore dst) (setEng s e (locPutDelay
      { getEng s e with dq := ds, sigq := (getEng s e).sigq.map (sigAhead true) } dst 0)) := by
  simp only [deliverDly, hq]

theorem deliverDly_write {a : BitVec 21} {w : Word} {ds : List DlyReq} (hq : (getEng s e).dq = .write a w :: ds) :
    deliverDly e s = sramWrite a.toNat w
      (setEng s e { getEng s e with dq := ds, sigq := (getEng s e).sigq.map (sigAhead true) }) := by
  simp only [deliverDly, hq]

/-- R120: a fabric read completes. -/
theorem deliverFab_read {slot j : Nat} {dst : Loc} {fs : List FabReq} (hq : (getEng s e).fq = .read slot j dst :: fs) :
    deliverFab e s = markStores e (locStore dst) (setEng s e (locPutSample
      { getEng s e with fq := fs, sigq := (getEng s e).sigq.map (sigAhead false) } dst (slotSample s slot j))) := by
  simp only [deliverFab, hq]

theorem deliverFab_write {slot j : Nat} {v : Sample} {fs : List FabReq} (hq : (getEng s e).fq = .write slot j v :: fs) :
    deliverFab e s = modFab (setEng s e { getEng s e with fq := fs, sigq := (getEng s e).sigq.map (sigAhead false) })
      fun f => slotWrite f slot j v := by
  simp only [deliverFab, hq]

/-- R296: without a standby a delay write is not journalled. -/
theorem sramWrite_alone {a : Nat} {w : Word} {t : State} (h : t.arb.stbyUp = false) :
    sramWrite a w t = modCore t fun c => { c with sram := mset 0 c.sram a w } := by
  simp only [sramWrite, h, Bool.not_false, if_true]
  rfl

/-- R121, R123: a SYS result with a value for an accumulator. -/
theorem deliverSys_acc {r : SysRes} {rs : List SysRes} {v : Sys2Proof.Acc} (hq : (getEng s sv).sysq = r :: rs)
    (hv : r.val = some v) (hra : 4 ≤ r.ra.toNat) :
    deliverSys s = setEng s sv { getEng s sv with
      sysq := rs, fc := r.c, acc := vset (getEng s sv).acc ⟨r.ra.toNat % 4, Nat.mod_lt _ (by decide)⟩ v } := by
  simp only [deliverSys, hq, hv, raPut, if_neg (not_lt.2 hra)]
end

/-- Settles O23: each kind of request, by what it delivers to its destination. -/
theorem accessResults : Obligations.AccessResults := by
  intro s e hreset x after
  have hdly : exec (.dlrResult e) s = .next (settle (deliverDly e s)) := act_eq _ hreset
  have hfab (he : e ≠ weNum) : exec (.frdResult e) s = .next (settle (deliverFab e s)) :=
    (show execFrdResult e s = _ by rw [execFrdResult, act_eq _ hreset, if_neg he])
  have hsys : exec .sysResult s = .next (settle (deliverSys s)) := act_eq _ hreset
  refine ⟨fun a i ds hq he => ?readOpr, fun a i ds hq he => ?readAcc, fun i ds hq => ?zeroAcc, fun a w ds hq hstby => ?write,
    fun slot j i fs hq he => ?fabOpr, fun slot j i fs hq he => ?fabAcc, fun slot j v fs hq he => ?fabWrite,
    fun r rs v hq hv hra => ?sys⟩
  case readOpr =>
    rw [hdly, deliverDly_read hq he, locStore_opr, markStores_nil, locPutDelay_opr, delayToSample_eq]
    rfl
  case readAcc =>
    rw [hdly, deliverDly_read hq he, locStore_acc, markStores_nil]
    rfl
  case zeroAcc =>
    rw [hdly, deliverDly_zero hq, locStore_acc, markStores_nil]
    rfl
  case write => rw [hdly, deliverDly_write hq, sramWrite_alone (by rwa [setEng_arb])]
  case fabOpr =>
    rw [hfab he, deliverFab_read hq, locStore_opr, markStores_nil]
    rfl
  case fabAcc =>
    rw [hfab he, deliverFab_read hq, locStore_acc, markStores_nil]
    rfl
  case fabWrite => rw [hfab he, deliverFab_write hq]; rfl
  case sys => rw [hsys, deliverSys_acc hq hv hra]

end Sys2Proof.Machine
end

section
/-!
PROOFS. O24, O25, O26: the SYS functions (R121-R133). A SYS of SV whose fields are legal answers what its function answers on
the state with SV's earlier requests arrived; the function leaves SV's program counter, loop levels and IX.
-/

namespace Sys2Proof.Machine

open Sys2Proof.Safety

/-! Fields of IMM and RA. -/

/-- A field of a word is a number of its bits. -/
theorem fld_eq {n : Nat} (w : BitVec n) (lo len : Nat) : fld w lo len = (w.extractLsb' lo len).toNat :=
  (BitVec.extractLsb'_toNat lo len w).symm

/-- R122: an IMM that uses no bit outside the mask of its function. -/
theorem sysFault_none {m : BitVec 16} {k : RaKind} {ra : BitVec 3} {imm : BitVec 16} (himm : imm &&& ~~~m = 0)
    (hra : raOk k ra = true) : sysFault sv m k ra imm = none := by simp [sysFault, himm, hra]

theorem zero_and (m : BitVec 16) : (0 : BitVec 16) &&& ~~~m = 0 := BitVec.zero_and

/-- A number below 2^k uses no bit outside the k low ones. -/
theorem and_not_low {imm : BitVec 16} {k : Nat} (h : imm.toNat < 2 ^ k) :
    imm &&& ~~~BitVec.ofNat 16 (2 ^ k - 1) = 0 := by
  refine BitVec.eq_of_getLsbD_eq fun i hi => ?_
  by_cases hik : i < k
  · simp [BitVec.getLsbD_ofNat, Nat.testBit_two_pow_sub_one, hik, hi]
  · have hbit : imm.getLsbD i = false :=
      Nat.testBit_lt_two_pow (h.trans_le (Nat.pow_le_pow_right (by decide) (not_lt.1 hik)))
    simp [hbit]

/-- R121: the RA code of an accumulator. -/
theorem raOk_acc (r : Fin 4) : raOk .acc (BitVec.ofNat 3 (4 + r.val)) = true := by fin_cases r <;> rfl

theorem raAcc_acc (x : Engine) (r : Fin 4) : raAcc x (BitVec.ofNat 3 (4 + r.val)) = x.acc[r] := by fin_cases r <;> rfl

/-! What a SYS leaves of SV. -/

/-- What the fetch reads of an engine stands: its program counter, its loop levels and IX. -/
def SameFetch (x y : Engine) : Prop := y.pc = x.pc ∧ y.loops = x.loops ∧ y.ix = x.ix

theorem sameFetch_refl (x : Engine) : SameFetch x x := ⟨rfl, rfl, rfl⟩

theorem sameFetch_of_eq {x y : Engine} (h : y = x) : SameFetch x y := h ▸ sameFetch_refl x

theorem raPut_fetch (x : Engine) (ra : BitVec 3) (v : Sys2Proof.Acc) : SameFetch x (raPut x ra v) := by
  unfold raPut
  split <;> exact ⟨rfl, rfl, rfl⟩

theorem raPut_dvLate (x : Engine) (ra : BitVec 3) (v : Sys2Proof.Acc) : (raPut x ra v).dvLate = x.dvLate := by
  unfold raPut
  split <;> rfl

/-- R121-R123: off a loop end a SYS moves SV on, with its answer. -/
theorem sysCommit_eq {x0 : Engine} (hend : atLoopEnd x0 = false) {t : State} (hfetch : SameFetch x0 (getEng t sv)) (localFn : Bool)
    (ra : BitVec 3) (val : Option (BitVec 56)) (c : Bool) : sysCommit localFn x0 ra val c t = sysNext localFn ra val c t := by
  obtain ⟨hpc, hloops, hix⟩ := hfetch
  have hoff (y : Engine) (hy : SameFetch (getEng t sv) y) : pcNext (freeVal t) y = { y with pc := y.pc + 1 } :=
    pcNext_off _ (by rw [← hend, atLoopEnd, atLoopEnd, hy.1, hy.2.1, hpc, hloops])
  have hplace (y : Engine) (hy : SameFetch (getEng t sv) y) :
      engCommit sv x0 (pcNext (freeVal t) y) [] (if fetchFree x0 then freeTaken t else t) =
        setEng t sv { y with pc := (getEng t sv).pc + 1, ixAg := (getEng t sv).ix, dvLate := false } := by
    rw [fetchFree_off hend, hoff y hy, hy.1, hix]
    simp [engCommit, engPlace]
  cases localFn
  · exact hplace _ ⟨rfl, rfl, rfl⟩
  · cases val with
    | none => exact hplace _ ⟨rfl, rfl, rfl⟩
    | some v => exact hplace _ (raPut_fetch _ ra v)

section
variable {s : State} {fn : Nat} {localFn : Bool} {ra : BitVec 3} {imm : BitVec 16} {f : Engine → State → SysAns} {m : BitVec 16}
  {k : RaKind} {v : Option (BitVec 56)}

/-- R121-R124: a SYS that is accepted. -/
theorem sysRun_ok {t : State} (h : Ready s sv) (hinfo : sysInfo fn = some (m, k)) (himm : imm &&& ~~~m = 0)
    (hra : raOk k ra = true) (hf : f (engIn s sv) (atIssue s sv) = .ok v t) (hfetch : SameFetch (engIn s sv) (getEng t sv)) :
    sysRun fn localFn sv ra imm s f = .next (settle (sysNext localFn ra v false t)) := by
  obtain ⟨hmay, hend, -⟩ := h
  simp only [sysRun, hmay, if_true, hinfo, Option.getD_some, sysFault_none himm hra]
  rw [show f (getEng (drain sv s) sv) (drain sv s) = .ok v t from hf]
  simp only
  rw [sysCommit_eq hend hfetch]

/-- R123, R375: a SYS that is refused: an ignored item, with C set. -/
theorem sysRun_refused {reason : Nat} (h : Ready s sv) (hinfo : sysInfo fn = some (m, k)) (himm : imm &&& ~~~m = 0)
    (hra : raOk k ra = true) (hf : f (engIn s sv) (atIssue s sv) = .refused reason v) :
    sysRun fn localFn sv ra imm s f =
      .next (settle (sysNext localFn ra v true (ignoreCore reason fn (atIssue s sv)))) := by
  obtain ⟨hmay, hend, -⟩ := h
  have hcore : (ignoreCore reason fn (atIssue s sv)).core = (atIssue s sv).core :=
    (ignore_frame 3 reason 0 (fn % 256) _).2.2.2.2 .core (by simp)
  have hsv : getEng (ignoreCore reason fn (atIssue s sv)) sv = engIn s sv := by
    change (ignoreCore reason fn (atIssue s sv)).core.eng[24] = (atIssue s sv).core.eng[24]
    rw [hcore]
  simp only [sysRun, hmay, if_true, hinfo, Option.getD_some, sysFault_none himm hra]
  rw [show f (getEng (drain sv s) sv) (drain sv s) = .refused reason v from hf]
  simp only
  rw [sysCommit_eq hend (sameFetch_of_eq hsv)]
end

/-- SV is one of the core's engines. -/
theorem getEng_sv_of_core {s t : State} (h : t.core.eng = s.core.eng) : getEng t sv = getEng s sv := by
  change t.core.eng[24] = s.core.eng[24]
  rw [h]

/-! The fields of STAGE and PDMRATE. -/

theorem stage_kind (kind d : BitVec 4) : fld (kind.setWidth 8 ++ d.setWidth 8) 8 4 = kind.toNat := by decide +revert

theorem stage_deadline (kind d : BitVec 4) : fld (kind.setWidth 8 ++ d.setWidth 8) 0 4 = d.toNat := by decide +revert

theorem stage_mask (kind d : BitVec 4) : (kind.setWidth 8 ++ d.setWidth 8) &&& ~~~(3855 : BitVec 16) = 0 := by
  decide +revert

theorem pdmrate_pair (q : Fin 4) (rate : BitVec 2) :
    (BitVec.extractLsb' 0 2 (BitVec.ofNat 16 (q.val + 4 * rate.toNat))).toFin = q := by decide +revert

theorem pdmrate_rate (q : Fin 4) (rate : BitVec 2) :
    BitVec.extractLsb' 2 2 (BitVec.ofNat 16 (q.val + 4 * rate.toNat)) = rate := by decide +revert

theorem pdmrate_mask (q : Fin 4) (rate : BitVec 2) :
    BitVec.ofNat 16 (q.val + 4 * rate.toNat) &&& ~~~(15 : BitVec 16) = 0 := by decide +revert

/-! What deferred effects leave of the core (R124). -/

theorem defer_core (eff : DefEff) (s : State) : (defer eff s).core = s.core := modHosts_core _ _

theorem deferDone_eng (h : CmdEnt) (rc : Byte) (reply : Word) (s : State) :
    (deferDone h rc reply s).core.eng = s.core.eng := by
  simp only [deferDone, defer_core, modCore_core, modHosts_core]

/-! What staging and the microphones' clocks leave of the core. -/

theorem stageAccept_core {kind : Nat} {v : BitVec 24} {d : Nat} {s u : State} (h : stageAccept kind v d s = some u) :
    u.core = s.core := by
  unfold stageAccept at h
  split at h
  · cases h
  · cases h
    rfl

theorem updateClocks_core (s : State) : (updateClocks s).core = s.core := by
  simp only [updateClocks, updateMic, noteFeed, modWake_core, modConv_core]

theorem applyRate_core (q : Fin 4) (r : BitVec 2) (s : State) : (applyRate q r s).core = s.core := by
  simp only [applyRate, apply_ite State.core, updateClocks_core, modWake_core, modConv_core, ite_self]

theorem setRate_core (q : Fin 4) (r : BitVec 2) (s : State) : (setRate q r s).core = s.core := by
  simp only [setRate, apply_ite State.core, applyRate_core, modConv_core, ite_self]

theorem releaseRate_core (s : State) : (releaseRate s).core = s.core := by
  unfold releaseRate
  split
  · simp only [apply_ite State.core, applyRate_core, modConv_core, ite_self]
  · rfl

theorem endCandidate_core (s : State) : (endCandidate s).core = s.core := by
  simp only [endCandidate, apply_ite State.core, releaseRate_core, modWake_core, ite_self]

theorem stopWe_core (s : State) : (stopWe s).core = s.core := by
  simp only [stopWe, endCandidate_core, modWake_core]

/-- Settles O24: each function from what it answers on the state with SV's requests arrived. -/
theorem sysQueries : Obligations.SysQueries := by
  refine ⟨fun s r hready => ?hosts, fun s r hready => ?power⟩
  case hosts =>
    intro x t ra
    simp only [exec]
    have hra : raOk .acc ra = true := raOk_acc r
    have hsame : SameFetch x (getEng t sv) := sameFetch_refl x
    refine ⟨?wdog, ?rdframe, ?rdtime, fun h (hhead : headEnt (atIssue s sv) = some h) =>
      ⟨?cmdhead, fun n w hw => ?cmdword, fun rc (hseen : (atIssue s sv).core.cmdSeen = true) => ?cmddone⟩,
      fun (hnone : headEnt (atIssue s sv) = none) => ⟨?noHead, ?noWord, ?noDone⟩⟩
    case wdog => exact sysRun_ok hready rfl (zero_and 0) rfl rfl hsame
    case rdframe => exact sysRun_ok hready rfl (zero_and 0) hra rfl hsame
    case rdtime => exact sysRun_ok hready rfl (zero_and 0) hra rfl hsame
    case cmdhead =>
      exact sysRun_ok hready rfl (zero_and 0) hra (by simp only [hhead]; rfl)
        (sameFetch_of_eq (getEng_sv_of_core (by simp only [modHosts_core, modCore_core, t])))
    case cmdword =>
      have hn : (BitVec.ofNat 16 n.val).toNat = n := by rw [BitVec.toNat_ofNat, Nat.mod_eq_of_lt (by omega)]
      have hfld : fld (BitVec.ofNat 16 n.val) 0 6 = n := by rw [fld, hn, Nat.shiftRight_zero]; exact Nat.mod_eq_of_lt n.isLt
      exact sysRun_ok hready rfl (and_not_low (k := 6) (by rw [hn]; exact n.isLt)) hra
        (by simp only [hhead, hfld, hw]; rfl) hsame
    case cmddone =>
      have hrc : (rc.setWidth 16).setWidth 8 = rc := by simp
      have hlow : (rc.setWidth 16).toNat < 2 ^ 8 := by
        rw [BitVec.toNat_setWidth_of_le (by decide)]
        exact rc.isLt
      exact sysRun_ok hready rfl (and_not_low (k := 8) hlow) hra
        (by simp only [if_pos hseen, hhead, hrc, ra, raAcc_acc]; rfl)
        (sameFetch_of_eq (getEng_sv_of_core (deferDone_eng ..)))
    case noHead => exact sysRun_refused hready rfl (zero_and 0) hra (by simp only [hnone])
    case noWord => exact sysRun_refused hready rfl (zero_and 63) hra (by simp only [hnone])
    case noDone => exact sysRun_refused hready rfl (zero_and 255) hra (by simp only [hnone, ite_self])
  case power =>
    intro x t ra ok
    simp only [exec]
    have hra : raOk .acc ra = true := raOk_acc r
    have hsame : SameFetch x (getEng t sv) := sameFetch_refl x
    refine ⟨fun n hset hreq => ?pwrreq, ?pmstat, ?stgstat, fun kind d ra u hstage => ?stage, fun q rate => ?pdmrate⟩
    case pwrreq =>
      have hfld : fld (BitVec.ofNat 16 n.val) 0 2 = n := by fin_cases n <;> rfl
      have hn : (BitVec.ofNat 16 n.val).toNat < 2 ^ 2 := by fin_cases n <;> decide
      have hreq2 : (BitVec.ofNat 16 n.val).setWidth 2 = BitVec.ofNat 2 n.val := by fin_cases n <;> rfl
      have hvalid : ¬ n.val = 3 := by omega
      refine sysRun_ok hready rfl (and_not_low (k := 2) hn) rfl ?_ (sameFetch_refl _)
      simp only [show (atIssue s sv).pm.set = none from hset, show (atIssue s sv).pm.req = none from hreq, hfld, hreq2, hvalid]
      rfl
    case pmstat => exact sysRun_ok hready rfl (zero_and 0) hra rfl hsame
    case stgstat => exact sysRun_ok hready rfl (zero_and 0) hra rfl hsame
    case stage =>
      have hsv : getEng u sv = getEng t sv := getEng_sv_of_core (by rw [stageAccept_core hstage])
      refine sysRun_ok hready rfl (stage_mask kind d) rfl ?_ (sameFetch_of_eq hsv)
      simp only [stage_kind, stage_deadline, show stageAccept kind.toNat (raVal (engIn s sv) ra) (d.toNat + 1) (atIssue s sv) = some u from hstage]
    case pdmrate =>
      have hsv : getEng (setRate q rate t) sv = getEng t sv := getEng_sv_of_core (by rw [setRate_core])
      refine sysRun_ok hready rfl (pdmrate_mask q rate) rfl ?_ (sameFetch_of_eq hsv)
      simp only [pdmrate_pair, pdmrate_rate]
      rfl

/-! The functions whose effect waits (R124, R125). -/

theorem evraise_source (n : Fin 8) : fld (BitVec.ofNat 16 (24 + n.val)) 0 7 = 24 + n.val := by fin_cases n <;> rfl

theorem evraise_mask (n : Fin 8) : BitVec.ofNat 16 (24 + n.val) &&& ~~~(127 : BitVec 16) = 0 := by fin_cases n <;> rfl

/-- R122: an IMM that holds a number of `n` bits. -/
theorem setWidth_mask {n : Nat} (hn : n ≤ 16) (v : BitVec n) :
    v.setWidth 16 &&& ~~~BitVec.ofNat 16 (2 ^ n - 1) = 0 :=
  and_not_low (by rw [BitVec.toNat_setWidth_of_le hn]; exact v.isLt)

theorem setWidth_back {n : Nat} (hn : n ≤ 16) (v : BitVec n) : (v.setWidth 16).setWidth n = v := by
  rw [BitVec.setWidth_setWidth_of_le _ hn, BitVec.setWidth_eq]

theorem reswr_word (i : BitVec 8) (n : Fin 32) : fld (i ++ BitVec.ofNat 8 n.val) 0 8 = n := by
  rw [fld_eq, BitVec.extractLsb'_append_eq_right, BitVec.toNat_ofNat, Nat.mod_eq_of_lt (by omega)]

theorem reswr_block (i : BitVec 8) (v : BitVec 8) : (i ++ v).extractLsb' 8 8 = i := BitVec.extractLsb'_append_eq_left

/-- Settles O25: each function from the effect that it defers. -/
theorem sysDeferredEffects : Obligations.SysDeferredEffects := by
  intro s r hready x t ra low later ok
  simp only [exec]
  have hra : raOk .acc ra = true := raOk_acc r
  have hlow : (raAcc (engIn s sv) ra).setWidth 32 = low := by rw [raAcc_acc]
  have hsame {u : State} (hu : u.core.eng = t.core.eng) : SameFetch x (getEng u sv) := sameFetch_of_eq (getEng_sv_of_core hu)
  have hlater (eff : DefEff) : SameFetch x (getEng (defer eff t) sv) := hsame (by rw [defer_core])
  refine ⟨fun n ra => ?evraise, fun i => ?resopen, fun i => ?respub, fun i n => ?reswr, fun n => ?wakeclr, fun ra => ?rsaddr,
    fun (hstore : storeUp (atIssue s sv) = true) => ⟨fun (ha : rsrdOk (atIssue s sv).core.rsa.toNat = true) => ?rsrd,
      fun (ha : rswrOk (atIssue s sv).core.rsa.toNat = true) => ?rswr, fun (hbusy : saveBusy (atIssue s sv) = false) => ?cfgsave⟩⟩
  case evraise =>
    have hvalid : (decide (24 ≤ 24 + n.val) && decide (24 + n.val < 32)) = true := by simp; omega
    refine sysRun_ok hready rfl (evraise_mask n) rfl ?_ (hlater _)
    simp only [evraise_source, hvalid, if_true]
    rfl
  case resopen => exact sysRun_ok hready rfl (setWidth_mask (by decide) i) rfl (by rw [setWidth_back (by decide)]; rfl) (hlater _)
  case respub => exact sysRun_ok hready rfl (setWidth_mask (by decide) i) rfl (by rw [setWidth_back (by decide)]; rfl) (hlater _)
  case reswr =>
    refine sysRun_ok hready rfl (BitVec.and_zero) hra ?_ (hlater _)
    simp only [reswr_word, reswr_block, n.isLt, if_true, hlow]
    rfl
  case wakeclr => exact sysRun_ok hready rfl (setWidth_mask (by decide) n) rfl (by rw [setWidth_back (by decide)]; rfl) (hlater _)
  case rsaddr => exact sysRun_ok hready rfl (zero_and 0) rfl rfl (hsame rfl)
  case rsrd =>
    refine sysRun_ok hready rfl (zero_and 0) hra (by simp only [hstore, ha, Bool.and_self, if_true]; rfl) (hsame ?_)
    simp only [modCore_core]
    split <;> rfl
  case rswr =>
    refine sysRun_ok hready rfl (zero_and 0) hra (by simp only [hstore, ha, Bool.and_self, if_true, hlow]; rfl) (hsame ?_)
    simp only [modCore_core, later, modHosts_core]
  case cfgsave =>
    refine sysRun_ok hready rfl (zero_and 0) rfl (by simp only [hstore, hbusy, Bool.not_false, Bool.and_self, if_true]; rfl) (hsame ?_)
    simp only [later, modHosts_core, modRet_core]

/-! The functions that load, start and stop programs (R129-R133). -/

theorem modLoad_eng (f : LoadSt → LoadSt) (s : State) : (modLoad f s).core.eng = s.core.eng := by
  simp only [modLoad, modCore_core]

/-- R131: no load replaces an engine before it ends. -/
theorem pLoad_eng {n : Nat} {s u : State} (h : pLoad n s = some u) : u.core.eng = s.core.eng := by
  simp only [pLoad] at h
  split at h
  · cases h
  · split at h
    · split at h
      · cases h
        simp only [apply_ite State.core, stopWe_core, modLoad_eng, ite_self]
      · cases h
    · split at h
      · cases h
        exact modLoad_eng _ s
      · cases h

theorem plEnd_eng {s u : State} (h : plEnd s = some u) : u.core.eng = s.core.eng := by
  simp only [plEnd] at h
  split at h
  · cases h
    simp only [apply_ite State.core, updateClocks_core, modWake_core, stopWe_core, modLoad_eng, ite_self]
  · cases h

theorem engOf_ne_sv {n : Nat} (h : n < 24) : sv ≠ engOf n := by
  intro heq
  have hval : 24 = n % 26 := congrArg Fin.val heq
  omega

/-- R131: a control program starts no engine 24. -/
theorem pStart_sv {n : Nat} {s u : State} (h : pStart n s = some u) : getEng u sv = getEng s sv := by
  simp only [pStart] at h
  split at h
  · split at h
    · cases h
      exact getEng_sv_of_core (by simp only [modCore_core])
    · cases h
  · split at h
    case isTrue hn =>
      split at h
      · cases h
        split
        · exact getEng_sv_of_core (by simp only [modWake_core])
        · exact getEng_setEng_ne s _ (engOf_ne_sv (by simp_all))
      · cases h
    · cases h

/-- R132: SV itself is not among the engines that the end of the control program stops. -/
theorem stopControl_sv (s : State) : getEng (stopControl s) sv = getEng s sv := by
  unfold stopControl
  split
  · exact (vmap_get _ _ 24 (by decide)).trans (if_neg (by simp))
  · rfl

/-- Settles O26: each function from what it does when it is accepted. -/
theorem sysLoads : Obligations.SysLoads := by
  intro s r hready t ra ok word
  simp only [exec]
  have hra : raOk .acc ra = true := raOk_acc r
  have hsame {u : State} (hu : getEng u sv = getEng t sv) : SameFetch (engIn s sv) (getEng u sv) := sameFetch_of_eq hu
  have hword (n : Fin 32) : fld (word n.val) 0 5 = n := by
    simp only [word]
    fin_cases n <;> rfl
  have hmask (n : Fin 32) : word n.val &&& ~~~(31 : BitVec 16) = 0 := by
    simp only [word]
    fin_cases n <;> rfl
  refine ⟨fun n (hprog : (atIssue s sv).core.prog = .resident) (hopen : loadOpen (atIssue s sv) = false)
      (hstart : (atIssue s sv).core.svStart = false) => ?plbegin,
    fun n u (h : pLoad n.val (atIssue s sv) = some u) => ?pload, fun u (h : plEnd (atIssue s sv) = some u) => ?plend,
    fun n u (h : pStart n.val (atIssue s sv) = some u) => ?pstart,
    fun n (hprog : (atIssue s sv).core.prog = .control) hn hruns => ?pstop,
    fun (hprog : (atIssue s sv).core.prog = .control) => ?pexit, ?plstat⟩
  case plbegin =>
    refine sysRun_ok hready rfl (setWidth_mask (by decide) n) rfl ?_ (hsame (getEng_sv_of_core (by simp only [modCore_core])))
    have hn : BitVec.ofNat 8 (fld (n.setWidth 16) 0 8) = n := by
      rw [fld_eq, BitVec.ofNat_toNat, ← BitVec.setWidth_eq_extractLsb' (by decide), setWidth_back (by decide), BitVec.setWidth_eq]
    simp only [plBegin, hprog, hopen, hstart, hn]
    rfl
  case pload =>
    exact sysRun_ok hready rfl (hmask n) rfl (by simp only [hword, h]; rfl) (hsame (getEng_sv_of_core (pLoad_eng h)))
  case plend => exact sysRun_ok hready rfl (zero_and 0) rfl (by simp only [h]; rfl) (hsame (getEng_sv_of_core (plEnd_eng h)))
  case pstart => exact sysRun_ok hready rfl (hmask n) rfl (by simp only [hword, h]; rfl) (hsame (pStart_sv h))
  case pstop =>
    refine sysRun_ok hready rfl (hmask n) rfl ?_ (hsame (getEng_setEng_ne t _ (engOf_ne_sv hn)))
    have hne : n.val ≠ 25 := by omega
    have hruns' : engRuns (getEng (atIssue s sv) (engOf n.val)) = true := hruns
    simp only [hword, pStop, hprog, hn, hne, modEng, hruns']
    rfl
  case pexit =>
    have hsv : SameFetch (engIn s sv) (getEng (modEng (stopControl t) sv fun y => { y with run := .stopped }) sv) := by
      rw [modEng, getEng_setEng, stopControl_sv]
      exact ⟨rfl, rfl, rfl⟩
    exact sysRun_ok hready rfl (zero_and 0) rfl (by simp only [pExit, hprog]; rfl) hsv
  case plstat => exact sysRun_ok hready rfl (zero_and 0) hra rfl (sameFetch_refl _)

end Sys2Proof.Machine
end

section
/-!
PROOFS. The queue, the reset state, the claim table, event entries, the limiters, ignored items and the fault outputs
(R371, R374, R375, R402-R411): O1, O2, O40, O57, O58, O59, O60.
-/

namespace Sys2Proof.Machine

open Sys2Proof.Safety

/-- Settles O1: `step` is defined by the front of the queue. -/
theorem stepTakesTheFrontCommand : Obligations.StepTakesTheFrontCommand := by
  intro s c cs h
  simp only [step, h]

/-! The reset state. -/

theorem reset_inv : Inv State.reset := by
  refine ⟨by decide, fun h => ?_, by decide, ?_, ?_, rfl, rfl, rfl⟩
  · fin_cases h <;> decide
  all_goals intro t ht; exact absurd ht (by simp [State.reset])

/-- Settles O2: every field of the reset state is the default of its structure. -/
theorem resetState_values : Obligations.ResetState := by
  refine ⟨fun i => ?_, fun n => ?_, rfl, rfl, rfl, rfl, rfl, rfl, rfl, rfl, rfl, rfl, rfl, rfl, rfl, rfl, rfl, rfl,
    fun b => ?_, fun b => ?_, rfl, rfl, rfl, rfl, rfl, rfl, rfl, fun h => ?_, rfl, rfl, rfl, rfl, rfl, rfl, rfl, reset_inv⟩
  · fin_cases i <;> exact ⟨rfl, rfl, rfl, rfl, rfl⟩
  · fin_cases n <;> rfl
  · fin_cases b <;> exact ⟨rfl, rfl⟩
  · fin_cases b <;> exact ⟨rfl, rfl⟩
  · fin_cases h <;> exact ⟨rfl, rfl⟩

/-! The claim table (R371). -/

theorem claimAt_setClaim (res lvl k : Nat) (c : BitVec 2) {s : State} (h : mwf 3 s.hosts.claims) :
    claimAt (setClaim res lvl c s) res k = if k = lvl then c else claimAt s res k := by
  simp only [claimAt, setClaim, modHosts_hosts, mget_mset _ _ _ _ h, Nat.add_left_cancel_iff]

theorem claim_hosts_claims (h : HostId) (res lvl : Nat) (s : State) :
    (claim h res lvl s).hosts.claims = (setClaim res lvl (BitVec.ofNat 2 (hostIx h).val) s).hosts.claims := by
  simp only [claim]
  split
  · split <;> rfl
  · rfl

theorem hostOf_code (d : HostId) : hostOf (BitVec.ofNat 2 (hostIx d).val).toNat = some d := by cases d <;> rfl

theorem claim_displaces {h d : HostId} {res lvl : Nat} {s : State}
    (hd : claimAt s res lvl = BitVec.ofNat 2 (hostIx d).val) (hne : d ≠ h) :
    (claim h res lvl s).hosts.evBuf = s.hosts.evBuf ++
      [{ kind := 2, src := 0, pay := pay (res * 2 ^ 8 + lvl * 2 ^ 16 + (hostIx h).val * 2 ^ 19), host := some d }] := by
  have hb : (d == h) = false := by cases d <;> cases h <;> first | rfl | exact absurd rfl hne
  simp only [claim, hd, hostOf_code, hb, Bool.false_eq_true, if_false]
  rfl

theorem claimAt_code_iff (h : HostId) (c : BitVec 2) :
    c.toNat = (hostIx h).val ↔ c = BitVec.ofNat 2 (hostIx h).val := by
  rw [BitVec.toNat_eq, BitVec.toNat_ofNat]
  cases h <;> rfl

theorem resLevel_top {s : State} {res lvl : Nat} (hl : lvl < 5) (h : claimAt s res lvl ≠ 3)
    (ha : ∀ k : Nat, lvl < k → k < 5 → claimAt s res k = 3) : resLevel s res = lvl := by
  simp only [resLevel, show List.range 5 = [0, 1, 2, 3, 4] from rfl, List.foldl]
  interval_cases lvl <;>
    simp (disch := omega) only [ne_eq, h, ha, not_true_eq_false, not_false_eq_true, if_true, if_false]

theorem resLevel_none {s : State} {res : Nat} (h : ∀ k : Nat, k < 5 → claimAt s res k = 3) : resLevel s res = 7 := by
  simp (disch := omega) only [resLevel, show List.range 5 = [0, 1, 2, 3, 4] from rfl, List.foldl, ne_eq, h,
    not_true_eq_false, if_false]

/-- Settles O40, by what a claim slot reads after a write. -/
theorem claims : Obligations.Claims := by
  intro s h res lvl hm hl
  have hc : ∀ k, claimAt (claim h res lvl s) res k = if k = lvl then BitVec.ofNat 2 (hostIx h).val else claimAt s res k := by
    intro k
    rw [← claimAt_setClaim res lvl k _ hm]
    simp only [claimAt, claim_hosts_claims]
  refine ⟨by simp [hc], fun k _ hk => by simp [hc, hk], fun d hd hne => claim_displaces hd hne, fun hh => ?_, fun hh => ?_,
    resLevel_top hl, resLevel_none⟩
  · simp only [release, (claimAt_code_iff h _).mpr hh, if_true, claimAt_setClaim res lvl lvl _ hm]
  · simp only [release, claimAt_code_iff, hh, if_false]

/-! Entries (R374, R400-R405). -/

theorem enterFor_evBuf (r : Raised) (h : HostId) (s : State) : (enterFor r h s).hosts.evBuf = s.hosts.evBuf := by
  simp only [enterFor]
  split <;> rfl

theorem enterFor_nextSeq (r : Raised) (h : HostId) (s : State) :
    (enterFor r h s).hosts.nextSeq = vset s.hosts.nextSeq (hostIx h) (s.hosts.nextSeq[hostIx h] + 1) := by
  simp only [enterFor]
  split <;> rfl

theorem enterFor_evq (r : Raised) (h : HostId) (s : State) :
    (enterFor r h s).hosts.evq = if 32 ≤ s.hosts.evq[hostIx h].length then s.hosts.evq
      else vset s.hosts.evq (hostIx h)
        (s.hosts.evq[hostIx h] ++ [entryOf r s.hosts.nextSeq[hostIx h] (r.stamp.getD (stampNow s))]) := by
  simp only [enterFor]
  split <;> rfl

theorem enterFor_evLost (r : Raised) (h : HostId) (s : State) :
    (enterFor r h s).hosts.evLost = if 32 ≤ s.hosts.evq[hostIx h].length
      then vset s.hosts.evLost (hostIx h) (sat8 s.hosts.evLost[hostIx h]) else s.hosts.evLost := by
  simp only [enterFor]
  split <;> rfl

theorem stampNow_enterFor (r : Raised) (h : HostId) (s : State) : stampNow (enterFor r h s) = stampNow s := by
  have ht : (enterFor r h s).time = s.time := (enterFor_frame r h s).2.2.2.2 .time (by simp)
  simp only [stampNow, ht]

theorem enterFor_flt (r : Raised) (h : HostId) (s : State) : (enterFor r h s).flt = s.flt := by
  simp only [enterFor]
  split <;> rfl

theorem enterFor_pads (r : Raised) (h : HostId) (s : State) : (enterFor r h s).pads = s.pads := by
  simp only [enterFor]
  split <;> rfl

/-- The queue and the next number of host `h`, and the stamp that an entry now takes. -/
def queueOf (h : HostId) (s : State) : List EvEntry × BitVec 16 × Stamp :=
  (s.hosts.evq[hostIx h], s.hosts.nextSeq[hostIx h], stampNow s)

theorem hostIx_inj {g h : HostId} (hne : g ≠ h) : hostIx g ≠ hostIx h := by
  cases g <;> cases h <;> first | exact absurd rfl hne | decide

theorem queueOf_enterFor_ne {g h : HostId} (hne : g ≠ h) (r : Raised) (s : State) :
    queueOf h (enterFor r g s) = queueOf h s := by
  simp only [queueOf, stampNow_enterFor, enterFor_evq, enterFor_nextSeq, vset_get_fin, hostIx_inj hne, if_false]
  split
  · rfl
  · rw [vset_get_fin, if_neg (hostIx_inj hne)]

theorem queueOf_iff_ne {g h : HostId} (hne : g ≠ h) (c : Bool) (r : Raised) (s : State) :
    queueOf h (iff c (enterFor r g) s) = queueOf h s := by
  cases c
  · rfl
  · exact queueOf_enterFor_ne hne r s

theorem queueOf_enterFor {h : HostId} {s : State} (hl : s.hosts.evq[hostIx h].length < 32) (r : Raised) :
    queueOf h (enterFor r h s) = (s.hosts.evq[hostIx h] ++ [entryOf r s.hosts.nextSeq[hostIx h] (r.stamp.getD (stampNow s))],
      s.hosts.nextSeq[hostIx h] + 1, stampNow s) := by
  simp only [queueOf, stampNow_enterFor, enterFor_evq, enterFor_nextSeq, vset_get_fin, if_true, if_neg (not_le.mpr hl)]

/-- What one queue sees of a routed entry: its host alone decides. -/
theorem queueOf_enterOne (r : Raised) (h : HostId) (s : State) :
    queueOf h (enterOne r s) = queueOf h (iff (queueExists s h && (match r.host with | some x => x == h | none => masked s h r.src))
      (enterFor r h) s) := by
  have hc : ∀ {c : Bool} {t : State}, queueOf h t = queueOf h s → queueOf h (iff c (enterFor r h) t) = queueOf h (iff c (enterFor r h) s) := by
    intro c t ht
    cases c
    · exact ht
    · simp only [queueOf, Prod.mk.injEq] at ht
      obtain ⟨h1, h2, h3⟩ := ht
      simp only [iff, if_true, queueOf, enterFor_evq, enterFor_nextSeq, stampNow_enterFor, h1, h2, h3, vset_get_fin]
      split <;> simp_all
  unfold enterOne
  cases h
  · rw [queueOf_iff_ne (by decide), queueOf_iff_ne (by decide)] <;> rfl
  · rw [queueOf_iff_ne (by decide)]
    exact hc (queueOf_iff_ne (by decide) _ _ _)
  · exact hc (by rw [queueOf_iff_ne (by decide), queueOf_iff_ne (by decide)])

theorem enterOne_evBuf (r : Raised) (s : State) : (enterOne r s).hosts.evBuf = s.hosts.evBuf := by
  simp only [enterOne, iff]
  repeat' split
  all_goals simp only [enterFor_evBuf]

theorem enterOne_flt (r : Raised) (s : State) : (enterOne r s).flt = s.flt := by
  simp only [enterOne, iff]
  repeat' split
  all_goals simp only [enterFor_flt]

theorem enterOne_pads (r : Raised) (s : State) : (enterOne r s).pads = s.pads := by
  simp only [enterOne, iff]
  repeat' split
  all_goals simp only [enterFor_pads]

/-- A part that no entry changes is what it was after all have entered. -/
theorem foldl_enterOne {α : Type} {f : State → α} (h : ∀ r s, f (enterOne r s) = f s) :
    ∀ (rs : List Raised) (s : State), f (rs.foldl (fun t r => enterOne r t) s) = f s
  | [], _ => rfl
  | r :: rs, s => (foldl_enterOne h rs (enterOne r s)).trans (h r s)

theorem enterAll_evBuf (s : State) : (enterAll s).hosts.evBuf = [] := foldl_enterOne (f := fun t => t.hosts.evBuf) enterOne_evBuf _ _
@[simp] theorem enterAll_flt (s : State) : (enterAll s).flt = s.flt := foldl_enterOne (f := State.flt) enterOne_flt _ _
@[simp] theorem enterAll_pads (s : State) : (enterAll s).pads = s.pads := foldl_enterOne (f := State.pads) enterOne_pads _ _

/-! The order of entries (R405). -/

theorem insRaised_perm (r : Raised) : ∀ xs : List Raised, (insRaised r xs).Perm (r :: xs)
  | [] => .refl _
  | x :: xs => by
    simp only [insRaised]
    split
    · exact .refl _
    · exact ((insRaised_perm r xs).cons x).trans (.swap r x xs)

/-- Ordered by key. -/
abbrev KeySorted (xs : List Raised) : Prop := xs.Pairwise fun a b => raisedKey a ≤ raisedKey b

theorem insRaised_sorted (r : Raised) : ∀ {xs : List Raised}, KeySorted xs → KeySorted (insRaised r xs)
  | [], _ => List.pairwise_singleton _ _
  | x :: xs, h => by
    obtain ⟨hx, hxs⟩ := List.pairwise_cons.mp h
    simp only [insRaised]
    split
    case isTrue hlt =>
      exact List.pairwise_cons.mpr ⟨fun y hy => by
        rcases List.mem_cons.mp hy with rfl | hy
        · exact hlt.le
        · exact hlt.le.trans (hx y hy), h⟩
    case isFalse hge =>
      refine List.pairwise_cons.mpr ⟨fun y hy => ?_, insRaised_sorted r hxs⟩
      rcases List.mem_cons.mp ((insRaised_perm r xs).mem_iff.mp hy) with rfl | hy
      · exact not_lt.mp hge
      · exact hx y hy

/-- An entry comes after those of its own key. -/
theorem insRaised_filter (r : Raised) (k : Nat) : ∀ {xs : List Raised}, KeySorted xs →
    (insRaised r xs).filter (fun x => raisedKey x = k) =
      xs.filter (fun x => raisedKey x = k) ++ [r].filter (fun x => raisedKey x = k)
  | [], _ => rfl
  | x :: xs, h => by
    obtain ⟨hx, hxs⟩ := List.pairwise_cons.mp h
    simp only [insRaised]
    split
    case isTrue hlt =>
      by_cases hk : raisedKey r = k
      · have : (x :: xs).filter (fun y => raisedKey y = k) = [] := by
          refine List.filter_eq_nil_iff.mpr fun y hy => ?_
          rcases List.mem_cons.mp hy with rfl | hy
          · simp; omega
          · have := hx y hy; simp; omega
        rw [List.filter_cons, this]
        simp [hk]
      · simp [List.filter_cons, hk]
    case isFalse hge =>
      rw [List.filter_cons, insRaised_filter r k hxs, List.filter_cons (x := x)]
      split <;> rfl

theorem foldl_insRaised : ∀ (rs acc : List Raised), KeySorted acc →
    let out := rs.foldl (fun acc x => insRaised x acc) acc
    out.Perm (acc ++ rs) ∧ KeySorted out ∧
      ∀ k : Nat, out.filter (fun r => raisedKey r = k) =
        acc.filter (fun r => raisedKey r = k) ++ rs.filter (fun r => raisedKey r = k)
  | [], acc, h => by simp [h]
  | r :: rs, acc, h => by
    obtain ⟨hp, hs, hf⟩ := foldl_insRaised rs (insRaised r acc) (insRaised_sorted r h)
    refine ⟨hp.trans ?_, hs, fun k => ?_⟩
    · exact ((insRaised_perm r acc).append_right rs).trans List.perm_middle.symm
    · rw [List.foldl_cons, hf k, insRaised_filter r k h, List.append_assoc, ← List.filter_append]
      rfl

/-- Settles O57, by what each queue sees of an entry and the stable insertion of `sortRaised`. -/
theorem eventQueues : Obligations.EventQueues := by
  refine ⟨fun s h r => ⟨?_, fun hl => ⟨?_, ?_⟩, fun hl => ⟨?_, ?_⟩, fun j hj => ⟨?_, ?_⟩⟩, fun s r h hl => ⟨fun hr => ?_, fun hr => ?_⟩,
    fun s src hm => ?_, fun rs => ?_, fun s hs => ?_⟩
  · rw [enterFor_nextSeq, vset_get_fin, if_pos rfl]
  · rw [enterFor_evq, if_neg (not_le.mpr hl), vset_get_fin, if_pos rfl]
  · rw [enterFor_evLost, if_neg (not_le.mpr hl)]
  · rw [enterFor_evq, if_pos hl]
  · rw [enterFor_evLost, if_pos hl, vset_get_fin, if_pos rfl]
  · rw [enterFor_evq]
    split
    · rfl
    · rw [vset_get_fin, if_neg (Ne.symm hj)]
  · rw [enterFor_nextSeq, vset_get_fin, if_neg (Ne.symm hj)]
  · have hq := queueOf_enterOne r h s
    rw [show (queueExists s h && _) = true by
      rw [hr.1]; have := hr.2; revert this; cases r.host <;> simp] at hq
    exact congrArg Prod.fst (hq.trans (queueOf_enterFor hl r))
  · have hq := queueOf_enterOne r h s
    rw [show (queueExists s h && _) = false by
      rw [Bool.eq_false_iff]; intro hc; apply hr; rw [Bool.and_eq_true] at hc
      refine ⟨hc.1, ?_⟩; have := hc.2; revert this; cases r.host <;> simp] at hq
    simp only [queueOf, iff, Bool.false_eq_true, if_false, Prod.mk.injEq] at hq
    exact ⟨hq.1, hq.2.1⟩
  · simp only [masked, Bool.and_eq_true, Bool.not_eq_true', hostBBarred] at hm
    have := hm.2
    simp at this
    omega
  · simpa [sortRaised] using foldl_insRaised rs [] List.Pairwise.nil
  · simp only [settle, hs, Bool.false_eq_true, if_false, faultOutputs, enterAll_evBuf]

/-! The limiters (R403). -/

/-- The limiter that carries source `src` and qualifier `q`. -/
abbrev isLim (src q : Nat) (l : Lim) : Bool := decide (l.src = src) && decide (l.qual = q)

theorem limOf_eq (src q : Nat) (ls : List Lim) : limOf src q ls = ls.find? (isLim src q) := rfl

theorem limOf_map {src q src' q' : Nat} {f : Lim → Lim} (hs : ∀ l, (f l).src = l.src) (hq : ∀ l, (f l).qual = l.qual) :
    ∀ ls : List Lim, limOf src' q' (ls.map fun x => if isLim src q x then f x else x) =
      if src' = src ∧ q' = q then (limOf src' q' ls).map f else limOf src' q' ls
  | [] => by simp [limOf]
  | l :: ls => by
    have ih := limOf_map (src := src) (q := q) (src' := src') (q' := q') hs hq ls
    have hkey : isLim src' q' (if isLim src q l then f l else l) = isLim src' q' l := by
      split
      · simp only [isLim, hs, hq]
      · rfl
    simp only [limOf_eq, List.map_cons, List.find?_cons, hkey] at ih ⊢
    cases hl : isLim src' q' l
    · exact ih
    · simp only [isLim, Bool.and_eq_true, decide_eq_true_eq] at hl
      obtain ⟨rfl, rfl⟩ := hl
      by_cases hc : l.src = src ∧ l.qual = q
      · rw [if_pos hc, if_pos (by simpa [isLim] using hc)]
        rfl
      · rw [if_neg hc, if_neg (by simpa [isLim] using hc)]

theorem limOf_modLim {src q src' q' : Nat} {f : Lim → Lim} (hs : ∀ l, (f l).src = l.src) (hq : ∀ l, (f l).qual = l.qual)
    (ls : List Lim) : limOf src' q' (modLim src q f ls) =
      if src' = src ∧ q' = q then (limOf src' q' ls).map f else limOf src' q' ls := by
  rw [← limOf_map hs hq ls]
  simp only [modLim, isLim, Bool.and_eq_true, decide_eq_true_eq]

theorem limOf_append {src q : Nat} (ls : List Lim) (l : Lim) :
    limOf src q (ls ++ [l]) = (limOf src q ls).or (if isLim src q l then some l else none) := by
  rw [limOf, List.find?_append, List.find?_singleton]
  rfl

/-- R403: a limiter that has counted one more suppressed raising. -/
abbrev counted (x : Lim) : Lim := { x with supp := sat16 x.supp }

/-- R403: a limiter whose interval has just begun. -/
abbrev begun (x : Lim) : Lim := { x with supp := 0, run := true }

theorem limOf_counted (src q src' q' : Nat) (ls : List Lim) : limOf src' q' (modLim src q counted ls) =
    if src' = src ∧ q' = q then (limOf src' q' ls).map counted else limOf src' q' ls :=
  limOf_modLim (f := counted) (fun _ => rfl) (fun _ => rfl) ls

theorem limOf_begun (src q src' q' : Nat) (ls : List Lim) : limOf src' q' (modLim src q begun ls) =
    if src' = src ∧ q' = q then (limOf src' q' ls).map begun else limOf src' q' ls :=
  limOf_modLim (f := begun) (fun _ => rfl) (fun _ => rfl) ls

/-- A raising while the interval runs is only counted. -/
theorem raiseLimited_running {src q : Nat} {s : State} {l : Lim} (p : Nat) (h : Option HostId)
    (hl : limOf src q s.hosts.lims = some l) (hr : l.run = true) : raiseLimited src q p h s =
      { s with hosts := { s.hosts with lims := modLim src q counted s.hosts.lims } } := by
  simp only [raiseLimited, hl, hr, if_true]

theorem raiseLimited_idle_lims {src q : Nat} {s : State} {l : Lim} (p : Nat) (h : Option HostId)
    (hl : limOf src q s.hosts.lims = some l) (hr : l.run = false) :
    (raiseLimited src q p h s).hosts.lims = modLim src q begun s.hosts.lims := by
  simp only [raiseLimited, hl, hr, Bool.false_eq_true, if_false, raiseEntry_hosts]

theorem raiseLimited_new_lims {src q : Nat} {s : State} (p : Nat) (h : Option HostId)
    (hl : limOf src q s.hosts.lims = none) : (raiseLimited src q p h s).hosts.lims =
      s.hosts.lims ++ [{ src := src, qual := q, supp := 0, run := true }] := by
  simp only [raiseLimited, hl, raiseEntry_hosts]

/-- A raising outside the interval enters with the number suppressed, and the interval begins. -/
theorem raiseLimited_free {src q : Nat} {s : State} (p : Nat) (h : Option HostId)
    (hf : ∀ l, limOf src q s.hosts.lims = some l → l.run = false) :
    (raiseLimited src q p h s).hosts.evBuf = s.hosts.evBuf ++ [{ kind := 0, src := src, pay := pay p, w5 :=
      ((limOf src q s.hosts.lims).map fun l => l.supp.setWidth 32).getD 0, host := h }] := by
  unfold raiseLimited
  split
  · rename_i l hl
    simp only [hf l hl, Bool.false_eq_true, if_false, raiseEntry_hosts, hl, Option.map_some, Option.getD_some]
  · rename_i hl
    simp only [raiseEntry_hosts, hl, Option.map_none, Option.getD_none]

/-- Whatever the limiter was, its interval runs after a raising, and with none suppressed where it did not run. -/
theorem limOf_raiseLimited (src q p : Nat) (h : Option HostId) (s : State) :
    ∃ l, limOf src q (raiseLimited src q p h s).hosts.lims = some l ∧ l.run = true ∧
      ((∀ l, limOf src q s.hosts.lims = some l → l.run = false) → l.supp = 0) := by
  cases hl : limOf src q s.hosts.lims with
  | none =>
    refine ⟨{ src := src, qual := q, supp := 0, run := true }, ?_, rfl, fun _ => rfl⟩
    rw [raiseLimited_new_lims p h hl, limOf_append, hl]
    simp [isLim]
  | some l =>
    cases hr : l.run with
    | false => exact ⟨_, by rw [raiseLimited_idle_lims p h hl hr, limOf_begun, if_pos ⟨rfl, rfl⟩, hl]; rfl, rfl, fun _ => rfl⟩
    | true =>
      refine ⟨counted l, ?_, hr, fun hf => absurd (hf l rfl) (by simp [hr])⟩
      rw [raiseLimited_running p h hl hr, limOf_counted, if_pos ⟨rfl, rfl⟩, hl]
      rfl

theorem limOf_raiseLimited_ne {src q src' q' : Nat} (hne : src' ≠ src ∨ q' ≠ q) (p : Nat) (h : Option HostId) (s : State) :
    limOf src' q' (raiseLimited src q p h s).hosts.lims = limOf src' q' s.hosts.lims := by
  have hn : ¬ (src' = src ∧ q' = q) := by tauto
  cases hl : limOf src q s.hosts.lims with
  | none =>
    rw [raiseLimited_new_lims p h hl, limOf_append, if_neg (by simp [isLim]; tauto), Option.or_none]
  | some l =>
    cases hr : l.run with
    | false => rw [raiseLimited_idle_lims p h hl hr, limOf_begun, if_neg hn]
    | true => rw [raiseLimited_running p h hl hr, limOf_counted, if_neg hn]

/-- Raisings while the interval runs: no entry, and the count rises with each until it saturates. -/
theorem raiseLimited_iterate {src q : Nat} {s : State} {l : Lim} (p : Nat) (h : Option HostId)
    (hl : limOf src q s.hosts.lims = some l) (hr : l.run = true) : ∀ n : Nat,
    let t := (raiseLimited src q p h)^[n] s
    t.hosts.evBuf = s.hosts.evBuf ∧ limOf src q t.hosts.lims = some { l with supp := sat16^[n] l.supp } ∧
      ∀ src' q' : Nat, src' ≠ src ∨ q' ≠ q → limOf src' q' t.hosts.lims = limOf src' q' s.hosts.lims
  | 0 => ⟨rfl, hl, fun _ _ _ => rfl⟩
  | n + 1 => by
    obtain ⟨hb, hc, ho⟩ := raiseLimited_iterate p h hl hr n
    simp only [Function.iterate_succ_apply']
    refine ⟨?_, ?_, fun src' q' hne => (limOf_raiseLimited_ne hne p h _).trans (ho src' q' hne)⟩
    · rw [raiseLimited_running p h hc hr]
      exact hb
    · rw [raiseLimited_running p h hc hr]
      rw [limOf_counted, if_pos ⟨rfl, rfl⟩, hc]
      rfl

theorem sat16_toNat (c : BitVec 16) : (sat16 c).toNat = min (c.toNat + 1) 65535 := by
  have hc := c.isLt
  unfold sat16
  split
  case isTrue h => subst h; rfl
  case isFalse h =>
    have hne : c.toNat ≠ 65535 := fun hh => h (BitVec.eq_of_toNat_eq hh)
    rw [BitVec.toNat_add, show (1 : BitVec 16).toNat = 1 from rfl]
    omega

theorem sat16_iterate : ∀ n : Nat, (sat16^[n] 0).toNat = min n 65535
  | 0 => rfl
  | n + 1 => by
    rw [Function.iterate_succ_apply', sat16_toNat, sat16_iterate n]
    omega

theorem limOf_endLimiters (src q : Nat) (s : State) :
    limOf src q (endLimiters (fun l => l.src = src && l.qual = q) s).hosts.lims =
      (limOf src q s.hosts.lims).map fun l => { l with run := false } := by
  have h := limOf_map (src := src) (q := q) (src' := src) (q' := q) (f := fun l : Lim => { l with run := false })
    (fun _ => rfl) (fun _ => rfl) s.hosts.lims
  rw [if_pos ⟨rfl, rfl⟩] at h
  exact h

/-- Settles O58, by what a limiter reads after a raising, after any number of them, and after its interval ends. -/
theorem rateLimits : Obligations.RateLimits := by
  refine ⟨fun s src q p n h => ?_, fun s hs => ⟨fun src q => act_eq _ hs, fun n => ?_⟩⟩
  case refine_2 => simp only [Does, exec, execFaultMinPulseEnd, act_eq _ hs]
  obtain ⟨l, hl, hr, hz⟩ := limOf_raiseLimited src q p h s
  obtain ⟨hb, hc, ho⟩ := raiseLimited_iterate p h hl hr n
  refine ⟨hb, fun src' q' hne => (ho src' q' hne).trans (limOf_raiseLimited_ne hne p h s), fun hf => raiseLimited_free p h hf,
    fun hf => ?_⟩
  rw [raiseLimited_free p h (fun l' hl' => ?_), limOf_endLimiters, hc]
  · refine congrArg₂ _ hb ?_
    simp only [Option.map_some, Option.getD_some, hz hf, List.cons.injEq, and_true, Raised.mk.injEq, true_and]
    refine BitVec.eq_of_toNat_eq ?_
    rw [BitVec.toNat_setWidth, sat16_iterate, BitVec.toNat_ofNat]
  · rw [limOf_endLimiters, hc] at hl'
    rw [← Option.some.inj hl']

/-- Settles O59: `ignore`, by whether IGN_EV is set. -/
theorem ignoredItems : Obligations.IgnoredItems := by
  intro s src reason port loc
  have hh : ignHost src = if src = 1 then .b else if src = 2 then .c else .a := by fin_cases src <;> rfl
  refine ⟨fun he => ?_, fun he => ?_⟩
  · simp only [ignore, he, Bool.false_eq_true, if_false]
  · simp only [ignore, he, if_true, hh]

/-! The fault outputs (R406, R407). -/

theorem getLsbD_twoPow {n : Nat} (i j : Nat) (hj : j < n) : (BitVec.ofNat n (2 ^ i)).getLsbD j = decide (i = j) := by
  rw [BitVec.getLsbD_ofNat, Nat.testBit_two_pow]
  simp [hj]

theorem bit_setBit {n : Nat} (w : BitVec n) (i j : Nat) (b : Bool) (hj : j < n) :
    bit (setBit w i b) j = if i = j then b else bit w j := by
  unfold setBit bit
  cases b
  · rw [if_neg Bool.false_ne_true, BitVec.getLsbD_and, BitVec.getLsbD_not, getLsbD_twoPow i j hj]
    by_cases h : i = j <;> simp [h, hj]
  · rw [if_pos rfl, BitVec.getLsbD_or, getLsbD_twoPow i j hj]
    by_cases h : i = j <;> simp [h]

/-- Setting the bits of the listed numbers that hold `p`. -/
theorem bit_foldl_setBit_true {n : Nat} (p : Fin n → Bool) (j : Fin n) : ∀ (xs : List (Fin n)) (w : BitVec n),
    bit (xs.foldl (fun l i => if p i then setBit l i.val true else l) w) j.val = (bit w j.val || (xs.contains j && p j))
  | [], w => by simp
  | i :: xs, w => by
    rw [List.foldl_cons, bit_foldl_setBit_true p j xs, List.contains_cons]
    have hv : i.val = j.val ↔ i = j := Fin.ext_iff.symm
    by_cases hij : i = j
    · subst hij
      cases hp : p i <;> simp [bit_setBit]
    · have : (j == i) = false := by simp [Ne.symm hij]
      cases hp : p i <;> simp [bit_setBit, hv, hij, this]

/-- Giving the bits of the listed numbers the values of `p`. -/
theorem bit_foldl_setBit {n : Nat} (p : Fin n → Bool) (j : Fin n) : ∀ (xs : List (Fin n)) (w : BitVec n),
    bit (xs.foldl (fun l i => setBit l i.val (p i)) w) j.val = if xs.contains j then p j else bit w j.val
  | [], w => by simp
  | i :: xs, w => by
    rw [List.foldl_cons, bit_foldl_setBit p j xs, List.contains_cons, bit_setBit _ _ _ _ j.isLt]
    have hv : i.val = j.val ↔ i = j := Fin.ext_iff.symm
    by_cases hij : i = j
    · subst hij
      simp
    · have : (j == i) = false := by simp [Ne.symm hij]
      simp [hv, hij, this]

theorem bit_foldl_range (p : Nat → Bool) (c : Nat) (hc : c < 32) : ∀ n : Nat,
    bit ((List.range n).foldl (fun (w : Word) c => if p c then w ||| BitVec.ofNat 32 (2 ^ c) else w) 0) c =
      (decide (c < n) && p c)
  | 0 => by simp [bit]
  | n + 1 => by
    have ih := bit_foldl_range p c hc n
    have hbit := getLsbD_twoPow (n := 32) n c hc
    rw [List.range_succ, List.foldl_append, List.foldl_cons, List.foldl_nil]
    by_cases hnc : n = c
    · subst hnc
      cases hp : p n
      · simpa [hp] using ih
      · simp only [bit, if_true, BitVec.getLsbD_or, hbit]
        simp
    · have hlt : decide (c < n + 1) = decide (c < n) := by
        simp only [decide_eq_decide]; omega
      rw [hlt, ← ih]
      cases hp : p n
      · rfl
      · simp only [bit, if_true, BitVec.getLsbD_or, hbit, hnc, decide_false, Bool.or_false]

theorem bit_fltActive {s : State} (hs : s.resetHeld = false) {c : Nat} (hc : c < 32) : bit (fltActive s) c = fltCond s c := by
  rw [fltActive, if_neg (by simp [hs]), bit_foldl_range _ _ hc]
  simp [hc]

theorem contains_finRange (n : Fin 4) : (List.finRange 4).contains n = true := by simp

/-- Settles O60, by the bits that the folds over the conditions and over the outputs set. -/
theorem faultOutputs_bits : Obligations.FaultOutputs := by
  intro s hs
  have ht : settle s = faultOutputs (enterAll s) := by simp [settle, hs]
  have hpm : (enterAll s).pm = s.pm := (enterAll_frame s).2.2.2.2 .pm (by simp)
  refine ⟨fun c hc => bit_fltActive hs hc, rfl, ?_⟩
  rw [ht]
  refine ⟨fun n => ⟨?_, ?_, ?_⟩, fun hk => ⟨?_, ?_⟩, fun hk => ?_⟩
  · simp only [faultOutputs, enterAll_flt, bit_foldl_setBit_true, contains_finRange, Bool.true_and]
  · simp only [faultOutputs, enterAll_flt, bit_foldl_setBit, bit_foldl_setBit_true, contains_finRange, Bool.true_and, if_true]
  · simp only [faultOutputs, enterAll_flt, bit_foldl_setBit, bit_foldl_setBit_true, contains_finRange, Bool.true_and, if_true]
  · simp only [faultOutputs, hpm, hk, Bool.false_eq_true, if_false]
  · simp only [faultOutputs, hpm, hk, Bool.false_eq_true, if_false, enterAll_flt]
    cases (enterAll s).hosts.evq[(0 : Fin 3)] <;> simp
  · simp only [faultOutputs, hpm, hk, if_true, enterAll_pads]

end Sys2Proof.Machine

end

section
/-!
PROOFS. The power stage (R176-R206): O30, O31, O32.
-/

namespace Sys2Proof.Machine

open Sys2Proof.Safety

/-! Vectors changed at one entry. -/

theorem vset_vset {α : Type} {n : Nat} (v : Vector α n) (i : Fin n) (x y : α) : vset (vset v i x) i y = vset v i y := by
  simp [vset]

theorem vmod_vmod {α : Type} {n : Nat} (v : Vector α n) (i : Fin n) (f g : α → α) :
    vmod (vmod v i f) i g = vset v i (g (f v[i])) := by
  unfold vmod
  rw [vset_vset, vset_get_fin, if_pos rfl]

/-! Rails and clocks (R182-R202). -/

theorem railNeedBlock_does {s : State} {b : Fin 8} (ws : List (BitVec 24)) (hs : s.resetHeld = false) (h1 : brUp s b = true)
    (h2 : s.arb.coreRun = true) (h3 : rslot s b.val ≠ 0) :
    Does (.railNeedBlock b ws) s (settleBridges (takeNeeds b ws s)) := by
  simp [Does, exec, execRailNeedBlock, act_eq _ hs, h1, h2, h3]

/-- R202: the muted die keeps its rail target. -/
theorem clockMute_on {s : State} {d : Fin 4} (h : dieOn s d.val = true) :
    clockMute d s = raiseEv 84 d.val (raiseEv 3 (9 + d.val)
      { s with bridges := vmap s.bridges fun b x => if b.val / 2 = d.val then muteBridge x else x
               dies := vmod s.dies d fun x => { x with modOk := false } }) := by
  have hd : (modDie (modDieBridges d muteBridge (modDie s d fun x => { x with modOk := false })) d fun x =>
      { x with target := s.dies[d].target }).dies = vmod s.dies d fun x => { x with modOk := false } :=
    vmod_vmod s.dies d (fun x => { x with modOk := false }) (fun x => { x with target := s.dies[d].target })
  simp only [clockMute, h, if_true]
  rw [← hd]
  rfl

theorem clockValid_on {s : State} {d : Fin 4} (h : dieOn s d.val = true) (hc : s.arb.coreRun = true) :
    clockValid d s = settleBridges
      { s with bridges := vmap s.bridges fun b x =>
                 if b.val / 2 = d.val then (if x.st = 7 || (x.st = 8 && !dieHeldOff s d) then brResume x else x) else x
               dies := vmod s.dies d fun x => { x with modOk := true } } := by
  simp only [clockValid, h, hc, Bool.and_self, if_true]
  rfl

theorem muteBridge_running {x : Bridge} (h : x.st = 1 ∨ x.st = 2 ∨ x.st = 3) :
    muteBridge x = { enterState 7 x with clkSeen := true } := by
  rw [muteBridge, if_pos (by simpa [or_assoc] using h)]

theorem muteBridge_probe {x : Bridge} (h : x.st = 5) :
    muteBridge x = { enterState 4 x with cooled := true, shortSeen := true, clkSeen := true } := by
  rw [muteBridge, if_neg (by simp [h]), if_pos h]

theorem muteBridge_other {x : Bridge} (h : x.st = 0 ∨ x.st = 4 ∨ x.st = 6 ∨ x.st = 7 ∨ x.st = 8) : muteBridge x = x := by
  rcases h with h | h | h | h | h <;> rw [muteBridge, if_neg (by simp [h]), if_neg (by simp [h])]

theorem brNext_off {s : State} {b : Fin 8} {x : Bridge} (h : x.st = 0) :
    brNext s b x = if x.startReq && startReady s b then beginSoft x else x := by
  simp only [brNext, h]
  rfl

theorem brNext_playing {s : State} {b : Fin 8} {x : Bridge} (h : x.st = 1 ∨ x.st = 2) :
    brNext s b x = if x.runBit then x else beginStop x := by
  rcases h with h | h <;> simp only [brNext, h] <;> rfl

theorem brNext_stays {s : State} {b : Fin 8} {x : Bridge} (h : x.st = 3 ∨ x.st = 5 ∨ x.st = 7 ∨ x.st = 8) :
    brNext s b x = x := by
  rcases h with h | h | h | h <;> simp only [brNext, h] <;> rfl

theorem startReady_of_rslot {s : State} {b : Fin 8} (h : rslot s b.val = 0) : startReady s b = false := by
  simp [startReady, h]

/-- Settles O30: each row is its branch of the model, and the changes of one bridge follow its state. -/
theorem railsAndClocks : Obligations.RailsAndClocks := by
  refine ⟨fun s hs => ⟨fun b ws h1 h2 h3 => railNeedBlock_does ws hs h1 h2 h3, fun b h1 h2 h3 => ?_, fun b h => ?_,
    fun b h1 h2 h3 => ⟨modBridge s b (enterState 0), ?_, ?_, fun e he => ?_⟩, fun b h => ?_, fun b => ?_, fun d h => ?_,
    fun d h => ?_, fun d h hc => ?_⟩,
    fun n w ws => rfl,
    fun x => ⟨fun h => ?_, fun h => ?_, muteBridge_other, fun h => ?_, fun h => ?_⟩,
    fun s b x => ⟨fun h hr hy => ?_, fun h hy => ?_, fun h hr => ?_, fun h hr => ?_, brNext_stays, startReady_of_rslot⟩⟩
  · simp only [Does, exec, execSoftstartDone, act_eq _ hs, h1, h2, h3, decide_true, Bool.and_self, if_true]
  · have hf : (brUp s b && (s.bridges[b]).st = 1 && (s.bridges[b]).fade) = false := by
      rcases h with h | h <;> simp only [h, decide_false, Bool.and_false, Bool.false_and]
    simp only [Does, exec, execSoftstartDone, act_eq _ hs, hf, Bool.false_eq_true, if_false]
  · simp only [Does, exec, execStopComplete, act_eq _ hs, h1, h2, h3, decide_true, Bool.and_self, if_true]
  · rw [modBridge_bridges, vmod_get_fin, if_pos rfl]
    rfl
  · rw [modBridge_bridges, vmod_get_fin, if_neg (Ne.symm he)]
  · have hf : (brUp s b && (s.bridges[b]).st = 3 && (getSink s.core.fab (8 + b.val)).u = 0) = false := by
      rcases h with h | h <;> simp only [h, decide_false, Bool.and_false, Bool.false_and]
    simp only [Does, exec, execStopComplete, act_eq _ hs, hf, Bool.false_eq_true, if_false]
  · simp only [Does, exec, execTripBlankingEnd, act_eq _ hs]
  · simp only [Does, exec, execRailGuardEnd, act_eq _ hs, guardEnd, h, if_true]
  · simp only [Does, exec, execClockErrorMute, act_eq _ hs, clockMute_on h]
  · simp only [Does, exec, execClockValid, act_eq _ hs, clockValid_on h hc]
  · rw [muteBridge_running h]
    exact ⟨rfl, rfl⟩
  · rw [muteBridge_probe h]
    exact ⟨rfl, rfl, rfl, rfl⟩
  · simp only [brResume, h, if_true]
    rfl
  · simp only [brResume, h, Bool.false_eq_true, if_false]
    rfl
  · rw [brNext_off h, hr, hy]
    rfl
  · rw [brNext_off h, hy]
    simp
  · rw [brNext_playing h, hr]
    rfl
  · rw [brNext_playing h, hr]
    rfl

/-! Thermal thresholds and boost faults (R176, R204, R205). -/

theorem stepOf_cool {tj : BitVec 8} (h : tj.toNat < 199) : stepOf tj = 0 := by
  simp only [stepOf]
  repeat' split
  all_goals omega

theorem stepOf_hot {tj : BitVec 8} (h : 211 ≤ tj.toNat) : stepOf tj = 4 := by
  rw [stepOf, if_pos h]

theorem leaveDieOff_eq (d : Fin 4) (u : State) : leaveDieOff d u =
    if (u.dies[d]).modOk && !dieHeldOff u d
    then settleBridges (modDieBridges d (fun y => if y.st = 8 then brResume y else y) u) else u := rfl

/-- R204, R176: Tj reaches `tj` on a powered die. -/
theorem thermalRise_on {s : State} {d : Fin 4} (tj : BitVec 8) (h : dieOn s d.val = true) : thermalRise d tj s =
    let x := s.dies[d]
    let y : Die := { x with tj := tj, twarn := x.twarn || 189 ≤ tj.toNat, tstep := max x.tstep (stepOf tj),
                            tshut := x.tshut || 214 ≤ tj.toNat }
    let s1 := modDie s d fun _ => y
    let s2 := if y.tshut && !x.tshut then updateRails (modDieBridges d toDieOff s1) else s1
    if y.twarn ≠ x.twarn || y.tstep ≠ x.tstep || y.tshut ≠ x.tshut then thermalEvent d s2 else s2 := by
  simp only [thermalRise, h, if_true]

/-- Settles O32: each row by the branch of its operation that its temperature or its fault takes. -/
theorem thermalAndBoost : Obligations.ThermalAndBoost := by
  intro s d hs hd
  refine ⟨fun tj h1 h2 => ?_, fun tj h1 h2 h3 => ?_, fun tj h1 => ?_, fun tj h1 h2 h3 => ?_, fun tj h1 h2 => ?_, fun tj h1 h2 => ?_,
    fun tj h1 h2 => ?_, fun t h => ?_, fun h1 h2 => ?_, fun u => ⟨fun h => ?_, fun h => ?_⟩, fun y => ⟨fun h => ?_, fun h1 h2 => ?_⟩⟩
  · simp only [Does, exec, execThermalThreshold, act_eq _ hs, thermalRise_on tj hd, stepOf_hot (by omega : 211 ≤ tj.toNat), h2,
      show 189 ≤ tj.toNat by omega, h1]
    simp
  · have hn : ¬ 214 ≤ tj.toNat := by omega
    simp only [Does, exec, execThermalThreshold, act_eq _ hs, thermalRise_on tj hd, stepOf_cool h2, h3, h1, hn]
    simp
  · have hn : ¬ 214 ≤ tj.toNat := by omega
    have hm : ¬ 189 ≤ tj.toNat := by omega
    simp only [Does, exec, execThermalThreshold, act_eq _ hs, thermalRise_on tj hd, stepOf_cool (by omega : tj.toNat < 199), hn, hm]
    simp
  · have hn : ¬ 214 ≤ tj.toNat := by omega
    simp only [Does, exec, execThermalThreshold, act_eq _ hs, thermalRise_on tj hd, hn, h1, Nat.max_eq_right h2.le,
      ne_eq, Nat.ne_of_gt h2]
    simp
  · simp only [Does, exec, execThermalStepFall, act_eq _ hs, thermalFall, hd, h1, h2, decide_true, Bool.and_self, if_true]
  · simp only [Does, exec, execThermalShutdownClear, act_eq _ hs, thermalClear, hd, h1, h2, decide_true, Bool.and_self, if_true]
  · simp only [Does, exec, execTwarnClear, act_eq _ hs, twarnClear, hd, h1, h2, decide_true, Bool.and_self, if_true]
  · simp only [Does, exec, execBoostFault, act_eq _ hs, boostFault, hd, h, Bool.not_false, Bool.and_self, if_true]
  · simp only [Does, exec, execBoostRestart, act_eq _ hs, boostRestart, hd, h1, h2, Bool.not_false, Bool.and_self, if_true]
  · rw [leaveDieOff_eq, if_neg (by simpa using h)]
  · rw [leaveDieOff_eq, if_pos h]
  · rw [toDieOff, if_pos (by simpa using h)]
  · rw [toDieOff, if_neg (by simp only [h1, h2, decide_false, Bool.or_self]; exact Bool.false_ne_true)]
    rfl

/-! Overcurrent, SHORT and the probe (R199-R201). -/

theorem mate_ne (b : Fin 8) : mate b ≠ b := by revert b; decide

theorem ends_single {s : State} {b : Fin 8} (h : isLoop s b.val = false) : ends s b = [b] := by simp [ends, h]

theorem ends_pair {s : State} {b : Fin 8} (h : isLoop s b.val = true) : ends s b = [b, mate b] := by simp [ends, h]

/-- The bridges listed, each changed by `f`. -/
def modEnds (f : Bridge → Bridge) (es : List (Fin 8)) (s : State) : State := es.foldl (fun t e => modBridge t e f) s

theorem modEnds_bridges {s : State} {b : Fin 8} (f : Bridge → Bridge) (t : State) (e : Fin 8) :
    (modEnds f (ends s b) t).bridges[e] = if e ∈ ends s b then f t.bridges[e] else t.bridges[e] := by
  cases h : isLoop s b.val
  · simp only [ends_single h, modEnds, List.foldl, modBridge_bridges, vmod_get_fin, List.mem_singleton, eq_comm]
  · simp only [ends_pair h, modEnds, List.foldl, modBridge_bridges, vmod_get_fin, List.mem_cons, List.not_mem_nil, or_false]
    by_cases hb : e = b
    · subst hb
      simp only [mate_ne, if_false, true_or, if_true]
    · by_cases hm : e = mate b
      · subst hm
        simp only [Ne.symm (mate_ne b), if_false, if_true, or_true]
      · simp only [Ne.symm hb, Ne.symm hm, hb, hm, if_false, or_self]

theorem raiseEv_bridges (src p : Nat) (s : State) : (raiseEv src p s).bridges = s.bridges := rfl

theorem foldl_raiseEv_bridges (src : Nat) (p : Fin 8 → State → Nat) : ∀ (es : List (Fin 8)) (s : State),
    (es.foldl (fun t e => raiseEv src (p e t) t) s).bridges = s.bridges
  | [], _ => rfl
  | e :: es, s => by rw [List.foldl_cons, foldl_raiseEv_bridges src p es, raiseEv_bridges]

theorem recentTrips_tripWin (t : Nat) (w : List Nat) : recentTrips t (tripWin t w) = tripWin t w := by
  simp [tripWin, recentTrips]

/-- R199: what a trip at instant `t` does to its bridge at once. -/
def tripped (t : Nat) (x : Bridge) : Bridge :=
  { x with win := tripWin t x.win, trips := sat8 x.trips, blank := x.st ≠ 7, probeTrip := x.probeTrip || x.tone }

/-- R199: a bridge that enters SHORT by a trip at instant `t`. -/
def shorted (t : Nat) (y : Bridge) : Bridge := enterShort { y with win := recentTrips t y.win }

theorem shorted_st (t : Nat) (y : Bridge) : (shorted t y).st = 4 := rfl

section
variable {s : State} {b : Fin 8} (hu : brUp s b = true)
include hu

theorem trip_counts {t : Nat} (h : contributes s.bridges[b] = true ∨ (s.bridges[b]).st = 7)
    (hc : (tripWin t (s.bridges[b]).win).length ≤ fld (brWord s b.val) 15 6 ∨ (s.bridges[b]).st = 5) :
    trip b t s = raiseLimited 81 b.val b.val none (modBridge s b (tripped t)) := by
  have h1 : (contributes s.bridges[b] || (s.bridges[b]).st = 7) = true := by simpa using h
  have h2 : (decide (fld (brWord s b.val) 15 6 < (tripWin t (s.bridges[b]).win).length) && (s.bridges[b]).st ≠ 5) = false := by
    rcases hc with hc | hc
    · rw [decide_eq_false (not_lt.mpr hc), Bool.false_and]
    · simp only [hc, ne_eq, not_true_eq_false, decide_false, Bool.and_false]
  simp only [trip, hu, h1, h2, Bool.and_self, if_true, Bool.false_eq_true, if_false]
  rfl

theorem trip_shorts {t : Nat} (h : contributes s.bridges[b] = true ∨ (s.bridges[b]).st = 7)
    (hc : fld (brWord s b.val) 15 6 < (tripWin t (s.bridges[b]).win).length) (h5 : (s.bridges[b]).st ≠ 5) :
    trip b t s = updateRails ((ends s b).foldl (fun t e => shortEvent e t)
      (modEnds (shorted t) (ends s b) (modBridge s b (tripped t)))) := by
  have h1 : (contributes s.bridges[b] || (s.bridges[b]).st = 7) = true := by simpa using h
  simp only [trip, hu, h1, hc, h5, ne_eq, not_false_eq_true, decide_true, Bool.and_self, if_true]
  rfl

omit hu in
theorem trip_idle {t : Nat} (h : contributes s.bridges[b] = false) (h7 : (s.bridges[b]).st ≠ 7) : trip b t s = s := by
  simp only [trip, h, h7, decide_false, Bool.or_self, Bool.and_false, Bool.false_eq_true, if_false]

omit hu in
theorem probeEnd_idle {m : EndMeas} (h : (s.bridges[b]).st ≠ 5 ∨ (s.bridges[b]).tone = false) : probeEnd b m s = s := by
  have hf : (brUp s b && (s.bridges[b]).st = 5 && (s.bridges[b]).tone) = false := by
    rcases h with h | h <;> simp only [h, decide_false, Bool.and_false, Bool.false_and]
  simp only [probeEnd, hf, Bool.false_eq_true, if_false]

/-- R201: the state in which the verdict of a probe is taken: the tone's result stands in its bridge. -/
def probed (m : EndMeas) (b : Fin 8) (s : State) : State := freeTaken (modBridge s b (probeTake (bit (freeVal s) 0) m))

omit hu in
theorem probed_bridges (m : EndMeas) (e : Fin 8) : (probed m b s).bridges[e] =
    if b = e then probeTake (bit (freeVal s) 0) m s.bridges[e] else s.bridges[e] := by
  rw [probed, freeTaken_bridges, modBridge_bridges, vmod_get_fin]

theorem probeEnd_verdict {m : EndMeas} (h5 : (s.bridges[b]).st = 5) (ht : (s.bridges[b]).tone = true)
    (hl : isLoop s b.val = false ∨ b.val % 2 = 1) : probeEnd b m s = probeVerdict b (probed m b s) := by
  have hf : (isLoop s b.val && decide (b.val % 2 = 0)) = false := by
    rcases hl with hl | hl
    · rw [hl, Bool.false_and]
    · rw [decide_eq_false (by omega), Bool.and_false]
  simp only [probeEnd, hu, h5, ht, hf, decide_true, Bool.and_self, if_true, Bool.false_eq_true, if_false]
  rfl

theorem probeEnd_handsOver {m : EndMeas} (h5 : (s.bridges[b]).st = 5) (ht : (s.bridges[b]).tone = true)
    (hl : isLoop s b.val = true) (h2 : b.val % 2 = 0) : probeEnd b m s =
      updateRails (modBridge (modBridge (probed m b s) b fun y => { y with held := true, exc := [] }) (mate b) fun y =>
        { y with held := false, ssAge := 0, tone := false, probeTrip := false }) := by
  simp only [probeEnd, hu, h5, ht, hl, h2, decide_true, Bool.and_self, if_true]
  rfl

end

theorem probeVerdict_passed {s : State} {b : Fin 8} (h : (ends s b).all (fun e => (s.bridges[e]).probeOk) = true) :
    probeVerdict b s = settleBridges ((ends s b).foldl (fun t e => raiseEv 82 (e.val + 8 * (s.bridges[e]).probeZ.toNat) t)
      (modEnds (probePassed (bit (brWord s b.val) 29)) (ends s b) s)) := by
  simp only [probeVerdict, h, if_true]
  rfl

theorem probeVerdict_failed {s : State} {b : Fin 8} (h : (ends s b).all (fun e => (s.bridges[e]).probeOk) = false) :
    probeVerdict b s = updateRails
      (if fld (brWord s b.val) 27 2 ≠ 0 && fld (brWord s b.val) 27 2 ≤ (s.bridges[b]).prbFail + 1 then
        (ends s b).foldl (fun t e => raiseEv 83 (e.val + 8 * (s.bridges[e]).probeZ.toNat) t)
          (modEnds (probeFailed (fld (brWord s b.val) 27 2) ((s.bridges[b]).prbFail + 1)) (ends s b) s)
      else modEnds (probeFailed (fld (brWord s b.val) 27 2) ((s.bridges[b]).prbFail + 1)) (ends s b) s) := by
  simp only [probeVerdict, h, Bool.false_eq_true, if_false]
  rfl

theorem probePassed_st (auto : Bool) (x : Bridge) : (probePassed auto x).st = if auto then 1 else 0 := by
  cases auto <;> rfl

theorem probePassed_kept (auto : Bool) (x : Bridge) :
    (probePassed auto x).prbFail = 0 ∧ (probePassed auto x).probeZ = x.probeZ := by
  cases auto <;> exact ⟨rfl, rfl⟩

theorem probeFailed_prbFail (mx n : Nat) (x : Bridge) : (probeFailed mx n x).prbFail = min 3 n := by
  unfold probeFailed
  split <;> rfl

theorem probeFailed_again {mx n : Nat} (x : Bridge) (h : mx = 0 ∨ n < mx) :
    (probeFailed mx n x).st = 4 ∧ (probeFailed mx n x).cooled = false := by
  rw [probeFailed, if_pos (by simpa using h)]
  exact ⟨rfl, rfl⟩

theorem probeFailed_lockout {mx n : Nat} (x : Bridge) (h : ¬ (mx = 0 ∨ n < mx)) :
    (probeFailed mx n x).st = 6 ∧ (probeFailed mx n x).startReq = false := by
  rw [probeFailed, if_neg (by simpa using h)]
  exact ⟨rfl, rfl⟩

theorem probeTake_probeOk (up : Bool) (m : EndMeas) (x : Bridge) :
    (probeTake up m x).probeOk = (probeClear x.mode m && !x.probeTrip) := rfl

/-- The row of a tone's end, on a device that is not held in reset. -/
theorem probeToneEnd_does {s t : State} {b : Fin 8} (m : EndMeas) (hs : s.resetHeld = false) (h : probeEnd b m s = t) :
    Does (.probeToneEnd b m.v m.i) s t := by
  subst h
  simp only [Does, exec, execProbeToneEnd, act_eq _ hs]

theorem overcurrentTrip_does {s t : State} {b : Fin 8} {n : Nat} (hs : s.resetHeld = false) (h : trip b n s = t) :
    Does (.overcurrentTrip b n) s t := by
  subst h
  simp only [Does, exec, execOvercurrentTrip, act_eq _ hs]

theorem cooldownEnd_does {s t : State} {b : Fin 8} (hs : s.resetHeld = false) (h : cooldownEnd b s = t) :
    Does (.cooldownEnd b) s t := by
  subst h
  simp only [Does, exec, execCooldownEnd, act_eq _ hs]

theorem foldl_shortEvent_bridges : ∀ (es : List (Fin 8)) (s : State), (es.foldl (fun t e => shortEvent e t) s).bridges = s.bridges
  | [], _ => rfl
  | e :: es, s => (foldl_shortEvent_bridges es (shortEvent e s)).trans (raiseEv_bridges _ _ s)

/-- R199: into SHORT go the bridge and the other end of its loop, and no other bridge. -/
theorem shorts_bridges {s : State} {b : Fin 8} (t : Nat) (e : Fin 8) :
    (((ends s b).foldl (fun t e => shortEvent e t) (modEnds (shorted t) (ends s b) (modBridge s b (tripped t)))).bridges[e]) =
      if e ∈ ends s b then shorted t (if b = e then tripped t s.bridges[e] else s.bridges[e])
      else if b = e then tripped t s.bridges[e] else s.bridges[e] := by
  rw [foldl_shortEvent_bridges, modEnds_bridges, modBridge_bridges, vmod_get_fin]

theorem mem_ends_self (s : State) (b : Fin 8) : b ∈ ends s b := by
  unfold ends
  split <;> simp

/-- R201: the verdict on a single bridge. -/
theorem probe_single {s : State} {b : Fin 8} (hu : brUp s b = true) (m : EndMeas) (h5 : (s.bridges[b]).st = 5)
    (ht : (s.bridges[b]).tone = true) (hl : isLoop s b.val = false) :
    let x := s.bridges[b]
    let w := brWord s b.val
    let q := probeOhms (bit (freeVal s) 0) m
    let t := probeEnd b m s
    (probeClear x.mode m = true → x.probeTrip = false → ∃ u, t = settleBridges (raiseEv 82 (b.val + 8 * q.toNat) u) ∧
      (u.bridges[b]).probeZ = q ∧ (u.bridges[b]).prbFail = 0 ∧
      (bit w 29 = true → (u.bridges[b]).st = 1 ∧ (u.bridges[b]).fade = true) ∧
      (bit w 29 = false → (u.bridges[b]).st = 0 ∧ (u.bridges[b]).startReq = false)) ∧
    (probeClear x.mode m = false ∨ x.probeTrip = true →
      (fld w 27 2 = 0 ∨ x.prbFail + 1 < fld w 27 2 → ∃ u, t = updateRails u ∧
        (u.bridges[b]).st = 4 ∧ (u.bridges[b]).cooled = false ∧ (u.bridges[b]).prbFail = min 3 (x.prbFail + 1)) ∧
      (fld w 27 2 ≠ 0 → fld w 27 2 ≤ x.prbFail + 1 → ∃ u, t = updateRails (raiseEv 83 (b.val + 8 * q.toNat) u) ∧
        (u.bridges[b]).st = 6 ∧ (u.bridges[b]).startReq = false)) := by
  intro x w q t
  have hv : t = probeVerdict b (probed m b s) := probeEnd_verdict hu h5 ht (.inl hl)
  have he : ends (probed m b s) b = [b] := ends_single hl
  have hb : (probed m b s).bridges[b] = probeTake (bit (freeVal s) 0) m x := by rw [probed_bridges, if_pos rfl]
  have hq : ((probed m b s).bridges[b]).probeZ = q := by rw [hb]; rfl
  have hn : ((probed m b s).bridges[b]).prbFail = x.prbFail := by rw [hb]; rfl
  have hw : brWord (probed m b s) b.val = w := rfl
  have hend : ∀ f, (modEnds f (ends (probed m b s) b) (probed m b s)).bridges[b] = f ((probed m b s).bridges[b]) := fun f => by
    rw [modEnds_bridges, if_pos (mem_ends_self _ b)]
  refine ⟨fun hc hp => ?_, fun hc => ?_⟩
  · have hok : (ends (probed m b s) b).all (fun e => ((probed m b s).bridges[e]).probeOk) = true := by
      simp only [he, List.all_cons, List.all_nil, hb, probeTake_probeOk]
      rw [hc, hp]
      rfl
    refine ⟨modEnds (probePassed (bit w 29)) (ends (probed m b s) b) (probed m b s), ?_, ?_, ?_, fun h => ?_, fun h => ?_⟩
    · rw [hv, probeVerdict_passed hok, hw, he, ← hq]
      rfl
    · rw [hend, (probePassed_kept _ _).2, hq]
    · rw [hend, (probePassed_kept _ _).1]
    · rw [hend, h]
      exact ⟨rfl, rfl⟩
    · rw [hend, h]
      exact ⟨rfl, rfl⟩
  · have hok : (ends (probed m b s) b).all (fun e => ((probed m b s).bridges[e]).probeOk) = false := by
      simp only [he, List.all_cons, List.all_nil, hb, probeTake_probeOk]
      rcases hc with hc | hc <;> simp only [x] at hc <;> simp only [x, hc, Bool.false_and, Bool.and_false, Bool.not_true]
    have hf := probeVerdict_failed hok
    rw [hw, hn] at hf
    refine ⟨fun h => ⟨modEnds (probeFailed (fld w 27 2) (x.prbFail + 1)) (ends (probed m b s) b) (probed m b s), ?_, ?_, ?_, ?_⟩,
      fun h1 h2 => ⟨modEnds (probeFailed (fld w 27 2) (x.prbFail + 1)) (ends (probed m b s) b) (probed m b s), ?_, ?_⟩⟩
    · rw [hv, hf, if_neg]
      simp only [ne_eq, Bool.and_eq_true, decide_eq_true_eq, not_and, not_le]
      intro h0
      exact h.resolve_left h0
    · rw [hend, (probeFailed_again _ h).1]
    · rw [hend, (probeFailed_again _ h).2]
    · rw [hend, probeFailed_prbFail]
    · rw [hv, hf, if_pos (by simp only [h1, h2, ne_eq, not_false_eq_true, decide_true, Bool.and_self]), he, ← hq]
      rfl
    · rw [hend]
      exact probeFailed_lockout _ (by omega)

/-- R201: the verdict on a loop pair, taken when its end B has been probed. -/
theorem probe_pair {s : State} {b : Fin 8} (hu : brUp s b = true) (m : EndMeas) (h5 : (s.bridges[b]).st = 5)
    (ht : (s.bridges[b]).tone = true) (hl : isLoop s b.val = true) (h2 : b.val % 2 = 1) :
    let x := s.bridges[b]
    let w := brWord s b.val
    let pass := probeClear x.mode m = true ∧ x.probeTrip = false ∧ (s.bridges[mate b]).probeOk = true
    let t := probeEnd b m s
    (pass → ∃ u, t = settleBridges u ∧ ∀ e ∈ [b, mate b],
      (u.bridges[e]).prbFail = 0 ∧ (u.bridges[e]).st = (if bit w 29 then 1 else 0)) ∧
    (¬ pass → ∃ u, t = updateRails u ∧ ∀ e ∈ [b, mate b],
      (u.bridges[e]).prbFail = min 3 (x.prbFail + 1) ∧
      (u.bridges[e]).st = (if fld w 27 2 = 0 ∨ x.prbFail + 1 < fld w 27 2 then 4 else 6)) := by
  intro x w pass t
  have hv : t = probeVerdict b (probed m b s) := probeEnd_verdict hu h5 ht (.inr h2)
  have he : ends (probed m b s) b = [b, mate b] := ends_pair hl
  have hb : (probed m b s).bridges[b] = probeTake (bit (freeVal s) 0) m x := by rw [probed_bridges, if_pos rfl]
  have hm : (probed m b s).bridges[mate b] = s.bridges[mate b] := by rw [probed_bridges, if_neg (Ne.symm (mate_ne b))]
  have hn : ((probed m b s).bridges[b]).prbFail = x.prbFail := by rw [hb]; rfl
  have hw : brWord (probed m b s) b.val = w := rfl
  have hend : ∀ f, ∀ e ∈ [b, mate b],
      (modEnds f (ends (probed m b s) b) (probed m b s)).bridges[e] = f ((probed m b s).bridges[e]) := fun f e h => by
    rw [modEnds_bridges, if_pos (he ▸ h)]
  have hok : (ends (probed m b s) b).all (fun e => ((probed m b s).bridges[e]).probeOk) = decide pass := by
    simp only [he, List.all_cons, List.all_nil, hb, hm, probeTake_probeOk, pass, Bool.and_true, Bool.decide_and, Bool.decide_eq_true]
    rw [← Bool.and_assoc, Bool.decide_eq_false]
  refine ⟨fun hp => ?_, fun hp => ?_⟩
  · rw [hv, probeVerdict_passed (hok.trans (decide_eq_true hp)), hw]
    refine ⟨_, rfl, fun e h => ?_⟩
    rw [foldl_raiseEv_bridges 82 (fun e _ => e.val + 8 * ((probed m b s).bridges[e]).probeZ.toNat), hend _ e h]
    exact ⟨(probePassed_kept _ _).1, probePassed_st _ _⟩
  · rw [hv, probeVerdict_failed (hok.trans (decide_eq_false hp)), hw, hn]
    refine ⟨_, rfl, fun e h => ?_⟩
    have hu' : ∀ u : State, (if fld w 27 2 ≠ 0 && fld w 27 2 ≤ x.prbFail + 1 then
        (ends (probed m b s) b).foldl (fun t e => raiseEv 83 (e.val + 8 * ((probed m b s).bridges[e]).probeZ.toNat) t) u
        else u).bridges = u.bridges := fun u => by
      split
      · exact foldl_raiseEv_bridges 83 (fun e _ => e.val + 8 * ((probed m b s).bridges[e]).probeZ.toNat) _ u
      · rfl
    rw [hu', hend _ e h, probeFailed_prbFail]
    refine ⟨rfl, ?_⟩
    split
    case isTrue hc => exact (probeFailed_again _ hc).1
    case isFalse hc => exact (probeFailed_lockout _ hc).1

/-- Settles O31, by the branches of a trip, of a cool-down's end and of a probe tone's end. -/
theorem shortAndProbe : Obligations.ShortAndProbe := by
  intro s b hs hu
  refine ⟨fun t h => ⟨fun hc => overcurrentTrip_does hs (trip_counts hu h hc), fun hc h5 hl => ?_, fun hc h5 hl => ?_⟩,
    fun t h h7 => overcurrentTrip_does hs (trip_idle h h7), fun h4 hl => ?_, fun h4 hl => ?_, fun h4 => ?_,
    fun m h5 ht hl => ⟨_, probeToneEnd_does m hs rfl, probe_single hu m h5 ht hl⟩,
    fun m h5 ht hl h2 => ?_, fun m h5 ht hl h2 => ⟨_, probeToneEnd_does m hs rfl, probe_pair hu m h5 ht hl h2⟩,
    fun m h => probeToneEnd_does m hs (probeEnd_idle h)⟩
  · have he := ends_single hl
    have hbr : ∀ e : Fin 8, (modEnds (shorted t) (ends s b) (modBridge s b (tripped t))).bridges[e] =
        if b = e then shorted t (tripped t s.bridges[e]) else s.bridges[e] := fun e => by
      rw [modEnds_bridges, modBridge_bridges, vmod_get_fin, he]
      by_cases h : b = e
      · simp only [h, List.mem_singleton, if_true]
      · simp only [Ne.symm h, h, List.mem_singleton, if_false]
    refine ⟨modEnds (shorted t) (ends s b) (modBridge s b (tripped t)),
      overcurrentTrip_does hs ((trip_shorts hu h hc h5).trans ?_), ?_, ?_, ?_, fun e hne => ?_⟩
    · simp only [he, List.foldl, shortEvent]
      rw [← he, hbr b, if_pos rfl]
      simp only [shorted, tripped, enterShort, enterState, recentTrips_tripWin]
      rfl
    · rw [hbr b, if_pos rfl]
      rfl
    · rw [hbr b, if_pos rfl]
      rfl
    · rw [hbr b, if_pos rfl]
      rfl
    · rw [hbr e, if_neg (Ne.symm hne)]
  · refine ⟨_, overcurrentTrip_does hs (trip_shorts hu h hc h5), ?_, ?_, fun e hb hm => ?_⟩
    · rw [shorts_bridges, if_pos (by simp [ends_pair hl])]
      rfl
    · rw [shorts_bridges, if_pos (by simp [ends_pair hl])]
      rfl
    · rw [shorts_bridges, if_neg (by simp [ends_pair hl, hb, hm]), if_neg (Ne.symm hb)]
  · exact cooldownEnd_does hs (by simp only [cooldownEnd, h4, if_true, ends_single hl, List.foldl])
  · exact cooldownEnd_does hs (by simp only [cooldownEnd, h4, if_true, ends_pair hl, List.foldl])
  · exact cooldownEnd_does hs (by simp only [cooldownEnd, h4, if_false])
  · refine ⟨_, probeToneEnd_does m hs (probeEnd_handsOver hu h5 ht hl h2), ?_, ?_, ?_, ?_⟩ <;>
      simp only [modBridge_bridges, vmod_get_fin, probed_bridges, mate_ne b, Ne.symm (mate_ne b), if_true, if_false]
    exact h5

end Sys2Proof.Machine

end

section
/-!
PROOFS. What each operation of the model leaves unchanged. `rest ps s` is the state with the parts of `ps` blanked; an operation
that changes no part outside `ps` keeps it.
-/

namespace Sys2Proof.Machine

open Sys2Proof.Safety

/-- The state without the parts of `ps`, and without the entries that wait, the limiters and the ignore counters, which any
operation may change (R402-R403, R375). -/
def rest (ps : List Part) (s : State) : State :=
  { serial := s.serial, variant := s.variant, resetHeld := s.resetHeld, pending := s.pending
    feeds := if .feeds ∈ ps then .replicate 2 {} else s.feeds
    clk := if .clk ∈ ps then {} else s.clk
    time := if .time ∈ ps then {} else s.time
    arb := if .arb ∈ ps then {} else s.arb
    mirror := if .mirror ∈ ps then {} else s.mirror
    pm := if .pm ∈ ps then {} else s.pm
    core := if .core ∈ ps then {} else s.core
    dies := if .dies ∈ ps then .replicate 4 {} else s.dies
    bridges := if .bridges ∈ ps then .replicate 8 {} else s.bridges
    lmu := if .lmu ∈ ps then {} else s.lmu
    conv := if .conv ∈ ps then {} else s.conv
    sadc := if .sadc ∈ ps then {} else s.sadc
    wake := if .wake ∈ ps then {} else s.wake
    ret := if .ret ∈ ps then {} else s.ret
    hosts := if .hosts ∈ ps then {} else { s.hosts with lims := [], evBuf := [], ign := .replicate 4 {} }
    flt := if .flt ∈ ps then {} else s.flt
    pads := if .pads ∈ ps then {} else s.pads
    ports := if .ports ∈ ps then {} else s.ports
    tap := if .tap ∈ ps then {} else s.tap
    freeCtr := if .free ∈ ps then 0 else s.freeCtr }

section
variable {ps : List Part} {s t : State}

theorem rest_feeds (h : rest ps t = rest ps s) (hp : .feeds ∉ ps) : t.feeds = s.feeds := by
  simpa only [rest, if_neg hp] using congrArg State.feeds h
theorem rest_clk (h : rest ps t = rest ps s) (hp : .clk ∉ ps) : t.clk = s.clk := by
  simpa only [rest, if_neg hp] using congrArg State.clk h
theorem rest_time (h : rest ps t = rest ps s) (hp : .time ∉ ps) : t.time = s.time := by
  simpa only [rest, if_neg hp] using congrArg State.time h
theorem rest_arb (h : rest ps t = rest ps s) (hp : .arb ∉ ps) : t.arb = s.arb := by
  simpa only [rest, if_neg hp] using congrArg State.arb h
theorem rest_mirror (h : rest ps t = rest ps s) (hp : .mirror ∉ ps) : t.mirror = s.mirror := by
  simpa only [rest, if_neg hp] using congrArg State.mirror h
theorem rest_pm (h : rest ps t = rest ps s) (hp : .pm ∉ ps) : t.pm = s.pm := by
  simpa only [rest, if_neg hp] using congrArg State.pm h
theorem rest_core (h : rest ps t = rest ps s) (hp : .core ∉ ps) : t.core = s.core := by
  simpa only [rest, if_neg hp] using congrArg State.core h
theorem rest_dies (h : rest ps t = rest ps s) (hp : .dies ∉ ps) : t.dies = s.dies := by
  simpa only [rest, if_neg hp] using congrArg State.dies h
theorem rest_bridges (h : rest ps t = rest ps s) (hp : .bridges ∉ ps) : t.bridges = s.bridges := by
  simpa only [rest, if_neg hp] using congrArg State.bridges h
theorem rest_lmu (h : rest ps t = rest ps s) (hp : .lmu ∉ ps) : t.lmu = s.lmu := by
  simpa only [rest, if_neg hp] using congrArg State.lmu h
theorem rest_conv (h : rest ps t = rest ps s) (hp : .conv ∉ ps) : t.conv = s.conv := by
  simpa only [rest, if_neg hp] using congrArg State.conv h
theorem rest_sadc (h : rest ps t = rest ps s) (hp : .sadc ∉ ps) : t.sadc = s.sadc := by
  simpa only [rest, if_neg hp] using congrArg State.sadc h
theorem rest_wake (h : rest ps t = rest ps s) (hp : .wake ∉ ps) : t.wake = s.wake := by
  simpa only [rest, if_neg hp] using congrArg State.wake h
theorem rest_ret (h : rest ps t = rest ps s) (hp : .ret ∉ ps) : t.ret = s.ret := by
  simpa only [rest, if_neg hp] using congrArg State.ret h
theorem rest_flt (h : rest ps t = rest ps s) (hp : .flt ∉ ps) : t.flt = s.flt := by
  simpa only [rest, if_neg hp] using congrArg State.flt h
theorem rest_pads (h : rest ps t = rest ps s) (hp : .pads ∉ ps) : t.pads = s.pads := by
  simpa only [rest, if_neg hp] using congrArg State.pads h
theorem rest_ports (h : rest ps t = rest ps s) (hp : .ports ∉ ps) : t.ports = s.ports := by
  simpa only [rest, if_neg hp] using congrArg State.ports h
theorem rest_tap (h : rest ps t = rest ps s) (hp : .tap ∉ ps) : t.tap = s.tap := by
  simpa only [rest, if_neg hp] using congrArg State.tap h
theorem rest_freeCtr (h : rest ps t = rest ps s) (hp : .free ∉ ps) : t.freeCtr = s.freeCtr := by
  simpa only [rest, if_neg hp] using congrArg State.freeCtr h
theorem rest_hosts (h : rest ps t = rest ps s) (hp : .hosts ∉ ps) :
    { t.hosts with lims := [], evBuf := [], ign := .replicate 4 {} } =
      { s.hosts with lims := [], evBuf := [], ign := .replicate 4 {} } := by
  simpa only [rest, if_neg hp] using congrArg State.hosts h

/-- A state that agrees outside the parts of `ps` is framed by them. -/
theorem frame_of_rest (h : rest ps t = rest ps s) : Frame ps s t := by
  have hid : t.serial = s.serial ∧ t.variant = s.variant ∧ t.resetHeld = s.resetHeld ∧ t.pending = s.pending :=
    ⟨(congrArg State.serial h :), (congrArg State.variant h :), (congrArg State.resetHeld h :), (congrArg State.pending h :)⟩
  obtain ⟨h1, h2, h3, h4⟩ := hid
  refine ⟨h1, h2, h3, h4, fun p hp => ?_⟩
  cases p
  case feeds => exact rest_feeds h hp
  case clk => exact rest_clk h hp
  case time => exact rest_time h hp
  case arb => exact rest_arb h hp
  case mirror => exact rest_mirror h hp
  case pm => exact rest_pm h hp
  case core => exact rest_core h hp
  case dies => exact rest_dies h hp
  case bridges => exact rest_bridges h hp
  case lmu => exact rest_lmu h hp
  case conv => exact rest_conv h hp
  case sadc => exact rest_sadc h hp
  case wake => exact rest_wake h hp
  case ret => exact rest_ret h hp
  case tap => exact rest_tap h hp
  case free => exact rest_freeCtr h hp
  case hosts =>
    have e := congrArg (fun x : Hosts => { x with evq := s.hosts.evq, evTouched := s.hosts.evTouched, evLost := s.hosts.evLost, nextSeq := s.hosts.nextSeq, lims := s.hosts.lims, evBuf := s.hosts.evBuf, ign := s.hosts.ign })
      (rest_hosts h hp)
    exact e
  case flt =>
    simp only [Same, rest_flt h hp]
  case pads =>
    simp only [Same, rest_pads h hp]
  case ports =>
    simp only [Same, rest_ports h hp]
    exact same_refl .ports s

theorem rest_mono {qs : List Part} (h : rest ps t = rest ps s) (hq : ps ⊆ qs) : rest qs t = rest qs s := by
  have hb : ∀ u, rest qs u = rest qs (rest ps u) := fun u => by
    simp only [rest]
    congr 1 <;> split <;> first | rfl | (rw [if_neg (fun hm => by simp_all [hq hm])])
  rw [hb t, h, ← hb s]

end

/-! The updates of one part, and entries. -/

section
variable {ps : List Part}

@[simp] theorem rest_set_feeds (hp : .feeds ∈ ps) (x : Vector Feed 2) (s : State) : rest ps { s with feeds := x } = rest ps s := by
  simp only [rest, if_pos hp]
@[simp] theorem rest_set_clk (hp : .clk ∈ ps) (x : Clk) (s : State) : rest ps { s with clk := x } = rest ps s := by
  simp only [rest, if_pos hp]
@[simp] theorem rest_set_time (hp : .time ∈ ps) (x : Time) (s : State) : rest ps { s with time := x } = rest ps s := by
  simp only [rest, if_pos hp]
@[simp] theorem rest_set_arb (hp : .arb ∈ ps) (x : Arb) (s : State) : rest ps { s with arb := x } = rest ps s := by
  simp only [rest, if_pos hp]
@[simp] theorem rest_set_mirror (hp : .mirror ∈ ps) (x : Mirror) (s : State) : rest ps { s with mirror := x } = rest ps s := by
  simp only [rest, if_pos hp]
@[simp] theorem rest_set_pm (hp : .pm ∈ ps) (x : Pm) (s : State) : rest ps { s with pm := x } = rest ps s := by
  simp only [rest, if_pos hp]
@[simp] theorem rest_set_core (hp : .core ∈ ps) (x : CoreSt) (s : State) : rest ps { s with core := x } = rest ps s := by
  simp only [rest, if_pos hp]
@[simp] theorem rest_set_dies (hp : .dies ∈ ps) (x : Vector Die 4) (s : State) : rest ps { s with dies := x } = rest ps s := by
  simp only [rest, if_pos hp]
@[simp] theorem rest_set_bridges (hp : .bridges ∈ ps) (x : Vector Bridge 8) (s : State) : rest ps { s with bridges := x } = rest ps s := by
  simp only [rest, if_pos hp]
@[simp] theorem rest_set_lmu (hp : .lmu ∈ ps) (x : Lmu) (s : State) : rest ps { s with lmu := x } = rest ps s := by
  simp only [rest, if_pos hp]
@[simp] theorem rest_set_conv (hp : .conv ∈ ps) (x : Conv) (s : State) : rest ps { s with conv := x } = rest ps s := by
  simp only [rest, if_pos hp]
@[simp] theorem rest_set_sadc (hp : .sadc ∈ ps) (x : Sadc) (s : State) : rest ps { s with sadc := x } = rest ps s := by
  simp only [rest, if_pos hp]
@[simp] theorem rest_set_wake (hp : .wake ∈ ps) (x : Wake) (s : State) : rest ps { s with wake := x } = rest ps s := by
  simp only [rest, if_pos hp]
@[simp] theorem rest_set_ret (hp : .ret ∈ ps) (x : Ret) (s : State) : rest ps { s with ret := x } = rest ps s := by
  simp only [rest, if_pos hp]
@[simp] theorem rest_set_hosts (hp : .hosts ∈ ps) (x : Hosts) (s : State) : rest ps { s with hosts := x } = rest ps s := by
  simp only [rest, if_pos hp]
@[simp] theorem rest_set_flt (hp : .flt ∈ ps) (x : Flt) (s : State) : rest ps { s with flt := x } = rest ps s := by
  simp only [rest, if_pos hp]
@[simp] theorem rest_set_pads (hp : .pads ∈ ps) (x : Pads) (s : State) : rest ps { s with pads := x } = rest ps s := by
  simp only [rest, if_pos hp]
@[simp] theorem rest_set_ports (hp : .ports ∈ ps) (x : Ports) (s : State) : rest ps { s with ports := x } = rest ps s := by
  simp only [rest, if_pos hp]
@[simp] theorem rest_set_tap (hp : .tap ∈ ps) (x : Tap) (s : State) : rest ps { s with tap := x } = rest ps s := by
  simp only [rest, if_pos hp]
@[simp] theorem rest_freeTaken (hp : .free ∈ ps) (s : State) : rest ps (freeTaken s) = rest ps s := by
  simp only [rest, freeTaken, if_pos hp]
@[simp] theorem rest_modCore (hp : .core ∈ ps) (f : CoreSt → CoreSt) (s : State) : rest ps (modCore s f) = rest ps s := by
  simp only [rest, modCore, if_pos hp]
@[simp] theorem rest_modFab (hp : .core ∈ ps) (f : Fabric → Fabric) (s : State) : rest ps (modFab s f) = rest ps s := by
  simp only [rest, modFab, if_pos hp]
@[simp] theorem rest_modBridge (hp : .bridges ∈ ps) (b : Fin 8) (f : Bridge → Bridge) (s : State) : rest ps (modBridge s b f) = rest ps s := by
  simp only [rest, modBridge, if_pos hp]
@[simp] theorem rest_modDie (hp : .dies ∈ ps) (d : Fin 4) (f : Die → Die) (s : State) : rest ps (modDie s d f) = rest ps s := by
  simp only [rest, modDie, if_pos hp]
@[simp] theorem rest_modLine (hp : .lmu ∈ ps) (b : Fin 8) (f : Line → Line) (s : State) : rest ps (modLine s b f) = rest ps s := by
  simp only [rest, modLine, if_pos hp]
@[simp] theorem rest_modPm (hp : .pm ∈ ps) (f : Pm → Pm) (s : State) : rest ps (modPm s f) = rest ps s := by
  simp only [rest, modPm, if_pos hp]
@[simp] theorem rest_modHosts (hp : .hosts ∈ ps) (f : Hosts → Hosts) (s : State) : rest ps (modHosts s f) = rest ps s := by
  simp only [rest, modHosts, if_pos hp]
@[simp] theorem rest_modWake (hp : .wake ∈ ps) (f : Wake → Wake) (s : State) : rest ps (modWake s f) = rest ps s := by
  simp only [rest, modWake, if_pos hp]
@[simp] theorem rest_modConv (hp : .conv ∈ ps) (f : Conv → Conv) (s : State) : rest ps (modConv s f) = rest ps s := by
  simp only [rest, modConv, if_pos hp]
@[simp] theorem rest_modRet (hp : .ret ∈ ps) (f : Ret → Ret) (s : State) : rest ps (modRet s f) = rest ps s := by
  simp only [rest, modRet, if_pos hp]
@[simp] theorem rest_modSadc (hp : .sadc ∈ ps) (f : Sadc → Sadc) (s : State) : rest ps (modSadc s f) = rest ps s := by
  simp only [rest, modSadc, if_pos hp]
@[simp] theorem rest_modArb (hp : .arb ∈ ps) (f : Arb → Arb) (s : State) : rest ps (modArb s f) = rest ps s := by
  simp only [rest, modArb, if_pos hp]
@[simp] theorem rest_modMirror (hp : .mirror ∈ ps) (f : Mirror → Mirror) (s : State) : rest ps (modMirror s f) = rest ps s := by
  simp only [rest, modMirror, if_pos hp]
@[simp] theorem rest_modClk (hp : .clk ∈ ps) (f : Clk → Clk) (s : State) : rest ps (modClk s f) = rest ps s := by
  simp only [rest, modClk, if_pos hp]
@[simp] theorem rest_modTime (hp : .time ∈ ps) (f : Time → Time) (s : State) : rest ps (modTime s f) = rest ps s := by
  simp only [rest, modTime, if_pos hp]
@[simp] theorem rest_modPorts (hp : .ports ∈ ps) (f : Ports → Ports) (s : State) : rest ps (modPorts s f) = rest ps s := by
  simp only [rest, modPorts, if_pos hp]
@[simp] theorem rest_modTw (hp : .ports ∈ ps) (tw : TwId) (f : TwPort → TwPort) (s : State) : rest ps (modTw s tw f) = rest ps s := by
  simp only [rest, modTw, if_pos hp]
@[simp] theorem rest_modPv (hp : .ports ∈ ps) (pv : PortView) (f : PView → PView) (s : State) : rest ps (modPv s pv f) = rest ps s := by
  simp only [rest, modPv, if_pos hp]

@[simp] theorem rest_setEng (hp : .core ∈ ps ∧ .wake ∈ ps) (e : Eng) (x : Engine) (s : State) :
    rest ps (setEng s e x) = rest ps s := by
  unfold setEng
  split
  · exact rest_set_core hp.1 _ s
  · exact rest_set_wake hp.2 _ s

@[simp] theorem rest_modEng (hp : .core ∈ ps ∧ .wake ∈ ps) (e : Eng) (f : Engine → Engine) (s : State) :
    rest ps (modEng s e f) = rest ps s := rest_setEng hp e _ s

@[simp] theorem rest_raiseEntry (r : Raised) (s : State) : rest ps (raiseEntry r s) = rest ps s := by
  simp only [rest, raiseEntry]

@[simp] theorem rest_raiseEv (src p : Nat) (s : State) : rest ps (raiseEv src p s) = rest ps s := rest_raiseEntry _ s

theorem rest_lims (ls : List Lim) (s : State) : rest ps { s with hosts := { s.hosts with lims := ls } } = rest ps s := by
  simp only [rest]

@[simp] theorem rest_endLimiters (p : Lim → Bool) (s : State) : rest ps (endLimiters p s) = rest ps s := rest_lims _ s

@[simp] theorem rest_raiseLimited (src q p : Nat) (h : Option HostId) (s : State) :
    rest ps (raiseLimited src q p h s) = rest ps s := by
  unfold raiseLimited
  split
  · split
    · exact rest_lims _ s
    · exact (rest_raiseEntry _ _).trans (rest_lims _ s)
  · exact (rest_raiseEntry _ _).trans (rest_lims _ s)

@[simp] theorem rest_ignore (src : IgnSrc) (reason port loc : Nat) (s : State) :
    rest ps (ignore src reason port loc s) = rest ps s := by
  have h : ∀ v, rest ps { s with hosts := { s.hosts with ign := v } } = rest ps s := fun v => by simp only [rest]
  simp only [ignore]
  split
  · exact (rest_raiseLimited _ _ _ _ _).trans (h _)
  · exact h _

/-- An operation applied when a condition holds. -/
@[simp] theorem rest_iff {f : State → State} (h : ∀ s, rest ps (f s) = rest ps s) (c : Bool) (s : State) :
    rest ps (iff c f s) = rest ps s := by
  cases c
  · rfl
  · exact h s

@[simp] theorem rest_ite (c : Prop) [Decidable c] (s t : State) :
    rest ps (if c then s else t) = if c then rest ps s else rest ps t := apply_ite (rest ps) c s t

@[simp] theorem rest_dite (c : Prop) [Decidable c] (f : c → State) (g : ¬ c → State) :
    rest ps (if h : c then f h else g h) = if h : c then rest ps (f h) else rest ps (g h) := by
  split <;> rfl

/-- A fold of operations that keep the rest. -/
@[simp] theorem rest_foldl {α : Type} {f : State → α → State} (h : ∀ s x, rest ps (f s x) = rest ps s) :
    ∀ (xs : List α) (s : State), rest ps (xs.foldl f s) = rest ps s
  | [], _ => rfl
  | x :: xs, s => (rest_foldl h xs (f s x)).trans (h s x)

end

end Sys2Proof.Machine

end

section
/-!
PROOFS. The parts that each operation of the model changes, one lemma per operation in the order of the model: from the parts
listed in its hypothesis, the rest of the state is kept.
-/

namespace Sys2Proof.Machine

open Sys2Proof.Safety

section
variable {ps : List Part}

/-! Ignored items and entries. -/

@[simp] theorem rest_ignoreCore (reason code : Nat) (s : State) :
    rest ps (ignoreCore reason code s) = rest ps s := by
  simp [ignoreCore]

@[simp] theorem rest_ignoreReg (pv : PortView) (reason page ptr : Nat) (s : State) :
    rest ps (ignoreReg pv reason page ptr s) = rest ps s := by
  simp [ignoreReg]

@[simp] theorem rest_ignoreCmd (pv : PortView) (reason : Nat) (hdr : Word) (s : State) :
    rest ps (ignoreCmd pv reason hdr s) = rest ps s := by
  simp [ignoreCmd]

/-! Fabric commands. -/

@[simp] theorem rest_ignoreFab (hp : .core ∈ ps) (reason op : Nat) (s : State) :
    rest ps (ignoreFab reason op s) = rest ps s := by
  simp [ignoreFab, hp]

@[simp] theorem rest_fabBussrc (hp : .core ∈ ps) (w v : Sample) (s : State) :
    rest ps (fabBussrc w v s) = rest ps s := by
  simp only [fabBussrc]
  (repeat' split) <;> simp [hp]

@[simp] theorem rest_fabSink (hp : .core ∈ ps) (w v : Sample) (s : State) :
    rest ps (fabSink w v s) = rest ps s := by
  simp only [fabSink]
  (repeat' split) <;> simp [hp]

@[simp] theorem rest_fabRamp (hp : .core ∈ ps) (w : Sample) (s : State) :
    rest ps (fabRamp w s) = rest ps s := by
  simp [fabRamp, hp]

@[simp] theorem rest_fabBusclr (hp : .core ∈ ps) (keep : List Nat) (w : Sample) (s : State) :
    rest ps (fabBusclr keep w s) = rest ps s := by
  simp [fabBusclr, hp]

@[simp] theorem rest_fabIndom (hp : .core ∈ ps) (w : Sample) (s : State) :
    rest ps (fabIndom w s) = rest ps s := by
  simp [fabIndom, hp]

@[simp] theorem rest_fabD16sem (hp : .core ∈ ps) (w : Sample) (s : State) :
    rest ps (fabD16sem w s) = rest ps s := by
  simp [fabD16sem, hp]

@[simp] theorem rest_fabLooka (hp : .core ∈ ps) (w : Sample) (s : State) :
    rest ps (fabLooka w s) = rest ps s := by
  simp [fabLooka, hp]

@[simp] theorem rest_fabTdmcfg (hp : .core ∈ ps) (w : Sample) (s : State) :
    rest ps (fabTdmcfg w s) = rest ps s := by
  simp [fabTdmcfg, hp]

@[simp] theorem rest_fabDirect (hp : .core ∈ ps) (w v : Sample) (s : State) :
    rest ps (fabDirect w v s) = rest ps s := by
  simp [fabDirect, hp]

@[simp] theorem rest_cmdEffect (hp : .core ∈ ps) (keep : List Nat) (w v : Sample) (s : State) :
    rest ps (cmdEffect keep w v s) = rest ps s := by
  unfold cmdEffect
  (repeat' split) <;> simp [hp]

theorem rest_fabPass (hp : .core ∈ ps) (start : Bool) (s0 : State) : ∀ (is : List FabItem) (s : State),
    rest ps (fabPass start s0 is s) = rest ps s
  | [], _ => rfl
  | .bad op :: is, s => (rest_fabPass hp start s0 is _).trans (by simp [hp])
  | .cmd w v :: is, s => by
    rw [fabPass, rest_fabPass hp start s0 is]
    split
    · simp [hp]
    · simp [hp]

@[simp] theorem rest_fabApply (hp : .core ∈ ps) (start : Bool) (is : List FabItem) (s : State) :
    rest ps (fabApply start is s) = rest ps s :=
  (rest_fabPass hp start _ _ _).trans (rest_fabPass hp start _ _ _)

@[simp] theorem rest_fadeRoutes (hp : .core ∈ ps) (s : State) :
    rest ps (fadeRoutes s) = rest ps s := by
  simp [fadeRoutes, hp]

/-! Microphones and wake feed. -/

@[simp] theorem rest_noteFeed (hp : .wake ∈ ps) (s : State) :
    rest ps (noteFeed s) = rest ps s := by
  simp [noteFeed, hp]

@[simp] theorem rest_updateMic (hp : .conv ∈ ps ∧ .wake ∈ ps) (s : State) :
    rest ps (updateMic s) = rest ps s := by
  simp [updateMic, hp]

@[simp] theorem rest_updateClocks (hp : .conv ∈ ps ∧ .wake ∈ ps) (s : State) :
    rest ps (updateClocks s) = rest ps s := by
  simp [updateClocks, hp]

@[simp] theorem rest_applyRate (hp : .conv ∈ ps ∧ .wake ∈ ps) (q : Fin 4) (r : BitVec 2) (s : State) :
    rest ps (applyRate q r s) = rest ps s := by
  simp [applyRate, hp]

@[simp] theorem rest_setRate (hp : .conv ∈ ps ∧ .wake ∈ ps) (q : Fin 4) (r : BitVec 2) (s : State) :
    rest ps (setRate q r s) = rest ps s := by
  simp [setRate, hp]

@[simp] theorem rest_releaseRate (hp : .conv ∈ ps ∧ .wake ∈ ps) (s : State) :
    rest ps (releaseRate s) = rest ps s := by
  unfold releaseRate
  (repeat' split) <;> simp [hp]

@[simp] theorem rest_endCandidate (hp : .conv ∈ ps ∧ .wake ∈ ps) (s : State) :
    rest ps (endCandidate s) = rest ps s := by
  simp [endCandidate, hp]

@[simp] theorem rest_stopWe (hp : .conv ∈ ps ∧ .wake ∈ ps) (s : State) :
    rest ps (stopWe s) = rest ps s := by
  simp [stopWe, hp]

/-! Engines. -/

@[simp] theorem rest_sramWrite (hp : .core ∈ ps ∧ .mirror ∈ ps) (a : Nat) (w : Word) (s : State) :
    rest ps (sramWrite a w s) = rest ps s := by
  have h : ∀ c m, rest ps { s with core := c, mirror := m } = rest ps s := fun c m => by simp only [rest, hp, if_true]
  simp only [sramWrite]
  split
  · exact rest_set_core hp.1 _ s
  · split <;> exact h _ _

@[simp] theorem rest_markStores (hp : .mirror ∈ ps) (e : Eng) (st : List (Bool × BitVec 12)) (s : State) :
    rest ps (markStores e st s) = rest ps s := by
  simp [markStores, hp]

@[simp] theorem rest_semSignal (hp : .core ∈ ps) (n : Fin 32) (s : State) :
    rest ps (semSignal n s) = rest ps s := by
  simp [semSignal, hp]

@[simp] theorem rest_deliverDly (hp : .mirror ∈ ps ∧ .core ∈ ps ∧ .wake ∈ ps) (e : Eng) (s : State) :
    rest ps (deliverDly e s) = rest ps s := by
  simp only [deliverDly]
  (repeat' split) <;> simp [hp]

@[simp] theorem rest_deliverFab (hp : .mirror ∈ ps ∧ .core ∈ ps ∧ .wake ∈ ps) (e : Eng) (s : State) :
    rest ps (deliverFab e s) = rest ps s := by
  simp only [deliverFab]
  (repeat' split) <;> simp [hp]

@[simp] theorem rest_deliverSys (hp : .core ∈ ps ∧ .wake ∈ ps) (s : State) :
    rest ps (deliverSys s) = rest ps s := by
  simp only [deliverSys]
  (repeat' split) <;> simp [hp]

@[simp] theorem rest_applySigs (hp : .core ∈ ps ∧ .wake ∈ ps) (e : Eng) (s : State) :
    rest ps (applySigs e s) = rest ps s := by
  simp [applySigs, hp]

@[simp] theorem rest_times {f : State → State} (h : ∀ s, rest ps (f s) = rest ps s) : ∀ (n : Nat) (s : State),
    rest ps (times f n s) = rest ps s
  | 0, _ => rfl
  | n + 1, s => (rest_times h n (f s)).trans (h s)

@[simp] theorem rest_drain (hp : .mirror ∈ ps ∧ .core ∈ ps ∧ .wake ∈ ps) (e : Eng) (s : State) :
    rest ps (drain e s) = rest ps s := by
  simp [drain, hp]

@[simp] theorem rest_stopControl (hp : .core ∈ ps) (s : State) :
    rest ps (stopControl s) = rest ps s := by
  simp [stopControl, hp]

@[simp] theorem rest_engFault (hp : .core ∈ ps ∧ .conv ∈ ps ∧ .wake ∈ ps) (e : Eng) (cause : Nat) (s : State) :
    rest ps (engFault e cause s) = rest ps s := by
  simp only [engFault]
  split
  · rw [rest_raiseEv, rest_endCandidate ⟨hp.2.1, hp.2.2⟩, rest_set_wake hp.2.2, rest_setEng ⟨hp.1, hp.2.2⟩]
  · split <;> simp [hp]

@[simp] theorem rest_engPlace (hp : .mirror ∈ ps ∧ .core ∈ ps ∧
    .wake ∈ ps) (e : Eng) (x0 x : Engine) (st : List (Bool × BitVec 12)) (s : State) :
    rest ps (engPlace e x0 x st s) = rest ps s := by
  simp [engPlace, hp]

@[simp] theorem rest_engCommit (hp : .mirror ∈ ps ∧ .core ∈ ps ∧
    .wake ∈ ps) (e : Eng) (x0 x : Engine) (st : List (Bool × BitVec 12)) (s : State) :
    rest ps (engCommit e x0 x st s) = rest ps s := by
  simp [engCommit, hp]

/-! Retained store. -/

@[simp] theorem rest_rsSet (hp : .ret ∈ ps) (a : Nat) (w : Word) (s : State) :
    rest ps (rsSet a w s) = rest ps s := by
  simp [rsSet, hp]

@[simp] theorem rest_rsSetN (hp : .ret ∈ ps) (a : Nat) (ws : List Word) (s : State) :
    rest ps (rsSetN a ws s) = rest ps s := by
  simp [rsSetN, hp]

@[simp] theorem rest_rsWipe (hp : .ret ∈ ps) (lo hi : Nat) (s : State) :
    rest ps (rsWipe lo hi s) = rest ps s := by
  simp [rsWipe, hp]

@[simp] theorem rest_restoreRegs (hp : .time ∈ ps ∧ .arb ∈ ps ∧ .hosts ∈ ps ∧ .flt ∈ ps ∧ .ports ∈ ps) (g : Nat → Word)
    (s : State) : rest ps (restoreRegs g s) = rest ps s := by
  simp only [restoreRegs, rest, hp, if_true]

@[simp] theorem rest_restoreSlots (hp : .time ∈ ps ∧ .arb ∈ ps ∧ .ret ∈ ps ∧ .hosts ∈ ps ∧ .flt ∈ ps ∧
    .ports ∈ ps) (s : State) :
    rest ps (restoreSlots s) = rest ps s := by
  simp only [restoreSlots]
  (repeat' split) <;> simp [hp]

@[simp] theorem rest_requestSave (hp : .ret ∈ ps) (s : State) :
    rest ps (requestSave s) = rest ps s := by
  simp [requestSave, hp]

@[simp] theorem rest_setValid (hp : .ret ∈ ps) (k : Nat) (v : Bool) (s : State) :
    rest ps (setValid k v s) = rest ps s := by
  simp [setValid, hp]

@[simp] theorem rest_beginSave (hp : .ret ∈ ps) (s : State) :
    rest ps (beginSave s) = rest ps s := by
  simp [beginSave, hp]

@[simp] theorem rest_endSave (hp : .ret ∈ ps) (s : State) :
    rest ps (endSave s) = rest ps s := by
  simp [endSave, hp]

@[simp] theorem rest_evacStart (hp : .core ∈ ps) (s : State) :
    rest ps (evacStart s) = rest ps s := by
  simp [evacStart, hp]

@[simp] theorem rest_msgGone (hp : .core ∈ ps) (n : Nat) (s : State) :
    rest ps (msgGone n s) = rest ps s := by
  unfold msgGone
  (repeat' split) <;> simp [hp]

@[simp] theorem rest_checkMessage (hp : .core ∈ ps ∧ .ret ∈ ps) (n : Nat) (s : State) :
    rest ps (checkMessage n s) = rest ps s := by
  simp [checkMessage, hp]

@[simp] theorem rest_checkMessages (hp : .core ∈ ps ∧ .ret ∈ ps) (s : State) :
    rest ps (checkMessages s) = rest ps s := by
  simp [checkMessages, hp]

/-! Hosts. -/

@[simp] theorem rest_admitCmd (hp : .ret ∈ ps ∧ .hosts ∈ ps) (pv : PortView) (ws : List Word) (s : State) :
    rest ps (admitCmd pv ws s) = rest ps s := by
  unfold admitCmd
  (repeat' split) <;> simp [hp]

@[simp] theorem rest_admitReady (hp : .ret ∈ ps ∧ .hosts ∈ ps ∧ .ports ∈ ps) (pv : PortView) : ∀ (n : Nat) (s : State),
    rest ps (admitReady pv n s) = rest ps s
  | 0, _ => rfl
  | n + 1, s => by
    rw [admitReady]
    split
    · split
      · rfl
      · rw [rest_admitReady hp pv n]
        simp [hp]
    · rfl

@[simp] theorem rest_assembled (hp : .ret ∈ ps ∧ .hosts ∈ ps ∧ .ports ∈ ps) (pv : PortView) (ws : List Word) (s : State) :
    rest ps (assembled pv ws s) = rest ps s := by
  simp [assembled, hp]

@[simp] theorem rest_tagCheckDone (hp : .ret ∈ ps ∧ .hosts ∈ ps ∧ .ports ∈ ps) (pv : PortView) (s : State) :
    rest ps (tagCheckDone pv s) = rest ps s := by
  unfold tagCheckDone
  split <;> simp [hp]

@[simp] theorem rest_commandByte (hp : .ret ∈ ps ∧ .hosts ∈ ps ∧ .ports ∈ ps) (pv : PortView) (b : Byte) (s : State) :
    rest ps (commandByte pv b s) = rest ps s := by
  simp [commandByte, hp]

@[simp] theorem rest_assemblyTimeout (hp : .ports ∈ ps) (pv : PortView) (s : State) :
    rest ps (assemblyTimeout pv s) = rest ps s := by
  unfold assemblyTimeout
  (repeat' split) <;> simp [hp]

@[simp] theorem rest_setClaim (hp : .hosts ∈ ps) (res lvl : Nat) (c : BitVec 2) (s : State) :
    rest ps (setClaim res lvl c s) = rest ps s := by
  simp [setClaim, hp]

@[simp] theorem rest_closeClaimsOf (hp : .hosts ∈ ps) (h : HostId) (s : State) :
    rest ps (closeClaimsOf h s) = rest ps s := by
  simp [closeClaimsOf, hp]

@[simp] theorem rest_claim (hp : .hosts ∈ ps) (h : HostId) (res lvl : Nat) (s : State) :
    rest ps (claim h res lvl s) = rest ps s := by
  simp only [claim]
  (repeat' split) <;> simp [hp]

@[simp] theorem rest_release (hp : .hosts ∈ ps) (h : HostId) (res lvl : Nat) (s : State) :
    rest ps (release h res lvl s) = rest ps s := by
  simp [release, hp]

@[simp] theorem rest_keeperEffect (hp : .sadc ∈ ps ∧ .wake ∈ ps ∧ .hosts ∈ ps) (e : CmdEnt) (s : State) :
    rest ps (keeperEffect e s) = rest ps s := by
  simp only [keeperEffect]
  (repeat' split) <;> simp [hp]

@[simp] theorem rest_retire (hp : .sadc ∈ ps ∧ .wake ∈ ps ∧ .hosts ∈ ps) (e : CmdEnt) (rc : Byte) (reply : Word) (s : State) :
    rest ps (retire e rc reply s) = rest ps s := by
  simp [retire, hp]

@[simp] theorem rest_retireResources (hp : .sadc ∈ ps ∧ .wake ∈ ps ∧ .hosts ∈ ps) (s : State) :
    rest ps (retireResources s) = rest ps s := by
  simp [retireResources, hp]

@[simp] theorem rest_modRes (hp : .hosts ∈ ps) (b : Nat) (f : ResBlk → ResBlk) (s : State) :
    rest ps (modRes b f s) = rest ps s := by
  simp [modRes, hp]

@[simp] theorem rest_setProgFlag (hp : .hosts ∈ ps) (src : Nat) (p : BitVec 24) (s : State) :
    rest ps (setProgFlag src p s) = rest ps s := by
  simp [setProgFlag, hp]

@[simp] theorem rest_readFps (hp : .lmu ∈ ps) (s : State) :
    rest ps (readFps s) = rest ps s := by
  simp [readFps, hp]

@[simp] theorem rest_readVerdicts (hp : .lmu ∈ ps) (s : State) :
    rest ps (readVerdicts s) = rest ps s := by
  simp [readVerdicts, hp]

@[simp] theorem rest_putRecord (hp : .lmu ∈ ps ∧ .ret ∈ ps ∧
    .free ∈ ps) (fp : Bool) (ws : List Word) (br verd stat : Nat) (seq : BitVec 16) (s : State) :
    rest ps (putRecord fp ws br verd stat seq s) = rest ps s := by
  simp [putRecord, hp]

@[simp] theorem rest_putCalib (hp : .lmu ∈ ps ∧ .ret ∈ ps) (br : Nat) (cf : BitVec 16) (s : State) :
    rest ps (putCalib br cf s) = rest ps s := by
  simp [putCalib, hp]

@[simp] theorem rest_wakeClr (hp : .time ∈ ps ∧ .pm ∈ ps) (m : BitVec 4) (s : State) :
    rest ps (wakeClr m s) = rest ps s := by
  simp [wakeClr, hp]

@[simp] theorem rest_applyDef (hp : .time ∈ ps ∧ .pm ∈ ps ∧ .lmu ∈ ps ∧ .sadc ∈ ps ∧ .wake ∈ ps ∧ .ret ∈ ps ∧ .hosts ∈ ps ∧
    .free ∈ ps) (d : Deferred) (s : State) :
    rest ps (applyDef d s) = rest ps s := by
  unfold applyDef
  (repeat' split) <;> simp [hp]

@[simp] theorem rest_applyDefs (hp : .time ∈ ps ∧ .pm ∈ ps ∧ .lmu ∈ ps ∧ .sadc ∈ ps ∧ .wake ∈ ps ∧ .ret ∈ ps ∧
    .hosts ∈ ps ∧ .free ∈ ps) (ds : List Deferred) (s : State) :
    rest ps (applyDefs ds s) = rest ps s := by
  simp [applyDefs, hp]

@[simp] theorem rest_defer (hp : .hosts ∈ ps) (eff : DefEff) (s : State) :
    rest ps (defer eff s) = rest ps s := by
  simp [defer, hp]

@[simp] theorem rest_deferDone (hp : .core ∈ ps ∧ .hosts ∈ ps) (e : CmdEnt) (rc : Byte) (reply : Word) (s : State) :
    rest ps (deferDone e rc reply s) = rest ps s := by
  simp [deferDone, hp]

@[simp] theorem rest_discardDefs (hp : .ret ∈ ps ∧ .hosts ∈ ps) (ds : List Deferred) (s : State) :
    rest ps (discardDefs ds s) = rest ps s := by
  simp [discardDefs, hp]

@[simp] theorem rest_endHostC (hp : .hosts ∈ ps ∧ .ports ∈ ps) (s : State) : rest ps (endHostC s) = rest ps s := by
  simp only [endHostC, rest, closeClaimsOf, modHosts, hp, if_true]

/-! Loads and the resident program. -/

@[simp] theorem rest_modLoad (hp : .core ∈ ps) (f : LoadSt → LoadSt) (s : State) :
    rest ps (modLoad f s) = rest ps s := by
  simp [modLoad, hp]

@[simp] theorem rest_loadFails (hp : .core ∈ ps) (err : Nat) (s : State) :
    rest ps (loadFails err s) = rest ps s := by
  simp [loadFails, hp]

@[simp] theorem rest_plBegin (hp : .core ∈ ps) (n : Nat) (s : State) :
    rest ps ((plBegin n s).getD s) = rest ps s := by
  simp only [plBegin]
  (repeat' split) <;> simp [hp]

theorem rest_of_plBegin (hp : .core ∈ ps) (n : Nat) {s t : State} (h : plBegin n s = some t) : rest ps t = rest ps s := by
  rw [← rest_plBegin hp n s, h]
  rfl

@[simp] theorem rest_headerDone (hp : .core ∈ ps) (s : State) :
    rest ps (headerDone s) = rest ps s := by
  unfold headerDone
  (repeat' split) <;> simp [hp]

@[simp] theorem rest_pLoad (hp : .core ∈ ps ∧ .conv ∈ ps ∧ .wake ∈ ps) (e : Nat) (s : State) :
    rest ps ((pLoad e s).getD s) = rest ps s := by
  simp only [pLoad]
  (repeat' split) <;> simp [hp]

theorem rest_of_pLoad (hp : .core ∈ ps ∧ .conv ∈ ps ∧
    .wake ∈ ps) (e : Nat) {s t : State} (h : pLoad e s = some t) : rest ps t = rest ps s := by
  rw [← rest_pLoad hp e s, h]
  rfl

@[simp] theorem rest_installEngine (hp : .mirror ∈ ps ∧ .core ∈ ps ∧ .conv ∈ ps ∧
    .wake ∈ ps) (ws : List Word) (e : Nat) (s : State) :
    rest ps (installEngine ws e s) = rest ps s := by
  simp [installEngine, hp]

@[simp] theorem rest_engineLoadDone (hp : .mirror ∈ ps ∧ .core ∈ ps ∧ .conv ∈ ps ∧ .wake ∈ ps) (s : State) :
    rest ps (engineLoadDone s) = rest ps s := by
  simp only [engineLoadDone]
  (repeat' split) <;> simp [hp]

@[simp] theorem rest_plEnd (hp : .core ∈ ps ∧ .conv ∈ ps ∧ .wake ∈ ps) (s : State) :
    rest ps ((plEnd s).getD s) = rest ps s := by
  simp only [plEnd]
  (repeat' split) <;> simp [hp]

theorem rest_of_plEnd (hp : .core ∈ ps ∧ .conv ∈ ps ∧
    .wake ∈ ps) {s t : State} (h : plEnd s = some t) : rest ps t = rest ps s := by
  rw [← rest_plEnd hp s, h]
  rfl

@[simp] theorem rest_pStart (hp : .core ∈ ps ∧ .wake ∈ ps) (e : Nat) (s : State) :
    rest ps ((pStart e s).getD s) = rest ps s := by
  simp only [pStart]
  (repeat' split) <;> simp [hp]

theorem rest_of_pStart (hp : .core ∈ ps ∧
    .wake ∈ ps) (e : Nat) {s t : State} (h : pStart e s = some t) : rest ps t = rest ps s := by
  rw [← rest_pStart hp e s, h]
  rfl

@[simp] theorem rest_pStop (hp : .core ∈ ps ∧ .conv ∈ ps ∧ .wake ∈ ps) (e : Nat) (s : State) :
    rest ps ((pStop e s).getD s) = rest ps s := by
  simp only [pStop]
  (repeat' split) <;> simp [hp]

theorem rest_of_pStop (hp : .core ∈ ps ∧ .conv ∈ ps ∧
    .wake ∈ ps) (e : Nat) {s t : State} (h : pStop e s = some t) : rest ps t = rest ps s := by
  rw [← rest_pStop hp e s, h]
  rfl

@[simp] theorem rest_residentRetire (hp : .core ∈ ps ∧ .hosts ∈ ps) (e : CmdEnt) (rc : Byte) (reply : Word) (s : State) :
    rest ps (residentRetire e rc reply s) = rest ps s := by
  simp [residentRetire, hp]

@[simp] theorem rest_startAuto (hp : .core ∈ ps) (n : Nat) (s : State) : rest ps (startAuto n s) = rest ps s := by
  unfold startAuto
  split
  case h_1 t h => simp [hp, rest_of_plBegin hp n h]
  case h_2 => rfl

@[simp] theorem rest_autoFails (hp : .core ∈ ps) (s : State) :
    rest ps (autoFails s) = rest ps s := by
  unfold autoFails
  (repeat' split) <;> simp [hp]

@[simp] theorem rest_loadsetEnds (hp : .core ∈ ps ∧ .hosts ∈ ps) (s : State) :
    rest ps (loadsetEnds s) = rest ps s := by
  simp only [loadsetEnds]
  (repeat' split) <;> simp [hp]

@[simp] theorem rest_residentNext (hp : .core ∈ ps ∧ .conv ∈ ps ∧ .wake ∈ ps ∧ .hosts ∈ ps) (s : State) :
    rest ps (residentNext s) = rest ps s := by
  have hq : .core ∈ ps ∧ .conv ∈ ps ∧ .wake ∈ ps := ⟨hp.1, hp.2.1, hp.2.2.1⟩
  simp only [residentNext]
  split
  · split
    · split
      · exact rest_pLoad hq _ s
      · split
        · exact (rest_pStart ⟨hp.1, hp.2.2.1⟩ _ _).trans (rest_plEnd hq s)
        · exact (rest_loadsetEnds ⟨hp.1, hp.2.2.2⟩ _).trans (rest_plEnd hq s)
    · (repeat' split) <;> simp [hp]
  · rfl

@[simp] theorem rest_residentServe (hp : .core ∈ ps ∧ .wake ∈ ps ∧ .hosts ∈ ps) (e : CmdEnt) (s : State) :
    rest ps (residentServe e s) = rest ps s := by
  simp only [residentServe]
  split
  · split
    · simp [hp]
    · split
      case h_1 t h => simp [hp, rest_of_plBegin hp.1 _ h]
      case h_2 => simp [hp]
  · split
    · simp [hp]
    · split
      case h_1 t h => simp [hp, rest_of_pStart ⟨hp.1, hp.2.1⟩ _ h]
      case h_2 => simp [hp]
  all_goals simp [hp]

@[simp] theorem rest_residentServeAll (hp : .core ∈ ps ∧ .wake ∈ ps ∧ .hosts ∈ ps) : ∀ (n : Nat) (s : State),
    rest ps (residentServeAll n s) = rest ps s
  | 0, _ => rfl
  | n + 1, s => by
    rw [residentServeAll]
    split
    · split
      · rw [rest_residentServeAll hp n, rest_residentServe hp]
      · rfl
    · rfl

@[simp] theorem rest_serveNew (hp : .core ∈ ps ∧ .wake ∈ ps ∧
    .hosts ∈ ps) (op : Nat) (rc : Byte) (reply : Word) (id : Nat) (s : State) :
    rest ps (serveNew op rc reply id s) = rest ps s := by
  unfold serveNew
  (repeat' split) <;> simp [hp]

/-! Converter die. -/

@[simp] theorem rest_takeGain (hp : .conv ∈ ps) (m : Fin 8) (w : BitVec 24) (s : State) :
    rest ps (takeGain m w s) = rest ps s := by
  simp [takeGain, hp]

@[simp] theorem rest_applyGain (hp : .conv ∈ ps) (m : Fin 8) (s : State) :
    rest ps (applyGain m s) = rest ps s := by
  unfold applyGain
  (repeat' split) <;> simp [hp]

@[simp] theorem rest_startConv (hp : .core ∈ ps ∧ .conv ∈ ps ∧ .wake ∈ ps) (was : Nat → Bool) (s : State) :
    rest ps (startConv was s) = rest ps s := by
  simp [startConv, hp]

@[simp] theorem rest_setJack (hp : .conv ∈ ps) (k : BitVec 3) (s : State) :
    rest ps (setJack k s) = rest ps s := by
  simp [setJack, hp]

@[simp] theorem rest_voUp (hp : .conv ∈ ps) (s : State) :
    rest ps (voUp s) = rest ps s := by
  simp [voUp, hp]

@[simp] theorem rest_voDown (hp : .conv ∈ ps) (s : State) :
    rest ps (voDown s) = rest ps s := by
  simp [voDown, hp]

@[simp] theorem rest_outputsPass (hp : .conv ∈ ps) (n : Nat) (s : State) :
    rest ps (outputsPass n s) = rest ps s := by
  simp [outputsPass, hp]

@[simp] theorem rest_permitEnds (hp : .conv ∈ ps) (s : State) :
    rest ps (permitEnds s) = rest ps s := by
  simp [permitEnds, hp]

@[simp] theorem rest_setPermit (hp : .time ∈ ps ∧ .conv ∈ ps) (v : BitVec 8) (s : State) :
    rest ps (setPermit v s) = rest ps s := by
  simp [setPermit, hp]

@[simp] theorem rest_permitMinute (hp : .conv ∈ ps) (s : State) :
    rest ps (permitMinute s) = rest ps s := by
  simp [permitMinute, hp]

/-! Power stage. -/

@[simp] theorem rest_tonesOn (hp : .bridges ∈ ps) (n : Nat) (s : State) :
    rest ps (tonesOn n s) = rest ps s := by
  simp [tonesOn, hp]

@[simp] theorem rest_updateRails (hp : .dies ∈ ps) (s : State) :
    rest ps (updateRails s) = rest ps s := by
  simp [updateRails, hp]

@[simp] theorem rest_settleBridges (hp : .dies ∈ ps ∧ .bridges ∈ ps) (s : State) :
    rest ps (settleBridges s) = rest ps s := by
  simp [settleBridges, hp]

@[simp] theorem rest_takeNeeds (hp : .bridges ∈ ps) (b : Fin 8) (ws : List (BitVec 24)) (s : State) :
    rest ps (takeNeeds b ws s) = rest ps s := by
  simp [takeNeeds, hp]

@[simp] theorem rest_shortEvent (b : Fin 8) (s : State) :
    rest ps (shortEvent b s) = rest ps s := by
  simp [shortEvent]

@[simp] theorem rest_trip (hp : .dies ∈ ps ∧ .bridges ∈ ps) (b : Fin 8) (t : Nat) (s : State) :
    rest ps (trip b t s) = rest ps s := by
  simp [trip, hp]

@[simp] theorem rest_cooldownEnd (hp : .dies ∈ ps ∧ .bridges ∈ ps) (b : Fin 8) (s : State) :
    rest ps (cooldownEnd b s) = rest ps s := by
  simp [cooldownEnd, hp]

@[simp] theorem rest_probeVerdict (hp : .dies ∈ ps ∧ .bridges ∈ ps) (b : Fin 8) (s : State) :
    rest ps (probeVerdict b s) = rest ps s := by
  simp [probeVerdict, hp]

@[simp] theorem rest_probeEnd (hp : .dies ∈ ps ∧ .bridges ∈ ps ∧ .free ∈ ps) (b : Fin 8) (m : EndMeas) (s : State) :
    rest ps (probeEnd b m s) = rest ps s := by
  simp [probeEnd, hp]

@[simp] theorem rest_modDieBridges (hp : .bridges ∈ ps) (d : Fin 4) (f : Bridge → Bridge) (s : State) :
    rest ps (modDieBridges d f s) = rest ps s := by
  simp [modDieBridges, hp]

@[simp] theorem rest_clockMute (hp : .dies ∈ ps ∧ .bridges ∈ ps) (d : Fin 4) (s : State) :
    rest ps (clockMute d s) = rest ps s := by
  simp [clockMute, hp]

@[simp] theorem rest_linksDown (hp : .dies ∈ ps ∧ .bridges ∈ ps) (s : State) :
    rest ps (linksDown s) = rest ps s := by
  simp [linksDown, hp]

@[simp] theorem rest_clockValid (hp : .dies ∈ ps ∧ .bridges ∈ ps) (d : Fin 4) (s : State) :
    rest ps (clockValid d s) = rest ps s := by
  simp [clockValid, hp]

@[simp] theorem rest_leaveDieOff (hp : .dies ∈ ps ∧ .bridges ∈ ps) (d : Fin 4) (s : State) :
    rest ps (leaveDieOff d s) = rest ps s := by
  simp [leaveDieOff, hp]

@[simp] theorem rest_thermalEvent (d : Fin 4) (s : State) :
    rest ps (thermalEvent d s) = rest ps s := by
  simp [thermalEvent]

@[simp] theorem rest_thermalRise (hp : .dies ∈ ps ∧ .bridges ∈ ps) (d : Fin 4) (tj : BitVec 8) (s : State) :
    rest ps (thermalRise d tj s) = rest ps s := by
  simp [thermalRise, hp]

@[simp] theorem rest_thermalFall (hp : .dies ∈ ps) (d : Fin 4) (tj : BitVec 8) (s : State) :
    rest ps (thermalFall d tj s) = rest ps s := by
  simp [thermalFall, hp]

@[simp] theorem rest_thermalClear (hp : .dies ∈ ps ∧ .bridges ∈ ps) (d : Fin 4) (tj : BitVec 8) (s : State) :
    rest ps (thermalClear d tj s) = rest ps s := by
  simp [thermalClear, hp]

@[simp] theorem rest_twarnClear (hp : .dies ∈ ps) (d : Fin 4) (tj : BitVec 8) (s : State) :
    rest ps (twarnClear d tj s) = rest ps s := by
  simp [twarnClear, hp]

@[simp] theorem rest_boostFault (hp : .dies ∈ ps ∧ .bridges ∈ ps) (d : Fin 4) (t : Nat) (s : State) :
    rest ps (boostFault d t s) = rest ps s := by
  simp [boostFault, hp]

@[simp] theorem rest_boostRestart (hp : .dies ∈ ps ∧ .bridges ∈ ps) (d : Fin 4) (s : State) :
    rest ps (boostRestart d s) = rest ps s := by
  simp [boostRestart, hp]

@[simp] theorem rest_setTap (hp : .dies ∈ ps ∧ .bridges ∈ ps ∧ .tap ∈ ps) (t : Tap) (s : State) :
    rest ps (setTap t s) = rest ps s := by
  simp [setTap, hp]

@[simp] theorem rest_guardEnd (hp : .dies ∈ ps) (d : Fin 4) (s : State) :
    rest ps (guardEnd d s) = rest ps s := by
  simp [guardEnd, hp]

@[simp] theorem rest_dieUp (hp : .dies ∈ ps ∧ .bridges ∈ ps) (d : Fin 4) (s : State) :
    rest ps (dieUp d s) = rest ps s := by
  simp [dieUp, hp]

@[simp] theorem rest_dieDown (hp : .dies ∈ ps ∧ .bridges ∈ ps) (d : Fin 4) (s : State) :
    rest ps (dieDown d s) = rest ps s := by
  simp [dieDown, hp]

@[simp] theorem rest_dieFailed (hp : .bridges ∈ ps) (d : Fin 4) (s : State) :
    rest ps (dieFailed d s) = rest ps s := by
  simp [dieFailed, hp]

@[simp] theorem rest_startPower (hp : .dies ∈ ps ∧ .bridges ∈ ps) (s : State) :
    rest ps (startPower s) = rest ps s := by
  simp [startPower, hp]

@[simp] theorem rest_setMode (hp : .dies ∈ ps ∧ .bridges ∈ ps) (b : Fin 8) (m : BitVec 2) (s : State) :
    rest ps (setMode b m s) = rest ps s := by
  simp [setMode, hp]

@[simp] theorem rest_growSoft (hp : .bridges ∈ ps) (n : Nat) (s : State) :
    rest ps (growSoft n s) = rest ps s := by
  simp [growSoft, hp]

/-! Line supervision. -/

@[simp] theorem rest_holdEnds (hp : .bridges ∈ ps) (b : Fin 8) (d : Nat) (s : State) :
    rest ps (holdEnds b d s) = rest ps s := by
  simp [holdEnds, hp]

@[simp] theorem rest_issueRecord (hp : .lmu ∈ ps ∧
    .hosts ∈ ps) (fp : Bool) (b : Fin 8) (verd stat : Nat) (ws : List Word) (s : State) :
    rest ps (issueRecord fp b verd stat ws s) = rest ps s := by
  simp [issueRecord, hp]

@[simp] theorem rest_healthRecord (hp : .lmu ∈ ps ∧ .hosts ∈ ps ∧
    .free ∈ ps) (b : Fin 8) (abandoned : Bool) (cause : Nat) (s : State) :
    rest ps (healthRecord b abandoned cause s) = rest ps s := by
  simp [healthRecord, hp]

@[simp] theorem rest_fingerprintRecord (hp : .lmu ∈ ps ∧ .hosts ∈ ps ∧ .free ∈ ps) (b : Fin 8) (s : State) :
    rest ps (fingerprintRecord b s) = rest ps s := by
  simp [fingerprintRecord, hp]

@[simp] theorem rest_lineStop (hp : .bridges ∈ ps ∧ .lmu ∈ ps ∧ .hosts ∈ ps ∧
    .free ∈ ps) (b : Fin 8) (cause : Nat) (s : State) :
    rest ps (lineStop b cause s) = rest ps s := by
  simp [lineStop, hp]

@[simp] theorem rest_lineBegin (hp : .lmu ∈ ps) (b : Fin 8) (w : BitVec 24) (s : State) :
    rest ps (lineBegin b w s) = rest ps s := by
  simp [lineBegin, hp]

@[simp] theorem rest_setSup (hp : .core ∈ ps) (i : Fin 9) (w : BitVec 24) (s : State) :
    rest ps (setSup i w s) = rest ps s := by
  simp [setSup, hp]

@[simp] theorem rest_takeSup (hp : .core ∈ ps ∧ .bridges ∈ ps ∧ .lmu ∈ ps ∧ .hosts ∈ ps ∧
    .free ∈ ps) (b : Fin 8) (w : BitVec 24) (s : State) :
    rest ps (takeSup b w s) = rest ps s := by
  simp [takeSup, hp]

@[simp] theorem rest_earthStop (hp : .lmu ∈ ps) (s : State) :
    rest ps (earthStop s) = rest ps s := by
  simp [earthStop, hp]

@[simp] theorem rest_earthBegin (hp : .lmu ∈ ps) (w : BitVec 24) (s : State) :
    rest ps (earthBegin w s) = rest ps s := by
  simp [earthBegin, hp]

@[simp] theorem rest_takeEarth (hp : .core ∈ ps ∧ .lmu ∈ ps) (w : BitVec 24) (s : State) :
    rest ps (takeEarth w s) = rest ps s := by
  simp [takeEarth, hp]

@[simp] theorem rest_takeSupBlock (hp : .core ∈ ps ∧ .bridges ∈ ps ∧ .lmu ∈ ps ∧ .hosts ∈ ps ∧
    .free ∈ ps) (ws : List Sample) (s : State) :
    rest ps (takeSupBlock ws s) = rest ps s := by
  simp [takeSupBlock, hp]

@[simp] theorem rest_setLoadFault (hp : .lmu ∈ ps) (b : Fin 8) (on high : Bool) (s : State) :
    rest ps (setLoadFault b on high s) = rest ps s := by
  simp [setLoadFault, hp]

@[simp] theorem rest_setBreak (hp : .lmu ∈ ps) (b : Fin 8) (on : Bool) (s : State) :
    rest ps (setBreak b on s) = rest ps s := by
  simp [setBreak, hp]

@[simp] theorem rest_setGap (hp : .lmu ∈ ps) (b : Fin 8) (on : Bool) (s : State) :
    rest ps (setGap b on s) = rest ps s := by
  simp [setGap, hp]

@[simp] theorem rest_declareGap (hp : .lmu ∈ ps) (b : Fin 8) (s : State) :
    rest ps (declareGap b s) = rest ps s := by
  simp [declareGap, hp]

@[simp] theorem rest_loadWindow (hp : .lmu ∈ ps) (b : Fin 8) (up : Bool) (v i : Int × Int) (s : State) :
    rest ps (loadWindow b up v i s) = rest ps s := by
  simp only [loadWindow]
  (repeat' split) <;> simp [hp]

@[simp] theorem rest_captureWindow (hp : .lmu ∈ ps) (b : Fin 8) (up : Bool) (v i : Int × Int) (s : State) :
    rest ps (captureWindow b up v i s) = rest ps s := by
  simp [captureWindow, hp]

@[simp] theorem rest_calibWindow (hp : .lmu ∈ ps) (b : Fin 8) (f : Tone) (v i : Int × Int) (s : State) :
    rest ps (calibWindow b f v i s) = rest ps s := by
  simp [calibWindow, hp]

@[simp] theorem rest_contWindow (hp : .lmu ∈ ps) (b : Fin 8) (fv : Nat) (iA iB : Int × Int) (s : State) :
    rest ps (contWindow b fv iA iB s) = rest ps s := by
  simp only [contWindow]
  (repeat' split) <;> simp [hp]

@[simp] theorem rest_countedEnd (hp : .lmu ∈ ps) (b : Fin 8) (s : State) :
    rest ps (countedEnd b s) = rest ps s := by
  simp [countedEnd, hp]

@[simp] theorem rest_calibrationEnd (hp : .lmu ∈ ps ∧ .hosts ∈ ps) (b : Fin 8) (s : State) :
    rest ps (calibrationEnd b s) = rest ps s := by
  simp [calibrationEnd, hp]

@[simp] theorem rest_windowTake (hp : .lmu ∈ ps ∧ .free ∈ ps) (b : Fin 8) (m : PilotMeas) (s : State) :
    rest ps (windowTake b m s) = rest ps s := by
  simp [windowTake, hp]

@[simp] theorem rest_windowEnd (hp : .lmu ∈ ps ∧ .hosts ∈ ps ∧ .free ∈ ps) (b : Fin 8) (m : PilotMeas) (s : State) :
    rest ps (windowEnd b m s) = rest ps s := by
  simp [windowEnd, hp]

@[simp] theorem rest_sweepFrom (hp : .bridges ∈ ps ∧ .lmu ∈ ps) (b : Fin 8) (d : Nat) (s : State) :
    rest ps (sweepFrom b d s) = rest ps s := by
  simp [sweepFrom, hp]

@[simp] theorem rest_sweepStart (hp : .bridges ∈ ps ∧ .lmu ∈ ps) (b : Fin 8) (s : State) :
    rest ps (sweepStart b s) = rest ps s := by
  simp [sweepStart, hp]

@[simp] theorem rest_sweepDone (hp : .bridges ∈ ps ∧ .lmu ∈ ps ∧ .hosts ∈ ps ∧ .free ∈ ps) (b : Fin 8) (s : State) :
    rest ps (sweepDone b s) = rest ps s := by
  simp [sweepDone, hp]

@[simp] theorem rest_handBegins (hp : .bridges ∈ ps ∧ .lmu ∈ ps) (b : Fin 8) (s : State) :
    rest ps (handBegins b s) = rest ps s := by
  simp [handBegins, hp]

@[simp] theorem rest_handDone (hp : .bridges ∈ ps ∧ .lmu ∈ ps ∧ .hosts ∈ ps ∧ .free ∈ ps) (b : Fin 8) (s : State) :
    rest ps (handDone b s) = rest ps s := by
  simp [handDone, hp]

@[simp] theorem rest_sweepTake (hp : .lmu ∈ ps) (b : Fin 8) (m : SweepMeas) (s : State) :
    rest ps (sweepTake b m s) = rest ps s := by
  simp [sweepTake, hp]

@[simp] theorem rest_sweepEnd (hp : .bridges ∈ ps ∧ .lmu ∈ ps ∧ .hosts ∈ ps ∧
    .free ∈ ps) (b : Fin 8) (m : SweepMeas) (s : State) :
    rest ps (sweepEnd b m s) = rest ps s := by
  simp [sweepEnd, hp]

@[simp] theorem rest_setEarth (hp : .lmu ∈ ps) (on : Bool) (s : State) :
    rest ps (setEarth on s) = rest ps s := by
  simp [setEarth, hp]

@[simp] theorem rest_earthEnd (hp : .lmu ∈ ps ∧ .free ∈ ps) (m : EarthMeas) (s : State) :
    rest ps (earthEnd m s) = rest ps s := by
  simp [earthEnd, hp]

@[simp] theorem rest_startSeq (hp : .lmu ∈ ps ∧ .free ∈ ps) (s : State) :
    rest ps (startSeq s) = rest ps s := by
  simp [startSeq, hp]

@[simp] theorem rest_lineNext (hp : .bridges ∈ ps ∧ .lmu ∈ ps ∧ .hosts ∈ ps ∧ .free ∈ ps) (n : Nat) (b : Fin 8) (s : State) :
    rest ps (lineNext n b s) = rest ps s := by
  simp [lineNext, hp]

@[simp] theorem rest_lineBoundary (hp : .bridges ∈ ps ∧ .lmu ∈ ps ∧ .hosts ∈ ps ∧ .free ∈ ps) (n : Nat) (s : State) :
    rest ps (lineBoundary n s) = rest ps s := by
  simp [lineBoundary, hp]

@[simp] theorem rest_lineEndAll (hp : .core ∈ ps ∧ .bridges ∈ ps ∧ .lmu ∈ ps ∧ .hosts ∈ ps ∧
    .free ∈ ps) (cause : Nat) (s : State) :
    rest ps (lineEndAll cause s) = rest ps s := by
  simp [lineEndAll, hp]

@[simp] theorem rest_lineStaged (hp : .bridges ∈ ps ∧ .lmu ∈ ps ∧ .hosts ∈ ps ∧ .free ∈ ps) (b : Fin 8) (s : State) :
    rest ps (lineStaged b s) = rest ps s := by
  simp [lineStaged, hp]

@[simp] theorem rest_lineNight (hp : .bridges ∈ ps ∧ .lmu ∈ ps ∧ .hosts ∈ ps ∧ .free ∈ ps) (s : State) :
    rest ps (lineNight s) = rest ps s := by
  simp [lineNight, hp]

@[simp] theorem rest_lineResume (hp : .lmu ∈ ps) (s : State) :
    rest ps (lineResume s) = rest ps s := by
  simp [lineResume, hp]

@[simp] theorem rest_lineTakeover (hp : .bridges ∈ ps ∧ .lmu ∈ ps) (s : State) :
    rest ps (lineTakeover s) = rest ps s := by
  simp [lineTakeover, hp]

/-! Supervision ADC. -/

@[simp] theorem rest_writeScanMirror (hp : .core ∈ ps) (s : State) :
    rest ps (writeScanMirror s) = rest ps s := by
  simp [writeScanMirror, hp]

@[simp] theorem rest_cmpLeave (hp : .sadc ∈ ps) (k : Fin 32) (seen up : Bool) (v : Int) (s : State) :
    rest ps (cmpLeave k seen up v s) = rest ps s := by
  simp [cmpLeave, hp]

@[simp] theorem rest_cmpReturn (hp : .sadc ∈ ps) (k : Fin 32) (s : State) :
    rest ps (cmpReturn k s) = rest ps s := by
  simp [cmpReturn, hp]

@[simp] theorem rest_cmpEval (hp : .sadc ∈ ps) (k : Fin 32) (s : State) :
    rest ps (cmpEval k s) = rest ps s := by
  unfold cmpEval
  (repeat' split) <;> simp [hp]

@[simp] theorem rest_startCmp (hp : .sadc ∈ ps) (t : List Word) (s : State) :
    rest ps (startCmp t s) = rest ps s := by
  simp [startCmp, hp]

@[simp] theorem rest_evacRise (hp : .core ∈ ps) (s : State) :
    rest ps (evacRise s) = rest ps s := by
  unfold evacRise
  (repeat' split) <;> simp [hp]

@[simp] theorem rest_contactEval (hp : .core ∈ ps ∧ .dies ∈ ps ∧ .bridges ∈ ps ∧ .sadc ∈ ps ∧
    .tap ∈ ps) (i : Fin 8) (s : State) :
    rest ps (contactEval i s) = rest ps s := by
  simp [contactEval, hp]

@[simp] theorem rest_scanBoundary (hp : .sadc ∈ ps) (s : State) :
    rest ps (scanBoundary s) = rest ps s := by
  simp [scanBoundary, hp]

@[simp] theorem rest_spoilScans (hp : .sadc ∈ ps) (s : State) :
    rest ps (spoilScans s) = rest ps s := by
  simp [spoilScans, hp]

@[simp] theorem rest_evalS1 (hp : .core ∈ ps ∧ .dies ∈ ps ∧ .bridges ∈ ps ∧ .sadc ∈ ps ∧ .tap ∈ ps) (s : State) :
    rest ps (evalS1 s) = rest ps s := by
  simp [evalS1, hp]

@[simp] theorem rest_evalS0 (hp : .sadc ∈ ps) (s : State) :
    rest ps (evalS0 s) = rest ps s := by
  simp [evalS0, hp]

@[simp] theorem rest_scanPublish (hp : .core ∈ ps ∧ .dies ∈ ps ∧ .bridges ∈ ps ∧ .sadc ∈ ps ∧
    .tap ∈ ps) (bank1 : Bool) (m : ScanMeas) (s : State) :
    rest ps (scanPublish bank1 m s) = rest ps s := by
  simp [scanPublish, hp]

@[simp] theorem rest_nightScan (hp : .core ∈ ps ∧ .dies ∈ ps ∧ .bridges ∈ ps ∧ .sadc ∈ ps ∧
    .tap ∈ ps) (m : ScanMeas) (s : State) :
    rest ps (nightScan m s) = rest ps s := by
  simp [nightScan, hp]

@[simp] theorem rest_sentinel (hp : .sadc ∈ ps) (n : Fin 2) (on : Bool) (s : State) :
    rest ps (sentinel n on s) = rest ps s := by
  simp [sentinel, hp]

/-! Wake detector. -/

@[simp] theorem rest_storeBlock (hp : .wake ∈ ps ∧ .free ∈ ps) (xs : List (BitVec 16 × BitVec 16)) (s : State) :
    rest ps (storeBlock xs s) = rest ps s := by
  simp only [storeBlock, noteFeed, modWake, rest, hp, if_true]

@[simp] theorem rest_weXSet (hp : .wake ∈ ps) (a : Nat) (v : Sample) (s : State) :
    rest ps (weXSet a v s) = rest ps s := by
  simp [weXSet, hp]

@[simp] theorem rest_detect (hp : .wake ∈ ps) (cls score start : Nat) (s : State) :
    rest ps (detect cls score start s) = rest ps s := by
  simp [detect, hp]

@[simp] theorem rest_actReport (hp : .wake ∈ ps) (r start : Sample) (s : State) :
    rest ps (actReport r start s) = rest ps s := by
  simp [actReport, hp]

@[simp] theorem rest_candTimeout (hp : .conv ∈ ps ∧ .wake ∈ ps) (s : State) :
    rest ps (candTimeout s) = rest ps s := by
  simp [candTimeout, hp]

@[simp] theorem rest_ageCandidate (hp : .conv ∈ ps ∧ .wake ∈ ps) (s : State) :
    rest ps (ageCandidate s) = rest ps s := by
  simp [ageCandidate, hp]

@[simp] theorem rest_actCand (hp : .conv ∈ ps ∧ .wake ∈ ps) (c : Bool) (s : State) :
    rest ps (actCand c s) = rest ps s := by
  simp [actCand, hp]

@[simp] theorem rest_readMailbox (hp : .conv ∈ ps ∧ .wake ∈ ps) (s : State) :
    rest ps (readMailbox s) = rest ps s := by
  simp [readMailbox, hp]

@[simp] theorem rest_releaseWe (hp : .wake ∈ ps) (s : State) :
    rest ps (releaseWe s) = rest ps s := by
  simp [releaseWe, hp]

@[simp] theorem rest_wakeStrobe (hp : .conv ∈ ps ∧ .wake ∈ ps ∧ .free ∈ ps) (xs : List (BitVec 16 × BitVec 16)) (s : State) :
    rest ps (wakeStrobe xs s) = rest ps s := by
  simp [wakeStrobe, hp]

@[simp] theorem rest_startCapture (hp : .wake ∈ ps) (s : State) :
    rest ps (startCapture s) = rest ps s := by
  simp [startCapture, hp]

@[simp] theorem rest_captureDone (hp : .wake ∈ ps ∧ .ports ∈ ps) (s : State) :
    rest ps (captureDone s) = rest ps s := by
  simp [captureDone, hp]

@[simp] theorem rest_wipeCaptures (hp : .conv ∈ ps ∧ .wake ∈ ps) (s : State) :
    rest ps (wipeCaptures s) = rest ps s := by
  simp [wipeCaptures, hp]

/-! Programs. -/

@[simp] theorem rest_noCopies (hp : .arb ∈ ps ∧ .mirror ∈ ps) (s : State) :
    rest ps (noCopies s) = rest ps s := by
  simp [noCopies, hp]

@[simp] theorem rest_residentTables (hp : .core ∈ ps ∧ .dies ∈ ps ∧ .bridges ∈ ps ∧ .conv ∈ ps ∧ .sadc ∈ ps ∧
    .wake ∈ ps) (s : State) :
    rest ps (residentTables s) = rest ps s := by
  simp [residentTables, hp]

@[simp] theorem rest_residentBegins (hp : .core ∈ ps) (s : State) :
    rest ps (residentBegins s) = rest ps s := by
  simp [residentBegins, hp]

@[simp] theorem rest_controlEnds (hp : .arb ∈ ps ∧ .mirror ∈ ps ∧ .core ∈ ps ∧ .dies ∈ ps ∧ .bridges ∈ ps ∧ .lmu ∈ ps ∧
    .conv ∈ ps ∧ .sadc ∈ ps ∧ .wake ∈ ps ∧ .hosts ∈ ps ∧ .free ∈ ps) (s : State) :
    rest ps (controlEnds s) = rest ps s := by
  simp [controlEnds, hp]

@[simp] theorem rest_filtersAnew (hp : .conv ∈ ps ∧ .wake ∈ ps) (s : State) :
    rest ps (filtersAnew s) = rest ps s := by
  simp [filtersAnew, hp]

@[simp] theorem rest_startFill (hp : .mirror ∈ ps) (s : State) :
    rest ps (startFill s) = rest ps s := by
  simp [startFill, hp]

@[simp] theorem rest_controlStarts (hp : .arb ∈ ps ∧ .mirror ∈ ps ∧ .core ∈ ps ∧ .dies ∈ ps ∧ .bridges ∈ ps ∧ .lmu ∈ ps ∧
    .conv ∈ ps ∧ .sadc ∈ ps ∧ .wake ∈ ps ∧ .hosts ∈ ps ∧ .free ∈ ps) (s : State) :
    rest ps (controlStarts s) = rest ps s := by
  simp [controlStarts, hp]

@[simp] theorem rest_coldCore (hp : .arb ∈ ps ∧ .mirror ∈ ps ∧ .core ∈ ps ∧ .dies ∈ ps ∧ .bridges ∈ ps ∧ .lmu ∈ ps ∧
    .conv ∈ ps ∧ .sadc ∈ ps ∧ .wake ∈ ps ∧ .hosts ∈ ps) (auto : Option Nat) (s : State) :
    rest ps (coldCore auto s) = rest ps s := by
  unfold coldCore
  (repeat' split) <;> simp [hp]

/-! Power manager. -/

@[simp] theorem rest_setDom (hp : .pm ∈ ps) (k : Nat) (v : Bool) (s : State) :
    rest ps (setDom k v s) = rest ps s := by
  simp [setDom, hp]

@[simp] theorem rest_sideOff (hp : .clk ∈ ps ∧ .pm ∈ ps) (x : Side) (s : State) :
    rest ps (sideOff x s) = rest ps s := by
  simp [sideOff, hp]

@[simp] theorem rest_dropTake (hp : .arb ∈ ps) (s : State) :
    rest ps (dropTake s) = rest ps s := by
  simp [dropTake, hp]

@[simp] theorem rest_standbyDown (hp : .clk ∈ ps ∧ .arb ∈ ps ∧ .mirror ∈ ps ∧ .pm ∈ ps) (s : State) :
    rest ps (standbyDown s) = rest ps s := by
  simp [standbyDown, hp]

@[simp] theorem rest_capturePads (hp : .pm ∈ ps ∧ .pads ∈ ps) (d : Fin 4) (s : State) :
    rest ps (capturePads d s) = rest ps s := by
  simp [capturePads, hp]

@[simp] theorem rest_captureKa (hp : .pm ∈ ps ∧ .pads ∈ ps) (s : State) :
    rest ps (captureKa s) = rest ps s := by
  simp [captureKa, hp]

@[simp] theorem rest_releaseHolds (hp : .pm ∈ ps ∧ .pads ∈ ps) (s : State) : rest ps (releaseHolds s) = rest ps s := by
  simp only [releaseHolds]
  rw [rest_set_pads hp.2, rest_modPm hp.1]

@[simp] theorem rest_holdsBoundary (hp : .pm ∈ ps ∧ .pads ∈ ps) (s : State) :
    rest ps (holdsBoundary s) = rest ps s := by
  simp [holdsBoundary, hp]

@[simp] theorem rest_forceFault0 (hp : .pads ∈ ps) (s : State) :
    rest ps (forceFault0 s) = rest ps s := by
  simp [forceFault0, hp]

@[simp] theorem rest_unforceFault0 (hp : .pads ∈ ps) (s : State) :
    rest ps (unforceFault0 s) = rest ps s := by
  unfold unforceFault0
  (repeat' split) <;> simp [hp]

@[simp] theorem rest_pcEnds (hp : .ports ∈ ps) (result : Nat) (s : State) :
    rest ps (pcEnds result s) = rest ps s := by
  simp [pcEnds, hp]

@[simp] theorem rest_portPStops (hp : .ports ∈ ps) (s : State) :
    rest ps (portPStops s) = rest ps s := by
  simp [portPStops, hp]

@[simp] theorem rest_vaStop (hp : .conv ∈ ps ∧ .wake ∈ ps) (s : State) :
    rest ps (vaStop s) = rest ps s := by
  simp [vaStop, hp]

@[simp] theorem rest_vaReturn (hp : .conv ∈ ps ∧ .wake ∈ ps) (s : State) :
    rest ps (vaReturn s) = rest ps s := by
  simp [vaReturn, hp]

@[simp] theorem rest_domUp (hp : .clk ∈ ps ∧ .pm ∈ ps ∧ .dies ∈ ps ∧ .bridges ∈ ps ∧ .conv ∈ ps ∧ .sadc ∈ ps ∧
    .wake ∈ ps) (k : Nat) (s : State) :
    rest ps (domUp k s) = rest ps s := by
  simp [domUp, hp]

@[simp] theorem rest_domDown (hp : .clk ∈ ps ∧ .pm ∈ ps ∧ .core ∈ ps ∧ .dies ∈ ps ∧ .bridges ∈ ps ∧ .conv ∈ ps ∧
    .sadc ∈ ps ∧ .wake ∈ ps ∧ .pads ∈ ps) (k : Nat) (s : State) :
    rest ps (domDown k s) = rest ps s := by
  simp [domDown, hp]

@[simp] theorem rest_tdmHalt (hp : .pm ∈ ps) (on : Bool) (s : State) :
    rest ps (tdmHalt on s) = rest ps s := by
  simp [tdmHalt, hp]

@[simp] theorem rest_tdmStop (hp : .pm ∈ ps ∧ .core ∈ ps) (s : State) :
    rest ps (tdmStop s) = rest ps s := by
  simp [tdmStop, hp]

@[simp] theorem rest_tdmReturnAll (hp : .core ∈ ps) (s : State) :
    rest ps (tdmReturnAll s) = rest ps s := by
  simp [tdmReturnAll, hp]

@[simp] theorem rest_modEntry (hp : .pm ∈ ps) (f : Entry2 → Entry2) (s : State) :
    rest ps (modEntry f s) = rest ps s := by
  simp [modEntry, hp]

@[simp] theorem rest_blockDelays (hp : .pm ∈ ps ∧ .bridges ∈ ps ∧ .lmu ∈ ps ∧ .conv ∈ ps ∧ .wake ∈ ps ∧ .hosts ∈ ps ∧
    .free ∈ ps) (b : Nat) (s : State) :
    rest ps (blockDelays b s) = rest ps s := by
  simp [blockDelays, hp]

@[simp] theorem rest_blockResumes (hp : .pm ∈ ps ∧ .conv ∈ ps) (e : Entry2) (s : State) :
    rest ps (blockResumes e s) = rest ps s := by
  simp [blockResumes, hp]

@[simp] theorem rest_coreRetains (hp : .clk ∈ ps ∧ .arb ∈ ps ∧ .mirror ∈ ps ∧ .pm ∈ ps ∧ .ports ∈ ps) (s : State) :
    rest ps (coreRetains s) = rest ps s := by
  simp [coreRetains, hp]

@[simp] theorem rest_abandonSide (hp : .clk ∈ ps ∧ .pm ∈ ps) (s : State) :
    rest ps (abandonSide s) = rest ps s := by
  unfold abandonSide
  (repeat' split) <;> simp [hp]

@[simp] theorem rest_blockStops (hp : .clk ∈ ps ∧ .arb ∈ ps ∧ .mirror ∈ ps ∧ .pm ∈ ps ∧ .core ∈ ps ∧ .dies ∈ ps ∧
    .bridges ∈ ps ∧ .conv ∈ ps ∧ .sadc ∈ ps ∧ .wake ∈ ps ∧ .pads ∈ ps ∧ .ports ∈ ps) (b : Nat) (target : BitVec 2) (s : State) :
    rest ps (blockStops b target s) = rest ps s := by
  simp [blockStops, hp]

@[simp] theorem rest_startSide (hp : .clk ∈ ps ∧ .pm ∈ ps) (x : Side) (s : State) :
    rest ps (startSide x s) = rest ps s := by
  simp [startSide, hp]

@[simp] theorem rest_modDawn (hp : .pm ∈ ps) (f : Dawn → Dawn) (s : State) :
    rest ps (modDawn f s) = rest ps s := by
  simp [modDawn, hp]

@[simp] theorem rest_setDoms (hp : .pm ∈ ps) (ks : List Nat) (v : Bool) (s : State) :
    rest ps (setDoms ks v s) = rest ps s := by
  simp [setDoms, hp]

@[simp] theorem rest_enterStep (hp : .arb ∈ ps ∧ .pm ∈ ps) (n : Nat) (s : State) :
    rest ps (enterStep n s) = rest ps s := by
  unfold enterStep
  (repeat' split) <;> simp [hp]

@[simp] theorem rest_blockRestarts (hp : .clk ∈ ps ∧ .pm ∈ ps ∧ .core ∈ ps ∧ .lmu ∈ ps) (b : Nat) (s : State) :
    rest ps (blockRestarts b s) = rest ps s := by
  simp [blockRestarts, hp]

@[simp] theorem rest_raiseDusk (hp : .pm ∈ ps) (s : State) :
    rest ps (raiseDusk s) = rest ps s := by
  unfold raiseDusk
  (repeat' split) <;> simp [hp]

@[simp] theorem rest_abortEnds (hp : .pm ∈ ps) (r : Rollback) (s : State) :
    rest ps (abortEnds r s) = rest ps s := by
  simp [abortEnds, hp]

@[simp] theorem rest_backRun (hp : .clk ∈ ps ∧ .arb ∈ ps ∧ .pm ∈ ps ∧ .core ∈ ps ∧ .lmu ∈ ps) (r : Rollback) :
    ∀ (bs : List Nat) (s : State), rest ps (backRun r bs s) = rest ps s
  | [], s => by simp [backRun, hp]
  | b :: bs, s => by
    simp only [backRun]
    split
    · split
      · simp [hp]
      · rw [rest_backRun hp r bs]
        simp [hp]
    · split
      · rw [rest_backRun hp r bs]
        simp [hp]
      · simp [hp]

@[simp] theorem rest_backNext (hp : .clk ∈ ps ∧ .arb ∈ ps ∧ .pm ∈ ps ∧ .core ∈ ps ∧ .lmu ∈ ps) (s : State) :
    rest ps (backNext s) = rest ps s := by
  unfold backNext
  split
  · split
    · rfl
    · exact rest_backRun hp _ _ s
  · rfl

@[simp] theorem rest_abortEntry (hp : .clk ∈ ps ∧ .arb ∈ ps ∧ .pm ∈ ps ∧ .core ∈ ps ∧ .lmu ∈ ps ∧ .conv ∈ ps ∧ .wake ∈ ps)
    (block reason : Nat) (skip : List Nat) (s : State) : rest ps (abortEntry block reason skip s) = rest ps s := by
  unfold abortEntry
  split
  · rfl
  · rw [rest_backNext (by simp [hp]), rest_blockResumes (by simp [hp]), rest_set_lmu (by simp [hp]), rest_modWake
    (by simp [hp]),
      rest_modPm (by simp [hp])]

@[simp] theorem rest_pmWatch (hp : .clk ∈ ps ∧ .arb ∈ ps ∧ .pm ∈ ps ∧ .core ∈ ps ∧ .lmu ∈ ps ∧ .conv ∈ ps ∧
    .wake ∈ ps) (s : State) :
    rest ps (pmWatch s) = rest ps s := by
  unfold pmWatch
  (repeat' split) <;> simp [hp]

@[simp] theorem rest_beginEntry (hp : .clk ∈ ps ∧ .arb ∈ ps ∧ .pm ∈ ps ∧ .core ∈ ps ∧ .lmu ∈ ps ∧ .conv ∈ ps ∧
    .wake ∈ ps) (target : BitVec 2) (s : State) :
    rest ps (beginEntry target s) = rest ps s := by
  simp [beginEntry, hp]

@[simp] theorem rest_requestBoundary (hp : .clk ∈ ps ∧ .arb ∈ ps ∧ .pm ∈ ps ∧ .core ∈ ps ∧ .lmu ∈ ps ∧ .conv ∈ ps ∧
    .wake ∈ ps) (s : State) :
    rest ps (requestBoundary s) = rest ps s := by
  unfold requestBoundary
  (repeat' split) <;> simp [hp]

@[simp] theorem rest_nextBlock (hp : .pm ∈ ps) (e : Entry2) (s : State) :
    rest ps (nextBlock e s) = rest ps s := by
  simp [nextBlock, hp]

@[simp] theorem rest_handshakeReply (hp : .clk ∈ ps ∧ .arb ∈ ps ∧ .mirror ∈ ps ∧ .pm ∈ ps ∧ .core ∈ ps ∧ .dies ∈ ps ∧
    .bridges ∈ ps ∧ .lmu ∈ ps ∧ .conv ∈ ps ∧ .sadc ∈ ps ∧ .wake ∈ ps ∧ .hosts ∈ ps ∧ .pads ∈ ps ∧ .ports ∈ ps ∧
    .free ∈ ps) (s : State) :
    rest ps (handshakeReply s) = rest ps s := by
  unfold handshakeReply
  (repeat' split) <;> simp [hp]

@[simp] theorem rest_delayEnd (hp : .pm ∈ ps ∧ .lmu ∈ ps) (s : State) :
    rest ps (delayEnd s) = rest ps s := by
  unfold delayEnd
  (repeat' split) <;> simp [hp]

@[simp] theorem rest_noReply (hp : .clk ∈ ps ∧ .arb ∈ ps ∧ .pm ∈ ps ∧ .core ∈ ps ∧ .lmu ∈ ps ∧ .conv ∈ ps ∧
    .wake ∈ ps) (s : State) :
    rest ps (noReply s) = rest ps s := by
  unfold noReply
  (repeat' split) <;> simp [hp]

@[simp] theorem rest_windowEnds (hp : .pm ∈ ps ∧ .pads ∈ ps ∧ .ports ∈ ps) (s : State) :
    rest ps (windowEnds s) = rest ps s := by
  unfold windowEnds
  (repeat' split) <;> simp [hp]

@[simp] theorem rest_duskBoundary (hp : .pm ∈ ps ∧ .core ∈ ps) (s : State) :
    rest ps (duskBoundary s) = rest ps s := by
  unfold duskBoundary
  (repeat' split) <;> simp [hp]

@[simp] theorem rest_riseBoundary (hp : .clk ∈ ps ∧ .pm ∈ ps ∧ .core ∈ ps) (s : State) :
    rest ps (riseBoundary s) = rest ps s := by
  simp [riseBoundary, hp]

@[simp] theorem rest_beginDawn (hp : .arb ∈ ps ∧
    .pm ∈ ps) (target : BitVec 2) (boot : Bool) (side : Side) (src : Nat) (s : State) :
    rest ps (beginDawn target boot side src s) = rest ps s := by
  simp [beginDawn, hp]

@[simp] theorem rest_bootDawn (hp : .arb ∈ ps ∧ .pm ∈ ps) (s : State) :
    rest ps (bootDawn s) = rest ps s := by
  simp [bootDawn, hp]

@[simp] theorem rest_wakeDawn (hp : .arb ∈ ps ∧ .pm ∈ ps) (code : Nat) (s : State) :
    rest ps (wakeDawn code s) = rest ps s := by
  simp [wakeDawn, hp]

@[simp] theorem rest_dawnStart (hp : .clk ∈ ps ∧ .arb ∈ ps ∧ .pm ∈ ps ∧ .core ∈ ps ∧ .lmu ∈ ps ∧ .conv ∈ ps ∧
    .wake ∈ ps) (s : State) :
    rest ps (dawnStart s) = rest ps s := by
  unfold dawnStart
  (repeat' split) <;> simp [hp]

@[simp] theorem rest_sideDone (hp : .clk ∈ ps ∧ .arb ∈ ps ∧ .mirror ∈ ps ∧ .pm ∈ ps ∧ .core ∈ ps ∧
    .lmu ∈ ps) (x : Side) (s : State) :
    rest ps (sideDone x s) = rest ps s := by
  simp [sideDone, hp]

@[simp] theorem rest_stepReady (hp : .clk ∈ ps ∧ .arb ∈ ps ∧ .mirror ∈ ps ∧ .pm ∈ ps ∧ .core ∈ ps ∧ .dies ∈ ps ∧
    .bridges ∈ ps ∧ .lmu ∈ ps ∧ .conv ∈ ps ∧ .sadc ∈ ps ∧ .wake ∈ ps) (s : State) :
    rest ps (stepReady s) = rest ps s := by
  unfold stepReady
  (repeat' split) <;> simp [hp]

@[simp] theorem rest_latchFail (hp : .pm ∈ ps ∧ .pads ∈ ps) (d : Dawn) (dom cause : Nat) (s : State) :
    rest ps (latchFail d dom cause s) = rest ps s := by
  simp [latchFail, hp]

@[simp] theorem rest_trySide (hp : .pm ∈ ps) (x : Side) (s : State) :
    rest ps (trySide x s) = rest ps s := by
  simp [trySide, hp]

@[simp] theorem rest_sideFailed (hp : .clk ∈ ps ∧ .arb ∈ ps ∧ .pm ∈ ps ∧ .core ∈ ps ∧ .lmu ∈ ps) (x : Side) (s : State) :
    rest ps (sideFailed x s) = rest ps s := by
  simp [sideFailed, hp]

@[simp] theorem rest_coreStepFailed (hp : .clk ∈ ps ∧ .arb ∈ ps ∧ .pm ∈ ps) (d : Dawn) (s : State) :
    rest ps (coreStepFailed d s) = rest ps s := by
  simp only [coreStepFailed]
  (repeat' split) <;> simp [hp]

@[simp] theorem rest_stepTimeout (hp : .clk ∈ ps ∧ .arb ∈ ps ∧ .pm ∈ ps ∧ .core ∈ ps ∧ .dies ∈ ps ∧ .bridges ∈ ps ∧
    .lmu ∈ ps ∧ .conv ∈ ps ∧ .sadc ∈ ps ∧ .wake ∈ ps ∧ .pads ∈ ps) (why : Nat) (dom : Nat) (s : State) :
    rest ps (stepTimeout why dom s) = rest ps s := by
  unfold stepTimeout
  (repeat' split) <;> simp [hp]

@[simp] theorem rest_retryOffEnd (hp : .pm ∈ ps) (s : State) :
    rest ps (retryOffEnd s) = rest ps s := by
  unfold retryOffEnd
  (repeat' split) <;> simp [hp]

@[simp] theorem rest_sramWiped (hp : .pm ∈ ps) (s : State) :
    rest ps (sramWiped s) = rest ps s := by
  simp [sramWiped, hp]

@[simp] theorem rest_dawnRepeat (hp : .arb ∈ ps ∧ .pm ∈ ps) (s : State) :
    rest ps (dawnRepeat s) = rest ps s := by
  simp [dawnRepeat, hp]

@[simp] theorem rest_degrade (hp : .clk ∈ ps ∧ .core ∈ ps) (s : State) :
    rest ps (degrade s) = rest ps s := by
  simp [degrade, hp]

@[simp] theorem rest_dawnStep (hp : .pm ∈ ps ∧ .core ∈ ps) (target : BitVec 2) (s : State) :
    rest ps (dawnStep target s) = rest ps s := by
  simp [dawnStep, hp]

@[simp] theorem rest_finishDawn (hp : .clk ∈ ps ∧ .arb ∈ ps ∧ .mirror ∈ ps ∧ .pm ∈ ps ∧ .core ∈ ps ∧ .dies ∈ ps ∧
    .bridges ∈ ps ∧ .lmu ∈ ps ∧ .conv ∈ ps ∧ .sadc ∈ ps ∧ .wake ∈ ps ∧ .hosts ∈ ps) (s : State) :
    rest ps (finishDawn s) = rest ps s := by
  unfold finishDawn
  split
  · rfl
  · split
    · extract_lets keep s1 s2 t s3 s4 s5 s6 s7
      have h2 : rest ps s2 = rest ps s := by simp [s2, s1, hp]
      have h3 : rest ps s3 = rest ps s := by
        rw [← h2]
        simp only [s3, t]
        clear_value s2
        (repeat' split) <;> simp [hp]
      clear_value s3
      have h4 : rest ps s4 = rest ps s := by simp [s4, hp, h3]
      have h5 : rest ps s5 = rest ps s := by simp [s5, hp, h4]
      have h6 : rest ps s6 = rest ps s := by simp [s6, hp, h5]
      have h7 : rest ps s7 = rest ps s := by simp [s7, h6]
      simp [hp, h5, h7]
    · rfl

/-! Staged sets. -/

@[simp] theorem rest_stageAccept (hp : .pm ∈ ps) (kind : Nat) (v : BitVec 24) (d : Nat) (s : State) :
    rest ps ((stageAccept kind v d s).getD s) = rest ps s := by
  simp only [stageAccept]
  (repeat' split) <;> simp [hp]

theorem rest_of_stageAccept (hp : .pm ∈ ps) (kind : Nat) (v : BitVec 24) (d : Nat) {s t : State}
    (h : stageAccept kind v d s = some t) : rest ps t = rest ps s := by
  rw [← rest_stageAccept hp kind v d s, h]
  rfl

@[simp] theorem rest_unitReady (hp : .pm ∈ ps) (u : Fin 12) (s : State) :
    rest ps (unitReady u s) = rest ps s := by
  unfold unitReady
  (repeat' split) <;> simp [hp]

@[simp] theorem rest_commitChange (hp : .core ∈ ps ∧ .dies ∈ ps ∧ .bridges ∈ ps) (c : Nat × Nat) (s : State) :
    rest ps (commitChange c s) = rest ps s := by
  unfold commitChange
  (repeat' split) <;> simp [hp]

@[simp] theorem rest_commitLines (hp : .bridges ∈ ps ∧ .lmu ∈ ps ∧ .hosts ∈ ps ∧ .free ∈ ps) (x : StagedSet) (s : State) :
    rest ps (commitLines x s) = rest ps s := by
  simp [commitLines, hp]

@[simp] theorem rest_stageCommit (hp : .pm ∈ ps ∧ .core ∈ ps ∧ .dies ∈ ps ∧ .bridges ∈ ps ∧ .lmu ∈ ps ∧ .hosts ∈ ps ∧
    .free ∈ ps) (x : StagedSet) (s : State) :
    rest ps (stageCommit x s) = rest ps s := by
  simp [stageCommit, hp]

@[simp] theorem rest_stageWithdraw (hp : .pm ∈ ps) (lost : BitVec 12) (x : StagedSet) (s : State) :
    rest ps (stageWithdraw lost x s) = rest ps s := by
  simp [stageWithdraw, hp]

@[simp] theorem rest_withdrawPending (hp : .pm ∈ ps) (s : State) :
    rest ps (withdrawPending s) = rest ps s := by
  unfold withdrawPending
  (repeat' split) <;> simp [hp]

@[simp] theorem rest_stageBoundary (hp : .pm ∈ ps ∧ .core ∈ ps ∧ .dies ∈ ps ∧ .bridges ∈ ps ∧ .lmu ∈ ps ∧ .hosts ∈ ps ∧
    .free ∈ ps) (s : State) :
    rest ps (stageBoundary s) = rest ps s := by
  unfold stageBoundary
  (repeat' split) <;> simp [hp]

/-! Reset and wipes. -/

@[simp] theorem rest_wipeStores (hp : .core ∈ ps ∧ .lmu ∈ ps ∧ .ret ∈ ps) (s : State) :
    rest ps (wipeStores s) = rest ps s := by
  simp [wipeStores, hp]

@[simp] theorem rest_wipeFor (hp : .core ∈ ps ∧ .lmu ∈ ps ∧ .conv ∈ ps ∧ .wake ∈ ps ∧ .ret ∈ ps) (tgt : BitVec 3) (s : State) :
    rest ps (wipeFor tgt s) = rest ps s := by
  simp [wipeFor, hp]

@[simp] theorem rest_resumeWipe (hp : .core ∈ ps ∧ .lmu ∈ ps ∧ .conv ∈ ps ∧ .wake ∈ ps ∧ .ret ∈ ps) (s : State) :
    rest ps (resumeWipe s) = rest ps s := by
  unfold resumeWipe
  (repeat' split) <;> simp [hp]

/-! Takeover. -/

@[simp] theorem rest_outputsFall (hp : .core ∈ ps ∧ .free ∈ ps) (s : State) :
    rest ps (outputsFall s) = rest ps s := by
  simp [outputsFall, hp]

@[simp] theorem rest_converterLost (hp : .core ∈ ps ∧ .conv ∈ ps ∧ .free ∈ ps) (s : State) :
    rest ps (converterLost s) = rest ps s := by
  simp [converterLost, hp]

@[simp] theorem rest_leaveDegraded (hp : .clk ∈ ps ∧ .core ∈ ps) (s : State) :
    rest ps (leaveDegraded s) = rest ps s := by
  simp [leaveDegraded, hp]

@[simp] theorem rest_linkUp (hp : .conv ∈ ps) (s : State) :
    rest ps (linkUp s) = rest ps s := by
  simp [linkUp, hp]

@[simp] theorem rest_takeover (hp : .clk ∈ ps ∧ .time ∈ ps ∧ .arb ∈ ps ∧ .mirror ∈ ps ∧ .pm ∈ ps ∧ .core ∈ ps ∧ .dies ∈ ps ∧
    .bridges ∈ ps ∧ .lmu ∈ ps ∧ .conv ∈ ps ∧ .sadc ∈ ps ∧ .wake ∈ ps ∧ .ret ∈ ps ∧ .hosts ∈ ps ∧ .ports ∈ ps ∧ .free ∈ ps)
    (cause : Nat) (s : State) : rest ps (takeover cause s) = rest ps s := by
  unfold takeover
  extract_lets old s1 s2 s3 blocks t
  split
  extract_lets s4 s5 s6 s7 s8 s9
  have h3 : rest ps s3 = rest ps s := by simp [s3, s2, s1, hp]
  have h4 : rest ps s4 = rest ps s := by
    rw [← h3]
    simp only [s4, t]
    clear_value s3
    split <;> simp [hp]
  clear_value s4
  have h7 : rest ps s7 = rest ps s := by simp [s7, s6, s5, hp, h4]
  have h9 : rest ps s9 = rest ps s := by simp [s9, s8, hp, h7]
  simp [hp, h9]

@[simp] theorem rest_coreStops (hp : .time ∈ ps ∧ .arb ∈ ps ∧ .mirror ∈ ps ∧ .pm ∈ ps ∧ .core ∈ ps ∧ .dies ∈ ps ∧
    .bridges ∈ ps ∧ .lmu ∈ ps ∧ .conv ∈ ps ∧ .ports ∈ ps ∧ .free ∈ ps) (s : State) :
    rest ps (coreStops s) = rest ps s := by
  simp [coreStops, hp]

@[simp] theorem rest_restartDawn (hp : .arb ∈ ps ∧ .pm ∈ ps) (x : Side) (s : State) :
    rest ps (restartDawn x s) = rest ps s := by
  unfold restartDawn
  (repeat' split) <;> simp [hp]

@[simp] theorem rest_restart (hp : .clk ∈ ps ∧ .time ∈ ps ∧ .arb ∈ ps ∧ .mirror ∈ ps ∧ .pm ∈ ps ∧ .core ∈ ps ∧ .dies ∈ ps ∧
    .bridges ∈ ps ∧ .lmu ∈ ps ∧ .conv ∈ ps ∧ .wake ∈ ps ∧ .ports ∈ ps ∧ .free ∈ ps) (x : Side) (cause : Nat) (s : State) :
    rest ps (restart x cause s) = rest ps s := by
  simp [restart, hp]

@[simp] theorem rest_takeNow (hp : .clk ∈ ps ∧ .time ∈ ps ∧ .arb ∈ ps ∧ .mirror ∈ ps ∧ .pm ∈ ps ∧ .core ∈ ps ∧ .dies ∈ ps ∧
    .bridges ∈ ps ∧ .lmu ∈ ps ∧ .conv ∈ ps ∧ .sadc ∈ ps ∧ .wake ∈ ps ∧ .ret ∈ ps ∧ .hosts ∈ ps ∧ .ports ∈ ps ∧
    .free ∈ ps) (s : State) :
    rest ps (takeNow s) = rest ps s := by
  simp [takeNow, hp]

@[simp] theorem rest_sideAgain (hp : .pm ∈ ps) (x : Side) (s : State) :
    rest ps (sideAgain x s) = rest ps s := by
  simp [sideAgain, hp]

@[simp] theorem rest_dawnFeedLost (hp : .clk ∈ ps ∧ .arb ∈ ps ∧ .pm ∈ ps) (d : Dawn) (x : Side) (s : State) :
    rest ps (dawnFeedLost d x s) = rest ps s := by
  simp [dawnFeedLost, hp]

@[simp] theorem rest_feedUp (hp : .feeds ∈ ps ∧ .clk ∈ ps ∧ .arb ∈ ps ∧ .pm ∈ ps ∧ .core ∈ ps ∧ .lmu ∈ ps ∧ .conv ∈ ps ∧
    .wake ∈ ps) (x : Side) (s : State) :
    rest ps (feedUp x s) = rest ps s := by
  simp only [feedUp]
  (repeat' split) <;> simp [hp]

/-! Life cycle. -/

@[simp] theorem rest_lcAccept (hp : .ret ∈ ps) (v : Word) (s : State) :
    rest ps (lcAccept v s) = rest ps s := by
  simp [lcAccept, hp]

@[simp] theorem rest_keyAccept (hp : .ret ∈ ps) (s : State) :
    rest ps (keyAccept s) = rest ps s := by
  simp [keyAccept, hp]

theorem rest_lcRequest (hp : .ret ∈ ps) {v : Word} {s t : State} (h : lcRequest v s = .inr t) : rest ps t = rest ps s := by
  simp only [lcRequest] at h
  split at h
  · rw [← Sum.inr.inj h, rest_modRet hp]
  · split at h
    · split at h
      · exact absurd h (by simp)
      · rw [← Sum.inr.inj h, rest_keyAccept hp, rest_modRet hp]
    · split at h
      · exact absurd h (by simp)
      · rw [← Sum.inr.inj h, rest_lcAccept hp, rest_modRet hp]

@[simp] theorem rest_wipeDone (hp : .core ∈ ps ∧ .lmu ∈ ps ∧ .conv ∈ ps ∧ .wake ∈ ps ∧ .ret ∈ ps) (s : State) :
    rest ps (wipeDone s) = rest ps s := by
  unfold wipeDone
  (repeat' split) <;> simp [hp]

@[simp] theorem rest_lcBoundary (hp : .core ∈ ps ∧ .dies ∈ ps ∧ .bridges ∈ ps ∧ .conv ∈ ps ∧ .ret ∈ ps ∧ .hosts ∈ ps ∧
    .ports ∈ ps ∧ .tap ∈ ps) (s : State) :
    rest ps (lcBoundary s) = rest ps s := by
  simp only [lcBoundary]
  (repeat' split) <;> simp [hp]

/-! Images. -/

@[simp] theorem rest_modImg (hp : .ret ∈ ps) (f : Img → Img) (s : State) :
    rest ps (modImg f s) = rest ps s := by
  simp [modImg, hp]

@[simp] theorem rest_imgEnds (hp : .ret ∈ ps) (err : Nat) (s : State) :
    rest ps (imgEnds err s) = rest ps s := by
  simp [imgEnds, hp]

@[simp] theorem rest_imgBegins (hp : .ret ∈ ps) (op num ofs : Nat) (s : State) :
    rest ps (imgBegins op num ofs s) = rest ps s := by
  simp [imgBegins, hp]

@[simp] theorem rest_imgAtOnce (hp : .ret ∈ ps) (op num err : Nat) (s : State) :
    rest ps (imgAtOnce op num err s) = rest ps s := by
  simp [imgAtOnce, hp]

@[simp] theorem rest_exportBegins (hp : .ret ∈ ps) (fp msg : Bool) (s : State) :
    rest ps (exportBegins fp msg s) = rest ps s := by
  simp [exportBegins, hp]

@[simp] theorem rest_importWipe (hp : .core ∈ ps ∧ .lmu ∈ ps ∧ .ret ∈ ps) (s : State) :
    rest ps (importWipe s) = rest ps s := by
  simp [importWipe, hp]

@[simp] theorem rest_importItem (hp : .core ∈ ps ∧ .lmu ∈ ps ∧ .ret ∈ ps) (o : Nat) (x : Nat × List Word) (s : State) :
    rest ps (importItem o x s).2 = rest ps s := by
  simp only [importItem]
  split
  · simp [hp]
  · simp [hp]
  · simp [hp]
  · split
    · rfl
    · simp [hp]

@[simp] theorem rest_importItems (hp : .core ∈ ps ∧ .lmu ∈ ps ∧
    .ret ∈ ps) : ∀ (o : Nat) (xs : List (Nat × List Word)) (s : State),
    rest ps (importItems o xs s) = rest ps s
  | _, [], _ => rfl
  | o, x :: xs, s => (rest_importItems hp _ xs _).trans (rest_importItem hp o x s)

@[simp] theorem rest_importHolds (hp : .ret ∈ ps) (w : Word) (n : Nat) (s : State) :
    rest ps (importHolds w n s) = rest ps s := by
  simp only [importHolds]
  (repeat' split) <;> simp [hp]

@[simp] theorem rest_imgWord (hp : .ret ∈ ps) (w : Word) (s : State) :
    rest ps (imgWord w s) = rest ps s := by
  simp only [imgWord]
  (repeat' split) <;> simp [hp]

@[simp] theorem rest_imgPush (hp : .ret ∈ ps) (b : Byte) (s : State) :
    rest ps (imgPush b s) = rest ps s := by
  simp [imgPush, hp]

@[simp] theorem rest_imgChecked (hp : .core ∈ ps ∧ .lmu ∈ ps ∧ .ret ∈ ps) (s : State) :
    rest ps (imgChecked s) = rest ps s := by
  simp only [imgChecked]
  split
  · rfl
  · split
    · rw [rest_imgEnds hp.2.2]
      split <;> simp [hp]
    · split
      · split <;> simp [hp]
      · split
        · split <;> simp [hp]
        · simp [hp]

theorem rest_imgPop (hp : .ret ∈ ps) {s t : State} {b : Byte} (h : imgPop s = some (b, t)) : rest ps t = rest ps s := by
  simp only [imgPop] at h
  split at h
  · exact absurd h (by simp)
  · simp only [Option.some.injEq, Prod.mk.injEq] at h
    rw [← h.2]
    simp [hp]

@[simp] theorem rest_deleteMsg (hp : .core ∈ ps ∧ .ret ∈ ps) (n : Nat) (s : State) :
    rest ps (deleteMsg n s) = rest ps s := by
  simp [deleteMsg, hp]

@[simp] theorem rest_emptyBank (hp : .ret ∈ ps) (n : Nat) (s : State) :
    rest ps (emptyBank n s) = rest ps s := by
  simp [emptyBank, hp]

@[simp] theorem rest_imgStart (hp : .core ∈ ps ∧ .lmu ∈ ps ∧ .ret ∈ ps) (op num ofs : Nat) (fp msg : Bool) (s : State) :
    rest ps (imgStart op num ofs fp msg s) = rest ps s := by
  unfold imgStart
  (repeat' split) <;> simp [hp]

theorem rest_imgControl (hp : .core ∈ ps ∧ .lmu ∈ ps ∧ .ret ∈ ps) {h : HostId} {v : Word} {s t : State}
    (hi : imgControl h v s = .inr t) : rest ps t = rest ps s := by
  unfold imgControl at hi
  split at hi
  · exact absurd hi (by simp)
  · rw [← Sum.inr.inj hi, rest_imgStart hp]

/-! Port P. -/

@[simp] theorem rest_modPc (hp : .ports ∈ ps) (f : PcPort → PcPort) (s : State) :
    rest ps (modPc f s) = rest ps s := by
  simp [modPc, hp]

@[simp] theorem rest_pcStart (hp : .ports ∈ ps) (v : Word) (s : State) :
    rest ps (pcStart v s) = rest ps s := by
  simp [pcStart, hp]

@[simp] theorem rest_pcCleared (hp : .ports ∈ ps) (failed : Bool) (s : State) :
    rest ps (pcCleared failed s) = rest ps s := by
  simp [pcCleared, hp]

@[simp] theorem rest_pcSent (hp : .ports ∈ ps) (n i : Nat) (s : State) :
    rest ps (pcSent n i s) = rest ps s := by
  simp [pcSent, hp]

@[simp] theorem rest_pcDone (hp : .ports ∈ ps) (rx : List Byte) (s : State) :
    rest ps (pcDone rx s) = rest ps s := by
  simp [pcDone, hp]

@[simp] theorem rest_pcOutcome (hp : .ports ∈ ps) (r : PcEnd) (s : State) :
    rest ps (pcOutcome r s) = rest ps s := by
  unfold pcOutcome
  (repeat' split) <;> simp [hp]

@[simp] theorem rest_pcTransferEnds (hp : .ports ∈ ps) (cleared : Bool) (r : PcEnd) (s : State) :
    rest ps (pcTransferEnds cleared r s) = rest ps s := by
  unfold pcTransferEnds
  (repeat' split) <;> simp [hp]

@[simp] theorem rest_pcLost (hp : .ports ∈ ps) (s : State) :
    rest ps (pcLost s) = rest ps s := by
  simp [pcLost, hp]

@[simp] theorem rest_pcRetry (hp : .ports ∈ ps) (s : State) :
    rest ps (pcRetry s) = rest ps s := by
  simp [pcRetry, hp]

/-! Timebase. -/

@[simp] theorem rest_permitCarry (hp : .time ∈ ps ∧ .conv ∈ ps) (s : State) :
    rest ps (permitCarry s) = rest ps s := by
  simp [permitCarry, hp]

@[simp] theorem rest_secondCarry (hp : .time ∈ ps ∧ .conv ∈ ps) (s : State) :
    rest ps (secondCarry s) = rest ps s := by
  simp [secondCarry, hp]

@[simp] theorem rest_takeTicks (hp : .time ∈ ps ∧ .conv ∈ ps) (n : Nat) (s : State) :
    rest ps (takeTicks n s) = rest ps s := by
  simp [takeTicks, hp]

@[simp] theorem rest_trimEnds (hp : .time ∈ ps ∧ .conv ∈ ps) (s : State) :
    rest ps (trimEnds s) = rest ps s := by
  simp [trimEnds, hp]

@[simp] theorem rest_utimeLoads (hp : .time ∈ ps) (s : State) :
    rest ps (utimeLoads s) = rest ps s := by
  simp [utimeLoads, hp]

@[simp] theorem rest_utimeTick (hp : .time ∈ ps ∧ .conv ∈ ps) (s : State) :
    rest ps (utimeTick s) = rest ps s := by
  simp only [utimeTick]
  (repeat' split) <;> simp [hp]

@[simp] theorem rest_rtcCtrl (hp : .time ∈ ps) (v : Word) (s : State) :
    rest ps (rtcCtrl v s) = rest ps s := by
  simp [rtcCtrl, hp]

@[simp] theorem rest_alarmHi (hp : .time ∈ ps) (n : Fin 2) (v : Word) (s : State) :
    rest ps (alarmHi n v s) = rest ps s := by
  simp [alarmHi, hp]

@[simp] theorem rest_utimeCtrl (hp : .time ∈ ps) (v : Word) (s : State) :
    rest ps (utimeCtrl v s) = rest ps s := by
  simp [utimeCtrl, hp]

/-! Register commits. -/

@[simp] theorem rest_setTw (hp : .ports ∈ ps) (x : Fin 3) (r : Reg) (v : Word) (s : State) :
    rest ps (setTw x r v s) = rest ps s := by
  simp [setTw, hp]

@[simp] theorem rest_selectRecord (hp : .ports ∈ ps) (pv : PortView) (v : Word) (s : State) :
    rest ps (selectRecord pv v s) = rest ps s := by
  simp [selectRecord, hp]

@[simp] theorem rest_arbCtrl (hp : .clk ∈ ps ∧ .arb ∈ ps ∧ .pm ∈ ps) (pv : PortView) (page ptr : Nat) (v : Word) (s0 : State) :
    rest ps (arbCtrl pv page ptr v s0) = rest ps s0 := by
  simp only [arbCtrl]
  (repeat' split) <;> simp [hp]

theorem rest_orIgnore (pv : PortView) (page ptr : Nat) {r : Nat ⊕ State} {s : State}
    (h : ∀ t, r = .inr t → rest ps t = rest ps s) : rest ps (orIgnore pv page ptr r s) = rest ps s := by
  cases r with
  | inl reason => exact rest_ignoreReg pv reason page ptr s
  | inr t => exact h t rfl

@[simp] theorem rest_ignCommit (hp : .hosts ∈ ps) (h : Fin 4) (v : Word) (s : State) :
    rest ps (ignCommit h v s) = rest ps s := by
  simp [ignCommit, hp]

@[simp] theorem rest_pmDawnCommit (hp : .pm ∈ ps ∧ .pads ∈ ps) (v : Word) (s : State) :
    rest ps (pmDawnCommit v s) = rest ps s := by
  simp [pmDawnCommit, hp]

@[simp] theorem rest_wakeStatusCommit (hp : .wake ∈ ps) (v : Word) (s : State) :
    rest ps (wakeStatusCommit v s) = rest ps s := by
  simp [wakeStatusCommit, hp]

@[simp] theorem rest_fltCtrlCommit (hp : .flt ∈ ps) (v : Word) (s : State) :
    rest ps (fltCtrlCommit v s) = rest ps s := by
  simp [fltCtrlCommit, hp]

@[simp] theorem rest_tdmCommit (hp : .core ∈ ps) (p : Fin 4) (v : Word) (s : State) :
    rest ps (tdmCommit p v s) = rest ps s := by
  simp [tdmCommit, hp]

@[simp] theorem rest_brCommit (hp : .bridges ∈ ps) (b : Fin 8) (v : Word) (s : State) :
    rest ps (brCommit b v s) = rest ps s := by
  simp [brCommit, hp]

@[simp] theorem rest_twStatusCommit (hp : .ports ∈ ps) (x : Fin 3) (v : Word) (s : State) :
    rest ps (twStatusCommit x v s) = rest ps s := by
  simp [twStatusCommit, hp]

@[simp] theorem rest_privCommit (hp : .time ∈ ps ∧ .conv ∈ ps) (v : Word) (s : State) :
    rest ps (privCommit v s) = rest ps s := by
  simp [privCommit, hp]

/-! Ports. -/

@[simp] theorem rest_fifoErr (hp : .ports ∈ ps) (x : Fin 3) (s : State) :
    rest ps (fifoErr x s) = rest ps s := by
  simp [fifoErr, hp]

@[simp] theorem rest_fpCount (hp : .ports ∈ ps) (k : Nat) (s : State) :
    rest ps (fpCount k s) = rest ps s := by
  simp [fpCount, hp]

@[simp] theorem rest_fifoFull (hp : .ports ∈ ps) (pt : PortId) (s : State) :
    rest ps (fifoFull pt s) = rest ps s := by
  unfold fifoFull
  (repeat' split) <;> simp [hp]

@[simp] theorem rest_fifoEmpty (hp : .ports ∈ ps) (pt : PortId) (s : State) :
    rest ps (fifoEmpty pt s) = rest ps s := by
  unfold fifoEmpty
  (repeat' split) <;> simp [hp]

@[simp] theorem rest_fifoTakes (hp : .ret ∈ ps ∧ .hosts ∈ ps ∧ .ports ∈ ps) (pv : PortView) (page ptr : Nat) (b : Byte)
    (s : State) : rest ps (fifoTakes pv page ptr b s).2 = rest ps s := by
  unfold fifoTakes
  (repeat' split) <;> simp [hp]

@[simp] theorem rest_fifoPush (hp : .ret ∈ ps ∧ .hosts ∈ ps ∧ .ports ∈ ps) (pv : PortView) (page ptr : Nat) (b : Byte)
    (s : State) : rest ps (fifoPush pv page ptr b s) = rest ps s := by
  simp [fifoPush, hp]

@[simp] theorem rest_popEvent (hp : .hosts ∈ ps) (h : HostId) (s : State) : rest ps (popEvent h s).2 = rest ps s := by
  simp only [popEvent]
  (repeat' split) <;> simp [hp]

@[simp] theorem rest_popRecord (hp : .ports ∈ ps) (pv : PortView) (s : State) : rest ps (popRecord pv s).2 = rest ps s := by
  simp only [popRecord]
  (repeat' split) <;> simp [hp]

@[simp] theorem rest_popCapture (hp : .ports ∈ ps) (pv : PortView) (s : State) : rest ps (popCapture pv s).2 = rest ps s := by
  simp only [popCapture]
  (repeat' split) <;> simp [hp]

@[simp] theorem rest_popRx (hp : .ports ∈ ps) (s : State) : rest ps (popRx s).2 = rest ps s := by
  simp only [popRx]
  (repeat' split) <;> simp [hp]

@[simp] theorem rest_fifoGives (hp : .ret ∈ ps ∧ .hosts ∈ ps ∧ .ports ∈ ps) (pv : PortView) (page ptr : Nat) (s : State) :
    rest ps (fifoGives pv page ptr s).2 = rest ps s := by
  unfold fifoGives
  split
  · simp [hp]
  · split
    · split <;> simp [hp]
    · split
      · simp [hp]
      · split
        · split
          · rfl
          · split
            case h_1 b t h => exact rest_imgPop hp.1 h
            case h_2 => rfl
        · split <;> simp [hp]

@[simp] theorem rest_fifoPop (hp : .ret ∈ ps ∧ .hosts ∈ ps ∧ .ports ∈ ps) (pv : PortView) (page ptr : Nat) (s : State) :
    rest ps (fifoPop pv page ptr s).2 = rest ps s := by
  have h := rest_fifoGives hp pv page ptr s
  unfold fifoPop
  split
  case h_1 b t he => rw [he] at h; exact h
  case h_2 t he => rw [he] at h; simpa [hp] using h

@[simp] theorem rest_loadGroup (hp : .ports ∈ ps) (pv : PortView) (g : Bool) (s : State) :
    rest ps (loadGroup pv g s) = rest ps s := by
  simp [loadGroup, hp]

@[simp] theorem rest_groupByte (hp : .ports ∈ ps) (pv : PortView) (r : Reg) (g : Bool) (k ptr : Nat) (s : State) :
    rest ps (groupByte pv r g k ptr s).2 = rest ps s := by
  simp only [groupByte]
  split <;> simp [hp]

@[simp] theorem rest_plainByte (hp : .ports ∈ ps) (pv : PortView) (page ptr : Nat) (s : State) :
    rest ps (plainByte pv page ptr s).2 = rest ps s := by
  simp only [plainByte]
  split
  · simp [hp]
  · split <;> rfl

@[simp] theorem rest_windowByte (hp : .ports ∈ ps) (pv : PortView) (page ptr : Nat) (s : State) :
    rest ps (windowByte pv page ptr s).2 = rest ps s := by
  unfold windowByte
  (repeat' split) <;> simp [hp]

@[simp] theorem rest_advancePtr (hp : .ports ∈ ps) (pv : PortView) (s : State) :
    rest ps (advancePtr pv s) = rest ps s := by
  simp [advancePtr, hp]

@[simp] theorem rest_readByteAt (hp : .ret ∈ ps ∧ .hosts ∈ ps ∧ .ports ∈ ps) (pv : PortView) (s : State) :
    rest ps (readByteAt pv s).2 = rest ps s := by
  simp only [readByteAt]
  (repeat' split) <;> simp [hp]

@[simp] theorem rest_readBytes (hp : .ret ∈ ps ∧ .hosts ∈ ps ∧ .ports ∈ ps) (pv : PortView) : ∀ (n : Nat) (s : State),
    rest ps (readBytes pv n s).2 = rest ps s
  | 0, _ => rfl
  | n + 1, s => (rest_readBytes hp pv n _).trans (rest_readByteAt hp pv s)

@[simp] theorem rest_deliverBytes (hp : .ports ∈ ps) (r : List Byte × State) :
    rest ps (deliverBytes r) = rest ps r.2 := rest_modPorts hp _ _

@[simp] theorem rest_dropStaging (hp : .ports ∈ ps) (pv : PortView) (s : State) :
    rest ps (dropStaging pv s) = rest ps s := by
  unfold dropStaging
  (repeat' split) <;> simp [hp]

@[simp] theorem rest_endView (hp : .ports ∈ ps) (pv : PortView) (s : State) :
    rest ps (endView pv s) = rest ps s := by
  simp [endView, hp]

@[simp] theorem rest_endTransfer (hp : .ports ∈ ps) (pt : PortId) (s : State) :
    rest ps (endTransfer pt s) = rest ps s := by
  simp [endTransfer, hp]

@[simp] theorem rest_setPhase (hp : .ports ∈ ps) (tw : TwId) (ph : TwPhase) (h : Option HostId) (s : State) :
    rest ps (setPhase tw ph h s) = rest ps s := by
  simp [setPhase, hp]

@[simp] theorem rest_twStart (hp : .ports ∈ ps) (tw : TwId) (s : State) :
    rest ps (twStart tw s) = rest ps s := by
  unfold twStart
  (repeat' split) <;> simp [hp]

@[simp] theorem rest_twStop (hp : .ports ∈ ps) (tw : TwId) (s : State) :
    rest ps (twStop tw s) = rest ps s := by
  unfold twStop
  (repeat' split) <;> simp [hp]

@[simp] theorem rest_setNack (hp : .ports ∈ ps) (n : Bool) (s : State) :
    rest ps (setNack n s) = rest ps s := by
  simp [setNack, hp]

@[simp] theorem rest_twAddress (hp : .ret ∈ ps ∧ .hosts ∈ ps ∧ .ports ∈ ps) (tw : TwId) (b : Byte) (n : Nat) (s : State) :
    rest ps (twAddress tw b n s) = rest ps s := by
  simp only [twAddress]
  split
  · split <;> simp [hp]
  · rfl

@[simp] theorem rest_twPointer (hp : .ports ∈ ps) (tw : TwId) (b : Byte) (s : State) :
    rest ps (twPointer tw b s) = rest ps s := by
  simp only [twPointer]
  (repeat' split) <;> simp [hp]

@[simp] theorem rest_fetched (hp : .ports ∈ ps) (tw : TwId) (t : TwPort) (s : State) :
    rest ps (fetched tw t s) = rest ps s := by
  unfold fetched
  split
  · simp [hp]
  · rfl

@[simp] theorem rest_twAbort (hp : .ports ∈ ps) (tw : TwId) (restart : Bool) (s : State) :
    rest ps (twAbort tw restart s) = rest ps s := by
  simp [twAbort, hp]

@[simp] theorem rest_stretchOut (hp : .ports ∈ ps) (tw : TwId) (s : State) :
    rest ps (stretchOut tw s) = rest ps s := by
  simp [stretchOut, hp]

@[simp] theorem rest_requestBegins (hp : .ports ∈ ps) (tw : TwId) (s : State) :
    rest ps (requestBegins tw s) = rest ps s := by
  simp [requestBegins, hp]

@[simp] theorem rest_requestEnds (hp : .ports ∈ ps) (tw : TwId) (s : State) :
    rest ps (requestEnds tw s) = rest ps s := by
  simp [requestEnds, hp]

@[simp] theorem rest_requestAgain (hp : .ports ∈ ps) (tw : TwId) (s : State) :
    rest ps (requestAgain tw s) = rest ps s := by
  simp [requestAgain, hp]

@[simp] theorem rest_nightMatch (hp : .arb ∈ ps ∧ .pm ∈ ps ∧ .ports ∈ ps) (tw : TwId) (b : Byte) (s : State) :
    rest ps (nightMatch tw b s) = rest ps s := by
  unfold nightMatch
  (repeat' split) <;> simp [hp]

@[simp] theorem rest_logicReadyOn (hp : .ret ∈ ps ∧ .hosts ∈ ps ∧ .ports ∈ ps) (n : Nat) (tw : TwId) (s : State) :
    rest ps (logicReadyOn n tw s) = rest ps s := by
  simp only [logicReadyOn]
  split <;> simp [hp]

@[simp] theorem rest_logicReady (hp : .ret ∈ ps ∧ .hosts ∈ ps ∧ .ports ∈ ps) (n : Nat) (s : State) :
    rest ps (logicReady n s) = rest ps s := by
  simp [logicReady, hp]

@[simp] theorem rest_fpBegins (hp : .ports ∈ ps) (m3 : Bool) (s : State) :
    rest ps (fpBegins m3 s) = rest ps s := by
  simp [fpBegins, hp]

@[simp] theorem rest_fpPlace (hp : .ports ∈ ps) (pv : PortView) (page ptr : Byte) (s : State) :
    rest ps (fpPlace pv page ptr s) = rest ps s := by
  simp [fpPlace, hp]

@[simp] theorem rest_fpRead (hp : .ret ∈ ps ∧ .hosts ∈ ps ∧ .ports ∈ ps) (m3 : Bool) (page ptr : Byte) (n : Nat) (s : State) :
    rest ps (fpRead m3 page ptr n s) = rest ps s := by
  simp only [fpRead]
  split
  · rfl
  · split <;> simp [hp]

@[simp] theorem rest_fpReadStatus (hp : .ports ∈ ps) (m3 : Bool) (s : State) :
    rest ps (fpReadStatus m3 s) = rest ps s := by
  simp only [fpReadStatus]
  split
  · rfl
  · split <;> simp [hp]

@[simp] theorem rest_fpBadOp (hp : .ports ∈ ps) (m3 : Bool) (op : Byte) (s : State) :
    rest ps (fpBadOp m3 op s) = rest ps s := by
  simp [fpBadOp, hp]

@[simp] theorem rest_fpEnds (hp : .ports ∈ ps) (s : State) :
    rest ps (fpEnds s) = rest ps s := by
  simp [fpEnds, hp]

/-! Host rows. -/

@[simp] theorem rest_popRow (hp : .ret ∈ ps ∧ .hosts ∈ ps ∧ .ports ∈ ps) (pv : PortView) (page ptr : Nat) (s : State) :
    rest ps (popRow pv page ptr s) = rest ps s := by
  simp [popRow, hp]

/-! Clock monitors. -/

@[simp] theorem rest_dropClk (hp : .clk ∈ ps) (x : Side) (pll : Bool) (s : State) :
    rest ps (dropClk x pll s) = rest ps s := by
  simp [dropClk, hp]

@[simp] theorem rest_coreLinksFail (hp : .core ∈ ps ∧ .dies ∈ ps ∧ .bridges ∈ ps ∧ .conv ∈ ps ∧ .free ∈ ps) (s : State) :
    rest ps (coreLinksFail s) = rest ps s := by
  simp [coreLinksFail, hp]

@[simp] theorem rest_keeperRef (hp : .clk ∈ ps ∧ .core ∈ ps) (x : Side) (s : State) :
    rest ps (keeperRef x s) = rest ps s := by
  simp [keeperRef, hp]

@[simp] theorem rest_stepFails (hp : .clk ∈ ps ∧ .arb ∈ ps ∧ .pm ∈ ps ∧ .core ∈ ps ∧ .dies ∈ ps ∧ .bridges ∈ ps ∧
    .lmu ∈ ps ∧ .conv ∈ ps ∧ .sadc ∈ ps ∧ .wake ∈ ps ∧ .pads ∈ ps) (d : Dawn) (pll : Bool) (s : State) :
    rest ps (stepFails d pll s) = rest ps s := by
  simp [stepFails, hp]

@[simp] theorem rest_crystalFails_running (hp : .clk ∈ ps ∧ .arb ∈ ps ∧ .mirror ∈ ps ∧ .pm ∈ ps ∧ .core ∈ ps ∧ .dies ∈ ps ∧
    .bridges ∈ ps ∧ .conv ∈ ps ∧ .free ∈ ps) (x : Side) (s : State) : rest ps (crystalFails.running x s) = rest ps s := by
  simp [crystalFails.running, hp]

@[simp] theorem rest_crystalFails (hp : .clk ∈ ps ∧ .arb ∈ ps ∧ .mirror ∈ ps ∧ .pm ∈ ps ∧ .core ∈ ps ∧ .dies ∈ ps ∧
    .bridges ∈ ps ∧ .lmu ∈ ps ∧ .conv ∈ ps ∧ .sadc ∈ ps ∧ .wake ∈ ps ∧ .pads ∈ ps ∧
    .free ∈ ps) (x : Side) (pll : Bool) (s : State) :
    rest ps (crystalFails x pll s) = rest ps s := by
  unfold crystalFails
  (repeat' split) <;> simp [hp]

/-! Accesses. -/

@[simp] theorem rest_engEvent (src : Nat) (e : Eng) (s : State) :
    rest ps (engEvent src e s) = rest ps s := by
  simp [engEvent]

@[simp] theorem rest_sysDone (hp : .core ∈ ps ∧ .wake ∈ ps) (e : Eng) (s : State) : rest ps (sysDone e s) = rest ps s := by
  simp [sysDone, hp]

@[simp] theorem rest_roomDly (hp : .mirror ∈ ps ∧ .core ∈ ps ∧ .wake ∈ ps) (e : Eng) (s : State) :
    rest ps (roomDly e s) = rest ps s := by
  simp only [roomDly]
  split <;> simp [hp]

@[simp] theorem rest_roomFab (hp : .mirror ∈ ps ∧ .core ∈ ps ∧ .wake ∈ ps) (e : Eng) (s : State) :
    rest ps (roomFab e s) = rest ps s := by
  simp only [roomFab]
  split <;> simp [hp]

@[simp] theorem rest_violTaken (hp : .free ∈ ps) (viol : Bool) (s : State) :
    rest ps (violTaken viol s) = rest ps s := by
  simp [violTaken, hp]

/-! Outputs. -/

@[simp] theorem rest_runSink (hp : .core ∈ ps) (k : Nat) (s : State) : rest ps (runSink k s).1 = rest ps s := by
  simp only [runSink]
  (repeat' split) <;> exact rest_modFab hp _ s

@[simp] theorem rest_clampSeen (hp : .core ∈ ps) (k : Option Nat) (s : State) :
    rest ps (clampSeen k s) = rest ps s := by
  unfold clampSeen
  (repeat' split) <;> simp [hp]

theorem rest_runSinks (hp : .core ∈ ps) : ∀ (ks : List Nat) (p : State × Option Nat),
    rest ps (ks.foldl (fun p k => ((runSink k p.1).1, if
    (runSink k p.1).2 && p.2.isNone then some k else p.2)) p).1 = rest ps p.1
  | [], _ => rfl
  | k :: ks, p => (rest_runSinks hp ks _).trans (rest_runSink hp k p.1)

@[simp] theorem rest_runOutputs (hp : .core ∈ ps) (s : State) : rest ps (runOutputs s) = rest ps s :=
  (rest_clampSeen hp _ _).trans (rest_runSinks hp _ (s, none))

@[simp] theorem rest_finishOutputs (hp : .core ∈ ps ∧ .conv ∈ ps) (s : State) :
    rest ps (finishOutputs s) = rest ps s := by
  simp [finishOutputs, hp]

@[simp] theorem rest_clipSeen (hp : .core ∈ ps) (b : Option Nat) (s : State) :
    rest ps (clipSeen b s) = rest ps s := by
  unfold clipSeen
  (repeat' split) <;> simp [hp]

@[simp] theorem rest_busesOn (hp : .core ∈ ps) (s : State) :
    rest ps (busesOn s) = rest ps s := by
  simp [busesOn, hp]

@[simp] theorem rest_releaseEntries (hp : .core ∈ ps) (s : State) :
    rest ps (releaseEntries s) = rest ps s := by
  simp [releaseEntries, hp]

/-! Rails. -/

@[simp] theorem rest_railsOn (hp : .dies ∈ ps) (old s : State) :
    rest ps (railsOn old s) = rest ps s := by
  simp [railsOn, hp]

@[simp] theorem rest_dieReport (hp : .dies ∈ ps ∧ .bridges ∈ ps) (old : State) (d : Fin 4) (m : DieMeas) (s : State) :
    rest ps (dieReport old d m s) = rest ps s := by
  simp only [dieReport]
  split
  · split
    · rw [rest_updateRails hp.1, rest_raiseLimited, rest_modDie hp.1, rest_set_bridges hp.2, rest_modDie hp.1]
    · rw [rest_set_bridges hp.2, rest_modDie hp.1]
  · rfl

@[simp] theorem rest_modsOn (hp : .bridges ∈ ps) (old s : State) :
    rest ps (modsOn old s) = rest ps s := by
  simp [modsOn, hp]

@[simp] theorem rest_reportAll (hp : .dies ∈ ps ∧ .bridges ∈ ps) (s : State) : rest ps (reportAll s) = rest ps s := by
  simp only [reportAll, rest, hp, if_true]

@[simp] theorem rest_dieBoundary (hp : .core ∈ ps ∧ .dies ∈ ps ∧ .bridges ∈ ps) (inp : BoundaryIn) (old s : State) :
    rest ps (dieBoundary inp old s) = rest ps s := by
  simp only [dieBoundary]
  rw [rest_modFab hp.1, rest_modsOn hp.2.2, rest_foldl, rest_railsOn hp.2.1]
  intro t d
  split <;> simp [hp]

/-! Redundancy. -/

@[simp] theorem rest_copyComplete (hp : .time ∈ ps ∧ .arb ∈ ps ∧ .mirror ∈ ps ∧ .pm ∈ ps ∧ .lmu ∈ ps ∧ .sadc ∈ ps ∧
    .wake ∈ ps ∧ .ret ∈ ps ∧ .hosts ∈ ps ∧ .free ∈ ps) (c : CopyRec) (s : State) :
    rest ps (copyComplete c s) = rest ps s := by
  simp [copyComplete, hp]

@[simp] theorem rest_takeAtAck (hp : .clk ∈ ps ∧ .time ∈ ps ∧ .arb ∈ ps ∧ .mirror ∈ ps ∧ .pm ∈ ps ∧ .core ∈ ps ∧
    .dies ∈ ps ∧ .bridges ∈ ps ∧ .lmu ∈ ps ∧ .conv ∈ ps ∧ .sadc ∈ ps ∧ .wake ∈ ps ∧ .ret ∈ ps ∧ .hosts ∈ ps ∧ .ports ∈ ps ∧
    .free ∈ ps) (s : State) :
    rest ps (takeAtAck s) = rest ps s := by
  unfold takeAtAck
  (repeat' split) <;> simp [hp]

@[simp] theorem rest_copyAck (hp : .clk ∈ ps ∧ .time ∈ ps ∧ .arb ∈ ps ∧ .mirror ∈ ps ∧ .pm ∈ ps ∧ .core ∈ ps ∧ .dies ∈ ps ∧
    .bridges ∈ ps ∧ .lmu ∈ ps ∧ .conv ∈ ps ∧ .sadc ∈ ps ∧ .wake ∈ ps ∧ .ret ∈ ps ∧ .hosts ∈ ps ∧ .ports ∈ ps ∧
    .free ∈ ps) (s : State) :
    rest ps (copyAck s) = rest ps s := by
  unfold copyAck
  (repeat' split) <;> simp [hp]

@[simp] theorem rest_mirrorFault (hp : .arb ∈ ps ∧ .mirror ∈ ps) (crc : Bool) (s : State) :
    rest ps (mirrorFault crc s) = rest ps s := by
  simp [mirrorFault, hp]

@[simp] theorem rest_modFeed (hp : .feeds ∈ ps) (x : Side) (f : Feed → Feed) (s : State) :
    rest ps (modFeed x f s) = rest ps s := by
  simp [modFeed, hp]

/-! Boundaries. -/

@[simp] theorem rest_captureInputs (hp : .conv ∈ ps) (inp : BoundaryIn) (s : State) :
    rest ps (captureInputs inp s) = rest ps s := by
  simp [captureInputs, hp]

@[simp] theorem rest_takeD48 (hp : .core ∈ ps) (inp : BoundaryIn) (s : State) :
    rest ps (takeD48 inp s) = rest ps s := by
  simp [takeD48, hp]

@[simp] theorem rest_takeD16 (hp : .core ∈ ps ∧ .conv ∈ ps) (old s : State) :
    rest ps (takeD16 old s) = rest ps s := by
  simp [takeD16, hp]

@[simp] theorem rest_drainAll (hp : .mirror ∈ ps ∧ .core ∈ ps ∧ .wake ∈ ps) (s : State) :
    rest ps (drainAll s) = rest ps s := by
  simp [drainAll, hp]

@[simp] theorem rest_countOverruns (hp : .core ∈ ps ∧ .wake ∈ ps) (s : State) :
    rest ps (countOverruns s) = rest ps s := by
  simp [countOverruns, hp]

@[simp] theorem rest_releaseEngines (hp : .core ∈ ps) (s : State) :
    rest ps (releaseEngines s) = rest ps s := by
  simp [releaseEngines, hp]

@[simp] theorem rest_releaseOrRest (hp : .core ∈ ps) (s : State) :
    rest ps (releaseOrRest s) = rest ps s := by
  simp [releaseOrRest, hp]

@[simp] theorem rest_coreSleeps (hp : .clk ∈ ps ∧ .arb ∈ ps ∧ .mirror ∈ ps ∧ .pm ∈ ps ∧ .ports ∈ ps) (s : State) :
    rest ps (coreSleeps s) = rest ps s := by
  unfold coreSleeps
  (repeat' split) <;> simp [hp]

@[simp] theorem rest_signalD16 (hp : .core ∈ ps) (s : State) :
    rest ps (signalD16 s) = rest ps s := by
  unfold signalD16
  (repeat' split) <;> simp [hp]

@[simp] theorem rest_residentFrame (hp : .pm ∈ ps ∧ .core ∈ ps ∧ .conv ∈ ps ∧ .wake ∈ ps ∧ .hosts ∈ ps) (s : State) :
    rest ps (residentFrame s) = rest ps s := by
  simp only [residentFrame]
  split
  · simp [hp]
  · rfl

@[simp] theorem rest_residentNeeds (hp : .bridges ∈ ps ∧ .free ∈ ps) (s : State) :
    rest ps (residentNeeds s) = rest ps s := by
  unfold residentNeeds
  (repeat' split) <;> simp [hp]

@[simp] theorem rest_programNeeds (hp : .bridges ∈ ps) (rs : List Nat) (s : State) :
    rest ps (programNeeds rs s) = rest ps s := by
  simp [programNeeds, hp]

@[simp] theorem rest_takeGains (hp : .conv ∈ ps) (ws : List Sample) (s : State) :
    rest ps (takeGains ws s) = rest ps s := by
  simp [takeGains, hp]

@[simp] theorem rest_programBlocks (hp : .core ∈ ps ∧ .bridges ∈ ps ∧ .lmu ∈ ps ∧ .conv ∈ ps ∧ .hosts ∈ ps ∧
    .free ∈ ps) (s : State) :
    rest ps (programBlocks s) = rest ps s := by
  simp [programBlocks, hp]

@[simp] theorem rest_permitWipe (hp : .core ∈ ps) (s : State) :
    rest ps (permitWipe s) = rest ps s := by
  simp [permitWipe, hp]

@[simp] theorem rest_programEnds (hp : .arb ∈ ps ∧ .mirror ∈ ps ∧ .core ∈ ps ∧ .dies ∈ ps ∧ .bridges ∈ ps ∧ .lmu ∈ ps ∧
    .conv ∈ ps ∧ .sadc ∈ ps ∧ .wake ∈ ps ∧ .ret ∈ ps ∧ .hosts ∈ ps ∧ .ports ∈ ps ∧ .tap ∈ ps ∧ .free ∈ ps) (s : State) :
    rest ps (programEnds s) = rest ps s := by
  simp [programEnds, hp]

@[simp] theorem rest_copyIncomplete (hp : .arb ∈ ps ∧ .mirror ∈ ps) (s : State) :
    rest ps (copyIncomplete s) = rest ps s := by
  simp [copyIncomplete, hp]

@[simp] theorem rest_ageOn (hp : .mirror ∈ ps) (s : State) :
    rest ps (ageOn s) = rest ps s := by
  simp [ageOn, hp]

@[simp] theorem rest_markStore (hp : .mirror ∈ ps) (s : State) :
    rest ps (markStore s) = rest ps s := by
  simp [markStore, hp]

@[simp] theorem rest_copyBegins (hp : .mirror ∈ ps) (core : CoreSt) (s : State) :
    rest ps (copyBegins core s) = rest ps s := by
  simp [copyBegins, hp]

@[simp] theorem rest_deferBoundary (hp : .time ∈ ps ∧ .pm ∈ ps ∧ .lmu ∈ ps ∧ .sadc ∈ ps ∧ .wake ∈ ps ∧ .ret ∈ ps ∧
    .hosts ∈ ps ∧ .free ∈ ps) (ran : Bool) (s : State) :
    rest ps (deferBoundary ran s) = rest ps s := by
  simp [deferBoundary, hp]

@[simp] theorem rest_takeBoundary (hp : .clk ∈ ps ∧ .time ∈ ps ∧ .arb ∈ ps ∧ .mirror ∈ ps ∧ .pm ∈ ps ∧ .core ∈ ps ∧
    .dies ∈ ps ∧ .bridges ∈ ps ∧ .lmu ∈ ps ∧ .conv ∈ ps ∧ .sadc ∈ ps ∧ .wake ∈ ps ∧ .ret ∈ ps ∧ .hosts ∈ ps ∧ .ports ∈ ps ∧
    .free ∈ ps) (s : State) :
    rest ps (takeBoundary s) = rest ps s := by
  unfold takeBoundary
  (repeat' split) <;> simp [hp]

@[simp] theorem rest_frameLimiters (s : State) :
    rest ps (frameLimiters s) = rest ps s := by
  simp [frameLimiters]

@[simp] theorem rest_linkBoundary (hp : .conv ∈ ps ∧ .free ∈ ps) (s : State) :
    rest ps (linkBoundary s) = rest ps s := by
  simp [linkBoundary, hp]

@[simp] theorem rest_unmuteTakeover (hp : .arb ∈ ps) (s : State) :
    rest ps (unmuteTakeover s) = rest ps s := by
  simp [unmuteTakeover, hp]

@[simp] theorem rest_sadcBoundary (hp : .clk ∈ ps ∧ .core ∈ ps ∧ .sadc ∈ ps) (byCore : Bool) (s : State) :
    rest ps (sadcBoundary byCore s) = rest ps s := by
  simp [sadcBoundary, hp]

@[simp] theorem rest_watchBoundary (hp : .core ∈ ps) (s : State) :
    rest ps (watchBoundary s) = rest ps s := by
  simp [watchBoundary, hp]

@[simp] theorem rest_frameOn (hp : .time ∈ ps) (s : State) :
    rest ps (frameOn s) = rest ps s := by
  simp [frameOn, hp]

@[simp] theorem rest_programStarts (hp : .arb ∈ ps ∧ .mirror ∈ ps ∧ .core ∈ ps ∧ .dies ∈ ps ∧ .bridges ∈ ps ∧ .lmu ∈ ps ∧
    .conv ∈ ps ∧ .sadc ∈ ps ∧ .wake ∈ ps ∧ .hosts ∈ ps ∧ .free ∈ ps) (rows : List (Sample × Sample)) (s : State) :
    rest ps (programStarts rows s) = rest ps s := by
  simp [programStarts, hp]

@[simp] theorem rest_boundary (hp : .clk ∈ ps ∧ .time ∈ ps ∧ .arb ∈ ps ∧ .mirror ∈ ps ∧ .pm ∈ ps ∧ .core ∈ ps ∧
    .dies ∈ ps ∧ .bridges ∈ ps ∧ .lmu ∈ ps ∧ .conv ∈ ps ∧ .sadc ∈ ps ∧ .wake ∈ ps ∧ .ret ∈ ps ∧ .hosts ∈ ps ∧ .pads ∈ ps ∧
    .ports ∈ ps ∧ .tap ∈ ps ∧ .free ∈ ps) (missing : Nat) (inp : BoundaryIn) (s : State) :
    rest ps (boundary missing inp s) = rest ps s := by
  simp [boundary, hp]

@[simp] theorem rest_coreBoundary (hp : .clk ∈ ps ∧ .time ∈ ps ∧ .arb ∈ ps ∧ .mirror ∈ ps ∧ .pm ∈ ps ∧ .core ∈ ps ∧
    .dies ∈ ps ∧ .bridges ∈ ps ∧ .lmu ∈ ps ∧ .conv ∈ ps ∧ .sadc ∈ ps ∧ .wake ∈ ps ∧ .ret ∈ ps ∧ .hosts ∈ ps ∧ .pads ∈ ps ∧
    .ports ∈ ps ∧ .tap ∈ ps ∧ .free ∈ ps) (inp : BoundaryIn) (s : State) :
    rest ps (coreBoundary inp s) = rest ps s := by
  simp [coreBoundary, hp]

@[simp] theorem rest_idleBoundary (hp : .clk ∈ ps ∧ .time ∈ ps ∧ .arb ∈ ps ∧ .mirror ∈ ps ∧ .pm ∈ ps ∧ .core ∈ ps ∧
    .dies ∈ ps ∧ .bridges ∈ ps ∧ .lmu ∈ ps ∧ .conv ∈ ps ∧ .sadc ∈ ps ∧ .wake ∈ ps ∧ .ret ∈ ps ∧ .hosts ∈ ps ∧ .ports ∈ ps ∧
    .tap ∈ ps ∧ .free ∈ ps) (s : State) :
    rest ps (idleBoundary s) = rest ps s := by
  simp [idleBoundary, hp]

/-! Converter rows. -/

@[simp] theorem rest_micsBad (hp : .conv ∈ ps) (s : State) :
    rest ps (micsBad s) = rest ps s := by
  simp [micsBad, hp]

/-! Fabric rows. -/

@[simp] theorem rest_pendCmd (hp : .core ∈ ps) (w v : Sample) (s : State) :
    rest ps (pendCmd w v s) = rest ps s := by
  simp [pendCmd, hp]

/-! Host commands. -/

@[simp] theorem rest_hostCommand (hp : .core ∈ ps ∧ .wake ∈ ps ∧ .ret ∈ ps ∧ .hosts ∈ ps ∧
    .ports ∈ ps) (pv : PortView) (ws : List Word) (rc : Byte) (reply : Word) (s : State) :
    rest ps (hostCommand pv ws rc reply s) = rest ps s := by
  simp [hostCommand, hp]

/-! SYS. -/

@[simp] theorem rest_sysCommit (hp : .mirror ∈ ps ∧ .core ∈ ps ∧ .wake ∈ ps ∧
    .free ∈ ps) (localFn : Bool) (x0 : Engine) (ra : BitVec 3) (val : Option Acc) (c : Bool) (s : State) :
    rest ps (sysCommit localFn x0 ra val c s) = rest ps s := by
  simp [sysCommit, hp]

@[simp] theorem rest_rsaNext (hp : .core ∈ ps) (s : State) :
    rest ps (rsaNext s) = rest ps s := by
  simp [rsaNext, hp]

/-! Loads. -/

@[simp] theorem rest_pExit (hp : .core ∈ ps ∧ .wake ∈ ps) (s : State) :
    rest ps (pExit s) = rest ps s := by
  simp [pExit, hp]

/-! Retained. -/

@[simp] theorem rest_messageEnds (hp : .core ∈ ps) (s : State) :
    rest ps (messageEnds s) = rest ps s := by
  unfold messageEnds
  (repeat' split) <;> simp [hp]

/-! TDM ports. -/

@[simp] theorem rest_modTdm (hp : .core ∈ ps) (p : Fin 4) (f : TdmPort → TdmPort) (s : State) :
    rest ps (modTdm p f s) = rest ps s := by
  simp [modTdm, hp]

end

end Sys2Proof.Machine

end

section
/-!
PROOFS. Every command completes (O3), and the frames of the rows that are no engine instruction (O7).
-/

namespace Sys2Proof.Machine

open Sys2Proof.Safety

/-! The forms of a row's meaning: each completes. -/

theorem act_next (s : State) (f : State → State) : ∃ t, act s f = .next t := by
  unfold act
  split <;> exact ⟨_, rfl⟩

theorem actWake_next (s : State) (f : State → State) : ∃ t, actWake s f = .next t := act_next s _

theorem hostAct_next (pv : PortView) (s : State) (f : State → State) : ∃ t, hostAct pv s f = .next t := actWake_next s _

theorem engEnd_next (e : Eng) (s : State) : ∃ t, engEnd e s = .next t := by
  unfold engEnd
  split <;> exact ⟨_, rfl⟩

theorem engRun_completes (s : State) (e : Eng) (f : Engine → Eff) : ∃ t, engRun s e f = .next t := by
  simp only [engRun]
  split
  · split
    · exact ⟨_, rfl⟩
    · exact engEnd_next _ _
  · exact ⟨_, rfl⟩

theorem engFlow_completes (s : State) (e : Eng) (f : BitVec 16 → Engine → Eff) : ∃ t, engFlow s e f = .next t := by
  simp only [engFlow]
  split
  · split
    · exact ⟨_, rfl⟩
    · exact engEnd_next _ _
  · exact ⟨_, rfl⟩

theorem engIssue_completes (s : State) (e : Eng) (f : Engine → Eff) : ∃ t, engIssue s e f = .next t := by
  simp only [engIssue]
  split
  · split
    · exact ⟨_, rfl⟩
    · exact engEnd_next _ _
  · exact ⟨_, rfl⟩

theorem sysRun_completes (fn : Nat) (localFn : Bool) (e : Eng) (ra : BitVec 3) (imm : BitVec 16) (s : State)
    (f : Engine → State → SysAns) : ∃ t, sysRun fn localFn e ra imm s f = .next t := by
  simp only [sysRun]
  split
  · split
    · exact ⟨_, rfl⟩
    · split <;> exact ⟨_, rfl⟩
  · exact ⟨_, rfl⟩

theorem waits_completes (e : Eng) (sem : BitVec 5) (s : State) : ∃ t, execWaits e sem s = .next t := by
  simp only [execWaits]
  (repeat' split) <;> exact ⟨_, rfl⟩

theorem issued_completes {o : Out} (ev : Option Nat) (e : Eng) (h : ∃ t, o = .next t) : ∃ t, issued ev e o = .next t := by
  obtain ⟨t, rfl⟩ := h
  cases ev <;> exact ⟨_, rfl⟩

theorem fabFailed_completes {o : Out} (deg failed : Bool) (e : Eng) (h : ∃ t, o = .next t) :
    ∃ t, fabFailed deg failed e o = .next t := by
  obtain ⟨t, rfl⟩ := h
  simp only [fabFailed]
  (repeat' split) <;> exact ⟨_, rfl⟩

theorem dlr_completes (e : Eng) (loc : BitVec 3) (pq k dm : BitVec 2) (ofs : BitVec 16) (s : State) :
    ∃ t, execDlr e loc pq k dm ofs s = .next t := by
  simp only [execDlr]
  split
  · exact issued_completes _ e (engIssue_completes _ _ _)
  · exact ⟨_, rfl⟩

theorem dlw_completes (e : Eng) (loc : BitVec 3) (pq k dm : BitVec 2) (ofs : BitVec 16) (s : State) :
    ∃ t, execDlw e loc pq k dm ofs s = .next t := by
  simp only [execDlw]
  split
  · exact issued_completes _ e (engIssue_completes _ _ _)
  · exact ⟨_, rfl⟩

theorem frd_completes (e : Eng) (loc : BitVec 3) (pq : BitVec 2) (ixa : Bool) (slot : BitVec 10) (idx : BitVec 8) (s : State) :
    ∃ t, execFrd e loc pq ixa slot idx s = .next t := by
  simp only [execFrd]
  split
  · exact fabFailed_completes _ _ e (engIssue_completes _ _ _)
  · exact ⟨_, rfl⟩

theorem fwr_completes (e : Eng) (loc : BitVec 3) (pq : BitVec 2) (ixa : Bool) (slot : BitVec 10) (idx : BitVec 8) (s : State) :
    ∃ t, execFwr e loc pq ixa slot idx s = .next t := by
  simp only [execFwr]
  split
  · exact fabFailed_completes _ _ e (engIssue_completes _ _ _)
  · exact ⟨_, rfl⟩

theorem illegal_completes (e : Eng) (w : Word) (s : State) : ∃ t, execIllegalInstruction e w s = .next t := by
  unfold execIllegalInstruction
  split
  · exact engRun_completes _ _ _
  · exact ⟨_, rfl⟩

theorem resetRelease_next (fbSel : Bool) (haddr : BitVec 3) (s : State) : ∃ t, execResetRelease fbSel haddr s = .next t := by
  unfold execResetRelease
  split <;> exact ⟨_, rfl⟩

/-- A row that checks its words. -/
theorem guarded_completes {c : Instr} {s : State} {o : Out} (hc : exec c s = if c.rowOk then o else .fault .malformed)
    (h : ∃ t, o = .next t) :
    (c.rowOk = true → ∃ t, exec c s = .next t) ∧ (c.rowOk = false → exec c s = .fault .malformed) := by
  refine ⟨fun hr => ?_, fun hr => ?_⟩
  · rw [hc, if_pos hr]
    exact h
  · rw [hc, if_neg (by simp [hr])]

/-- R147, R214, R227, R364: the row carries words of its own. -/
def hasWords : Instr → Bool
  | .fabEnd .. | .bussrc .. | .sink .. | .ramp .. | .busclr .. | .indom .. | .tdmcfg .. | .direct .. | .d16sem .. | .looka ..
  | .supervisionStop .. | .pilotContinuous .. | .pilotCounted .. | .sweep .. | .fingerprintCapture .. | .filterCalibration ..
  | .earthStop .. | .earthContinuous .. | .earthCounted .. | .loadset .. | .startset .. | .ldstat .. | .claim .. | .release ..
  | .wakeack .. | .seenclr .. | .programCommand .. => true
  | _ => false

/-- An engine instruction completes. -/
theorem instruction_completes {c : Instr} {e : Eng} (s : State) (he : c.engine? = some e) : ∃ t, exec c s = .next t := by
  cases c with
  | nop | pmov | mpy | mpyn | mac | macn | macr | macnr | add | sub | mova | neg | abs | cmp | clr | rnd | lim | and
  | or | xor | not | asl | asr | lsr | max | min | maxi | mini | maxai | mov | ldx | lda | ldi | mvx | mvy | ash
  | lsh | cls | addi =>
    simp only [exec]
    exact engRun_completes _ _ _
  | bra | call | ret | loop | loopr | exit | brx | waitf =>
    simp only [exec]
    exact engFlow_completes _ _ _
  | wdog | rdframe | rdtime | cmdhead | cmdword | cmddone | evraise | resopen | reswr | respub | rsaddr | rsrd | rswr
  | cfgsave | pwrreq | pmstat | stage | stgstat | pdmrate | wakeclr | plbegin | pload | plend | pstart | pstop
  | pexit | plstat =>
    simp only [exec]
    exact sysRun_completes _ _ _ _ _ _ _
  | sig =>
    simp only [exec]
    exact engIssue_completes _ _ _
  | sigApply | frdResult | dlrResult =>
    simp only [exec]
    exact act_next _ _
  | illegalInstruction =>
    exact illegal_completes _ _ s
  | waits =>
    exact waits_completes _ _ s
  | frd =>
    exact frd_completes _ _ _ _ _ _ s
  | fwr =>
    exact fwr_completes _ _ _ _ _ _ s
  | dlr =>
    exact dlr_completes _ _ _ _ _ _ s
  | dlw =>
    exact dlw_completes _ _ _ _ _ _ s
  | _ => exact absurd he (by simp [Instr.engine?])

/-- A row of the device that carries no words completes. -/
theorem row_completes {c : Instr} (s : State) (he : c.engine? = none) (hw : hasWords c = false) : ∃ t, exec c s = .next t := by
  cases c with
  | copyAck | mirrorLinkFault | fillComplete | watchdogExpiry | takeLapse | sideDawnRetry | feedLow | feedLowClear
  | ck32Failure | ck32Return | ck32StartTimeout | kfLockLoss | crystalPllFailure | engineClockLoss | sadcLockLoss
  | converterLinkLoss | clockErrorMute | clockValid | permitMinute | messageRecheck | sysResult | headerCheckDone
  | engineLoadDone | sweepStart | pilotWindowEnd | sweepIntegrationEnd | earthTestEnd | supervisionGap | gainCommand
  | gainApply | railNeedBlock | softstartDone | stopComplete | overcurrentTrip | tripBlankingEnd | cooldownEnd
  | probeToneEnd | thermalThreshold | thermalStepFall | thermalShutdownClear | boostFault | boostRestart
  | railGuardEnd | message0End | inputOverload | jackInsertion | jackRemoval | jackClassified | pdmClockRestart
  | micpwrOvercurrent | micpwrRetry | quietChargeDone | candidateTimeout | captureDone | handshakeReply
  | handshakeDelayEnd | handshakeNoReply | entryWindowEnd | dawnStart | dawnStepReady | dawnStepTimeout
  | dawnRetryOffEnd | dawnRepeat | unitReady | limiterExpiry | faultMinPulseEnd | bootLoad | tagCheckDone
  | assemblyTimeout | wipeDone | imageWriteCheckDone | saveDone | inbandRequest | inbandRequestEnd | rdsr
  | fastBadOpcode | pcTransferEnd | arbitrationLost | arbitrationRetry | tdmClockMissing | tdmWrongRate
  | tdmSlotSyncError | tdmReturn | extest | samplePreload | bypass | kfLock | sadcLock | twarnClear
  | inbandRequestRedue | messageCheckDone | delaySramWipeDone | pdmRateChangeEnd =>
    simp only [exec]
    exact act_next _ _
  | frameBoundary | keeperBoundary | feedPresent | feedLoss | feedOvervoltage | feedOvClear | alarmFire
  | periodicTimerFire | trimIntervalEnd | scanPublish | nightScan | sentinelTrip | privacyAssert | privacyRelease
  | wakeBlockStrobe | twStart | twStop | twAddressByte | twPointerByte | twAckSlotAbort | stretchTimeout
  | nightAddressMatch | portLogicReady | wrq | rdq | fastCsRise | sentinelReturn =>
    simp only [exec]
    exact actWake_next _ _
  | takeCommand | sideDawnRequest | utimeLoad | capture | detAck | commandFifoPush | eventFifoPop | pageWrite
  | registerWrite | periodWrite | permitWrite | rbSelWrite | recSelWrite | recordFifoPop | capturePortRead
  | lcTransition | keyWrite | imageFifoPush | imageFifoPop | pcTransfer | pcBusClear | portpTxPush | portpRxPop
  | writeSet | writeMessage | deleteMessage | exportPkg | importPkg | save | abort =>
    simp only [exec]
    exact hostAct_next _ _ _
  | powerOnReset | resetN =>
    exact ⟨_, rfl⟩
  | resetRelease =>
    exact resetRelease_next _ _ s
  | fabEnd | bussrc | sink | ramp | busclr | indom | tdmcfg | direct | d16sem | looka | supervisionStop | pilotContinuous
  | pilotCounted | sweep | fingerprintCapture | filterCalibration | earthStop | earthContinuous | earthCounted | loadset
  | startset | ldstat | claim | release | wakeack | seenclr | programCommand => exact absurd hw (by simp [hasWords])
  | _ => exact absurd he (by simp [Instr.engine?])

theorem rowOk_of_noWords {c : Instr} (hw : hasWords c = false) : c.rowOk = true := by
  cases c with
  | fabEnd | bussrc | sink | ramp | busclr | indom | tdmcfg | direct | d16sem | looka | supervisionStop | pilotContinuous
  | pilotCounted | sweep | fingerprintCapture | filterCalibration | earthStop | earthContinuous | earthCounted | loadset
  | startset | ldstat | claim | release | wakeack | seenclr | programCommand => exact absurd hw (by simp [hasWords])
  | _ => rfl

theorem noWords_of_engine {c : Instr} {e : Eng} (he : c.engine? = some e) : hasWords c = false := by
  cases c with
  | fabEnd | bussrc | sink | ramp | busclr | indom | tdmcfg | direct | d16sem | looka | supervisionStop | pilotContinuous
  | pilotCounted | sweep | fingerprintCapture | filterCalibration | earthStop | earthContinuous | earthCounted | loadset
  | startset | ldstat | claim | release | wakeack | seenclr | programCommand => exact absurd he (by simp [Instr.engine?])
  | _ => rfl

/-- A row that carries words completes or is malformed, as its words tell. -/
theorem words_complete {c : Instr} (s : State) (hw : hasWords c = true) :
    (c.rowOk = true → ∃ t, exec c s = .next t) ∧ (c.rowOk = false → exec c s = .fault .malformed) := by
  cases c with
  | fabEnd w | bussrc w | sink w | ramp w | busclr w | indom w | tdmcfg w | direct w | d16sem w | looka w =>
    exact guarded_completes (by simp only [Instr.rowOk, decide_eq_true_eq]; rfl) (act_next _ _)
  | supervisionStop b w | pilotContinuous b w | pilotCounted b w | sweep b w | fingerprintCapture b w | filterCalibration b w
  | earthStop w | earthContinuous w | earthCounted w =>
    exact guarded_completes (by simp only [Instr.rowOk, decide_eq_true_eq]; rfl) (act_next _ _)
  | loadset | startset | ldstat | claim | release | wakeack | seenclr | programCommand =>
    exact guarded_completes rfl (hostAct_next _ _ _)
  | _ => exact absurd hw (by simp [hasWords])

/-- Settles O3, by the form of each row's meaning. -/
theorem everyCommandRuns : Obligations.EveryCommandRuns := by
  intro c s
  cases hw : hasWords c with
  | true => exact words_complete s hw
  | false =>
    refine ⟨fun _ => ?_, fun hr => absurd (rowOk_of_noWords hw) (by simp [hr])⟩
    cases he : c.engine? with
    | some e => exact instruction_completes s he
    | none => exact row_completes s he hw

end Sys2Proof.Machine

end

section
/-!
PROOFS. What the rows that are no engine instruction leave unchanged (O7).
-/

namespace Sys2Proof.Machine

open Sys2Proof.Safety

theorem act_frame {ps : List Part} {s t : State} {f : State → State} (hf : rest ps (f s) = rest ps s) (h : act s f = .next t) :
    Frame ps s t := by
  unfold act at h
  split at h
  · obtain rfl := Host.Outcome.next.inj h
    exact frame_refl ps s
  · obtain rfl := Host.Outcome.next.inj h
    exact frame_trans (frame_of_rest hf) (frame_mono (settle_frame _) (by simp))

/-- A row that checks its words before it acts. -/
theorem act_frame_of_guard {ps : List Part} {s t : State} {f : State → State} {p : Prop} [Decidable p]
    (hf : rest ps (f s) = rest ps s) (h : (if p then act s f else .fault .malformed) = .next t) : Frame ps s t := by
  split at h
  · exact act_frame hf h
  · exact absurd h (by simp)

theorem actWake_frame {ps : List Part} {s t : State} {f : State → State} (hs : s.resetHeld = false)
    (hf : rest ps (f s) = rest ps s) (h : actWake s f = .next t) : ∃ u, t = settle (pmWatch u) ∧ Frame ps s u := by
  rw [actWake, act_eq _ hs] at h
  exact ⟨f s, (Host.Outcome.next.inj h).symm, frame_of_rest hf⟩

theorem hostAct_frame {ps : List Part} {s t : State} {pv : PortView} {f : State → State} (hs : s.resetHeld = false)
    (hf : rest ps (f s) = rest ps s) (h : hostAct pv s f = .next t) : ∃ u, t = settle (pmWatch u) ∧ Frame ps s u :=
  actWake_frame hs (by split; exact hf; rfl) h

theorem cmdRow_frame {ps : List Part} {s t : State} {op : Nat → Bool} {pv : PortView} {ws : List Word} {rc : Byte} {reply : Word}
    (hs : s.resetHeld = false) (hp : .core ∈ ps ∧ .wake ∈ ps ∧ .ret ∈ ps ∧ .hosts ∈ ps ∧ .ports ∈ ps)
    (h : cmdRow op pv ws rc reply s = .next t) : ∃ u, t = settle (pmWatch u) ∧ Frame ps s u := by
  unfold cmdRow at h
  split at h
  · exact hostAct_frame hs (rest_hostCommand hp pv ws rc reply s) h
  · exact absurd h (by simp)

theorem not_none_eq_some {α : Type} {a : α} (h : none = some a) : False := nomatch h

/-- What each row may change, by the operation that is its meaning. -/
theorem row_frame {c : Instr} {s t : State} {ps : List Part} (he : c.engine? = none) (ht : touches c = some ps)
    (hx : exec c s = .next t) : Frame ps s t := by
  cases c with
  | takeLapse =>
    obtain rfl := Option.some.inj ht
    simp only [exec, execTakeLapse] at hx
    exact act_frame (by simp) hx
  | softstartDone =>
    obtain rfl := Option.some.inj ht
    simp only [exec, execSoftstartDone] at hx
    exact act_frame (by simp) hx
  | tripBlankingEnd =>
    obtain rfl := Option.some.inj ht
    simp only [exec, execTripBlankingEnd] at hx
    exact act_frame (by simp) hx
  | ck32Failure =>
    obtain rfl := Option.some.inj ht
    simp only [exec, execCk32Failure] at hx
    exact act_frame (by simp) hx
  | ck32Return =>
    obtain rfl := Option.some.inj ht
    simp only [exec, execCk32Return] at hx
    exact act_frame (by simp) hx
  | ck32StartTimeout =>
    obtain rfl := Option.some.inj ht
    simp only [exec, execCk32StartTimeout] at hx
    exact act_frame (by simp) hx
  | kfLockLoss =>
    obtain rfl := Option.some.inj ht
    simp only [exec, execKfLockLoss] at hx
    exact act_frame (by simp) hx
  | engineClockLoss =>
    obtain rfl := Option.some.inj ht
    simp only [exec, execEngineClockLoss] at hx
    exact act_frame (by simp) hx
  | sadcLock =>
    obtain rfl := Option.some.inj ht
    simp only [exec, execSadcLock] at hx
    exact act_frame (by simp) hx
  | permitMinute =>
    obtain rfl := Option.some.inj ht
    simp only [exec, execPermitMinute] at hx
    exact act_frame (by simp) hx
  | gainCommand =>
    obtain rfl := Option.some.inj ht
    simp only [exec, execGainCommand] at hx
    exact act_frame (by simp) hx
  | gainApply =>
    obtain rfl := Option.some.inj ht
    simp only [exec, execGainApply] at hx
    exact act_frame (by simp) hx
  | inputOverload =>
    obtain rfl := Option.some.inj ht
    simp only [exec, execInputOverload] at hx
    exact act_frame (by simp) hx
  | jackInsertion =>
    obtain rfl := Option.some.inj ht
    simp only [exec, execJackInsertion] at hx
    exact act_frame (by simp) hx
  | jackRemoval =>
    obtain rfl := Option.some.inj ht
    simp only [exec, execJackRemoval] at hx
    exact act_frame (by simp) hx
  | jackClassified =>
    obtain rfl := Option.some.inj ht
    simp only [exec, execJackClassified] at hx
    exact act_frame (by simp) hx
  | quietChargeDone =>
    obtain rfl := Option.some.inj ht
    simp only [exec, execQuietChargeDone] at hx
    exact act_frame (by simp) hx
  | message0End =>
    obtain rfl := Option.some.inj ht
    simp only [exec, execMessage0End] at hx
    exact act_frame (by simp) hx
  | bootLoad =>
    obtain rfl := Option.some.inj ht
    simp only [exec, execBootLoad] at hx
    exact act_frame (by split <;> simp) hx
  | tdmClockMissing =>
    obtain rfl := Option.some.inj ht
    simp only [exec, execTdmClockMissing] at hx
    exact act_frame (by simp) hx
  | tdmWrongRate =>
    obtain rfl := Option.some.inj ht
    simp only [exec, execTdmWrongRate] at hx
    exact act_frame (by simp) hx
  | tdmSlotSyncError =>
    obtain rfl := Option.some.inj ht
    simp only [exec, execTdmSlotSyncError] at hx
    exact act_frame (by simp) hx
  | tdmReturn =>
    obtain rfl := Option.some.inj ht
    simp only [exec, execTdmReturn] at hx
    exact act_frame (by simp) hx
  | thermalStepFall =>
    obtain rfl := Option.some.inj ht
    simp only [exec, execThermalStepFall] at hx
    exact act_frame (by simp) hx
  | railGuardEnd =>
    obtain rfl := Option.some.inj ht
    simp only [exec, execRailGuardEnd] at hx
    exact act_frame (by simp) hx
  | twarnClear =>
    obtain rfl := Option.some.inj ht
    simp only [exec, execTwarnClear] at hx
    exact act_frame (by simp) hx
  | feedLow =>
    obtain rfl := Option.some.inj ht
    simp only [exec, execFeedLow] at hx
    exact act_frame (by simp) hx
  | feedLowClear =>
    obtain rfl := Option.some.inj ht
    simp only [exec, execFeedLowClear] at hx
    exact act_frame (by simp) hx
  | faultMinPulseEnd =>
    obtain rfl := Option.some.inj ht
    simp only [exec, execFaultMinPulseEnd] at hx
    exact act_frame (by simp) hx
  | limiterExpiry =>
    obtain rfl := Option.some.inj ht
    simp only [exec, execLimiterExpiry] at hx
    exact act_frame (by simp) hx
  | supervisionGap =>
    obtain rfl := Option.some.inj ht
    simp only [exec, execSupervisionGap] at hx
    exact act_frame (by simp) hx
  | fillComplete =>
    obtain rfl := Option.some.inj ht
    simp only [exec, execFillComplete] at hx
    exact act_frame (by simp) hx
  | mirrorLinkFault =>
    obtain rfl := Option.some.inj ht
    simp only [exec, execMirrorLinkFault] at hx
    exact act_frame (by simp) hx
  | dawnRetryOffEnd =>
    obtain rfl := Option.some.inj ht
    simp only [exec, execDawnRetryOffEnd] at hx
    exact act_frame (by simp) hx
  | unitReady =>
    obtain rfl := Option.some.inj ht
    simp only [exec, execUnitReady] at hx
    exact act_frame (by simp) hx
  | delaySramWipeDone =>
    obtain rfl := Option.some.inj ht
    simp only [exec, execDelaySramWipeDone] at hx
    exact act_frame (by simp) hx
  | assemblyTimeout =>
    obtain rfl := Option.some.inj ht
    simp only [exec, execAssemblyTimeout] at hx
    exact act_frame (by simp) hx
  | inbandRequest =>
    obtain rfl := Option.some.inj ht
    simp only [exec, execInbandRequest] at hx
    exact act_frame (by simp) hx
  | inbandRequestEnd =>
    obtain rfl := Option.some.inj ht
    simp only [exec, execInbandRequestEnd] at hx
    exact act_frame (by simp) hx
  | rdsr =>
    obtain rfl := Option.some.inj ht
    simp only [exec, execRdsr] at hx
    exact act_frame (by simp) hx
  | fastBadOpcode =>
    obtain rfl := Option.some.inj ht
    simp only [exec, execFastBadOpcode] at hx
    exact act_frame (by simp) hx
  | pcTransferEnd =>
    obtain rfl := Option.some.inj ht
    simp only [exec, execPcTransferEnd] at hx
    exact act_frame (by simp) hx
  | arbitrationLost =>
    obtain rfl := Option.some.inj ht
    simp only [exec, execArbitrationLost] at hx
    exact act_frame (by simp) hx
  | arbitrationRetry =>
    obtain rfl := Option.some.inj ht
    simp only [exec, execArbitrationRetry] at hx
    exact act_frame (by simp) hx
  | inbandRequestRedue =>
    obtain rfl := Option.some.inj ht
    simp only [exec, execInbandRequestRedue] at hx
    exact act_frame (by simp) hx
  | messageRecheck =>
    obtain rfl := Option.some.inj ht
    simp only [exec, execMessageRecheck] at hx
    exact act_frame (by simp) hx
  | saveDone =>
    obtain rfl := Option.some.inj ht
    simp only [exec, execSaveDone] at hx
    exact act_frame (by simp) hx
  | dawnRepeat =>
    obtain rfl := Option.some.inj ht
    simp only [exec, execDawnRepeat] at hx
    exact act_frame (by simp) hx
  | sweepStart =>
    obtain rfl := Option.some.inj ht
    simp only [exec, execSweepStart] at hx
    exact act_frame (by simp) hx
  | sideDawnRetry =>
    obtain rfl := Option.some.inj ht
    simp only [exec, execSideDawnRetry] at hx
    exact act_frame (by simp) hx
  | sadcLockLoss =>
    obtain rfl := Option.some.inj ht
    simp only [exec, execSadcLockLoss] at hx
    exact act_frame (by simp) hx
  | pdmClockRestart =>
    obtain rfl := Option.some.inj ht
    simp only [exec, execPdmClockRestart] at hx
    exact act_frame (by simp) hx
  | candidateTimeout =>
    obtain rfl := Option.some.inj ht
    simp only [exec, execCandidateTimeout] at hx
    exact act_frame (by simp) hx
  | micpwrOvercurrent =>
    obtain rfl := Option.some.inj ht
    simp only [exec, execMicpwrOvercurrent] at hx
    exact act_frame (by simp) hx
  | micpwrRetry =>
    obtain rfl := Option.some.inj ht
    simp only [exec, execMicpwrRetry] at hx
    exact act_frame (by simp) hx
  | pdmRateChangeEnd =>
    obtain rfl := Option.some.inj ht
    simp only [exec, execPdmRateChangeEnd] at hx
    exact act_frame (by simp) hx
  | converterLinkLoss =>
    obtain rfl := Option.some.inj ht
    simp only [exec, execConverterLinkLoss] at hx
    exact act_frame (by simp) hx
  | messageCheckDone =>
    obtain rfl := Option.some.inj ht
    simp only [exec, execMessageCheckDone] at hx
    exact act_frame (by simp) hx
  | sysResult =>
    obtain rfl := Option.some.inj ht
    simp only [exec, execSysResult] at hx
    exact act_frame (by simp) hx
  | clockErrorMute =>
    obtain rfl := Option.some.inj ht
    simp only [exec, execClockErrorMute] at hx
    exact act_frame (by simp) hx
  | clockValid =>
    obtain rfl := Option.some.inj ht
    simp only [exec, execClockValid] at hx
    exact act_frame (by simp) hx
  | railNeedBlock =>
    obtain rfl := Option.some.inj ht
    simp only [exec, execRailNeedBlock] at hx
    exact act_frame (by simp) hx
  | stopComplete =>
    obtain rfl := Option.some.inj ht
    simp only [exec, execStopComplete] at hx
    exact act_frame (by simp) hx
  | overcurrentTrip =>
    obtain rfl := Option.some.inj ht
    simp only [exec, execOvercurrentTrip] at hx
    exact act_frame (by simp) hx
  | cooldownEnd =>
    obtain rfl := Option.some.inj ht
    simp only [exec, execCooldownEnd] at hx
    exact act_frame (by simp) hx
  | thermalThreshold =>
    obtain rfl := Option.some.inj ht
    simp only [exec, execThermalThreshold] at hx
    exact act_frame (by simp) hx
  | thermalShutdownClear =>
    obtain rfl := Option.some.inj ht
    simp only [exec, execThermalShutdownClear] at hx
    exact act_frame (by simp) hx
  | boostFault =>
    obtain rfl := Option.some.inj ht
    simp only [exec, execBoostFault] at hx
    exact act_frame (by simp) hx
  | boostRestart =>
    obtain rfl := Option.some.inj ht
    simp only [exec, execBoostRestart] at hx
    exact act_frame (by simp) hx
  | probeToneEnd =>
    obtain rfl := Option.some.inj ht
    simp only [exec, execProbeToneEnd] at hx
    exact act_frame (by simp) hx
  | earthTestEnd =>
    obtain rfl := Option.some.inj ht
    simp only [exec, execEarthTestEnd] at hx
    exact act_frame (by simp) hx
  | imageWriteCheckDone =>
    obtain rfl := Option.some.inj ht
    simp only [exec, execImageWriteCheckDone] at hx
    exact act_frame (by simp) hx
  | handshakeDelayEnd =>
    obtain rfl := Option.some.inj ht
    simp only [exec, execHandshakeDelayEnd] at hx
    exact act_frame (by simp) hx
  | captureDone =>
    obtain rfl := Option.some.inj ht
    simp only [exec, execCaptureDone] at hx
    exact act_frame (by simp) hx
  | kfLock =>
    obtain rfl := Option.some.inj ht
    simp only [exec, execKfLock] at hx
    exact act_frame (by simp) hx
  | headerCheckDone =>
    obtain rfl := Option.some.inj ht
    simp only [exec, execHeaderCheckDone] at hx
    exact act_frame (by simp) hx
  | extest =>
    obtain rfl := Option.some.inj ht
    simp only [exec, execExtest] at hx
    exact act_frame (by simp) hx
  | samplePreload =>
    obtain rfl := Option.some.inj ht
    simp only [exec, execSamplePreload] at hx
    exact act_frame (by simp) hx
  | bypass =>
    obtain rfl := Option.some.inj ht
    simp only [exec, execBypass] at hx
    exact act_frame (by simp) hx
  | pilotWindowEnd =>
    obtain rfl := Option.some.inj ht
    simp only [exec, execPilotWindowEnd] at hx
    exact act_frame (by simp) hx
  | tagCheckDone =>
    obtain rfl := Option.some.inj ht
    simp only [exec, execTagCheckDone] at hx
    exact act_frame (by simp) hx
  | sweepIntegrationEnd =>
    obtain rfl := Option.some.inj ht
    simp only [exec, execSweepIntegrationEnd] at hx
    exact act_frame (by simp) hx
  | engineLoadDone =>
    obtain rfl := Option.some.inj ht
    simp only [exec, execEngineLoadDone] at hx
    exact act_frame (by simp) hx
  | wipeDone =>
    obtain rfl := Option.some.inj ht
    simp only [exec, execWipeDone] at hx
    exact act_frame (by simp) hx
  | fabEnd =>
    obtain rfl := Option.some.inj ht
    simp only [exec, execFabEnd] at hx
    exact act_frame_of_guard (by simp) hx
  | bussrc =>
    obtain rfl := Option.some.inj ht
    simp only [exec, execBussrc, fabRow] at hx
    exact act_frame_of_guard (by simp) hx
  | sink =>
    obtain rfl := Option.some.inj ht
    simp only [exec, execSink, fabRow] at hx
    exact act_frame_of_guard (by simp) hx
  | ramp =>
    obtain rfl := Option.some.inj ht
    simp only [exec, execRamp, fabRow] at hx
    exact act_frame_of_guard (by simp) hx
  | busclr =>
    obtain rfl := Option.some.inj ht
    simp only [exec, execBusclr, fabRow] at hx
    exact act_frame_of_guard (by simp) hx
  | indom =>
    obtain rfl := Option.some.inj ht
    simp only [exec, execIndom, fabRow] at hx
    exact act_frame_of_guard (by simp) hx
  | tdmcfg =>
    obtain rfl := Option.some.inj ht
    simp only [exec, execTdmcfg, fabRow] at hx
    exact act_frame_of_guard (by simp) hx
  | direct =>
    obtain rfl := Option.some.inj ht
    simp only [exec, execDirect, fabRow] at hx
    exact act_frame_of_guard (by simp) hx
  | d16sem =>
    obtain rfl := Option.some.inj ht
    simp only [exec, execD16sem, fabRow] at hx
    exact act_frame_of_guard (by simp) hx
  | looka =>
    obtain rfl := Option.some.inj ht
    simp only [exec, execLooka] at hx
    exact act_frame_of_guard (by simp) hx
  | earthStop =>
    obtain rfl := Option.some.inj ht
    simp only [exec, execEarthStop, earthRow] at hx
    exact act_frame_of_guard (by simp) hx
  | earthContinuous =>
    obtain rfl := Option.some.inj ht
    simp only [exec, execEarthContinuous, earthRow] at hx
    exact act_frame_of_guard (by simp) hx
  | earthCounted =>
    obtain rfl := Option.some.inj ht
    simp only [exec, execEarthCounted, earthRow] at hx
    exact act_frame_of_guard (by simp) hx
  | supervisionStop =>
    obtain rfl := Option.some.inj ht
    simp only [exec, execSupervisionStop, supRow] at hx
    exact act_frame_of_guard (by simp) hx
  | pilotContinuous =>
    obtain rfl := Option.some.inj ht
    simp only [exec, execPilotContinuous, supRow] at hx
    exact act_frame_of_guard (by simp) hx
  | pilotCounted =>
    obtain rfl := Option.some.inj ht
    simp only [exec, execPilotCounted, supRow] at hx
    exact act_frame_of_guard (by simp) hx
  | sweep =>
    obtain rfl := Option.some.inj ht
    simp only [exec, execSweep, supRow] at hx
    exact act_frame_of_guard (by simp) hx
  | fingerprintCapture =>
    obtain rfl := Option.some.inj ht
    simp only [exec, execFingerprintCapture, supRow] at hx
    exact act_frame_of_guard (by simp) hx
  | filterCalibration =>
    obtain rfl := Option.some.inj ht
    simp only [exec, execFilterCalibration, supRow] at hx
    exact act_frame_of_guard (by simp) hx
  | _ =>
    first
    | exact (not_none_eq_some ht).elim
    | exact (not_none_eq_some he.symm).elim

/-- What each row may change before the power manager looks at its wake sources. -/
theorem row_frame_first {c : Instr} {s t : State} {ps : List Part} (hs : s.resetHeld = false) (ht : touchesFirst c = some ps)
    (hx : exec c s = .next t) : ∃ u, t = settle (pmWatch u) ∧ Frame ps s u := by
  cases c with
  | loadset | startset | ldstat | claim | release | wakeack | seenclr | programCommand =>
    obtain rfl := Option.some.inj ht
    exact cmdRow_frame hs (by simp) hx
  | alarmFire =>
    obtain rfl := Option.some.inj ht
    simp only [exec, execAlarmFire] at hx
    exact actWake_frame hs (by simp) hx
  | periodicTimerFire =>
    obtain rfl := Option.some.inj ht
    simp only [exec, execPeriodicTimerFire] at hx
    exact actWake_frame hs (by simp) hx
  | trimIntervalEnd =>
    obtain rfl := Option.some.inj ht
    simp only [exec, execTrimIntervalEnd] at hx
    exact actWake_frame hs (by simp) hx
  | sentinelTrip =>
    obtain rfl := Option.some.inj ht
    simp only [exec, execSentinelTrip] at hx
    exact actWake_frame hs (by simp) hx
  | sentinelReturn =>
    obtain rfl := Option.some.inj ht
    simp only [exec, execSentinelReturn] at hx
    exact actWake_frame hs (by simp) hx
  | scanPublish =>
    obtain rfl := Option.some.inj ht
    simp only [exec, execScanPublish] at hx
    exact actWake_frame hs (by simp) hx
  | nightScan =>
    obtain rfl := Option.some.inj ht
    simp only [exec, execNightScan] at hx
    exact actWake_frame hs (by simp) hx
  | privacyAssert =>
    obtain rfl := Option.some.inj ht
    simp only [exec, execPrivacyAssert] at hx
    exact actWake_frame hs (by simp) hx
  | privacyRelease =>
    obtain rfl := Option.some.inj ht
    simp only [exec, execPrivacyRelease] at hx
    exact actWake_frame hs (by simp) hx
  | wakeBlockStrobe =>
    obtain rfl := Option.some.inj ht
    simp only [exec, execWakeBlockStrobe] at hx
    exact actWake_frame hs (by simp) hx
  | nightAddressMatch =>
    obtain rfl := Option.some.inj ht
    simp only [exec, execNightAddressMatch] at hx
    exact actWake_frame hs (by simp) hx
  | commandFifoPush =>
    obtain rfl := Option.some.inj ht
    simp only [exec, execCommandFifoPush] at hx
    exact hostAct_frame hs (by simp) hx
  | eventFifoPop =>
    obtain rfl := Option.some.inj ht
    simp only [exec, execEventFifoPop] at hx
    exact hostAct_frame hs (by simp) hx
  | recordFifoPop =>
    obtain rfl := Option.some.inj ht
    simp only [exec, execRecordFifoPop] at hx
    exact hostAct_frame hs (by simp) hx
  | capturePortRead =>
    obtain rfl := Option.some.inj ht
    simp only [exec, execCapturePortRead] at hx
    exact hostAct_frame hs (by simp) hx
  | imageFifoPush =>
    obtain rfl := Option.some.inj ht
    simp only [exec, execImageFifoPush] at hx
    exact hostAct_frame hs (by simp) hx
  | imageFifoPop =>
    obtain rfl := Option.some.inj ht
    simp only [exec, execImageFifoPop] at hx
    exact hostAct_frame hs (by simp) hx
  | twAddressByte =>
    obtain rfl := Option.some.inj ht
    simp only [exec, execTwAddressByte] at hx
    exact actWake_frame hs (by simp) hx
  | portLogicReady =>
    obtain rfl := Option.some.inj ht
    simp only [exec, execPortLogicReady] at hx
    exact actWake_frame hs (by simp) hx
  | rdq =>
    obtain rfl := Option.some.inj ht
    simp only [exec, execRdq] at hx
    exact actWake_frame hs (by simp) hx
  | portpTxPush =>
    obtain rfl := Option.some.inj ht
    simp only [exec, execPortpTxPush] at hx
    exact hostAct_frame hs (by simp) hx
  | portpRxPop =>
    obtain rfl := Option.some.inj ht
    simp only [exec, execPortpRxPop] at hx
    exact hostAct_frame hs (by simp) hx
  | twStart =>
    obtain rfl := Option.some.inj ht
    simp only [exec, execTwStart] at hx
    exact actWake_frame hs (by simp) hx
  | twStop =>
    obtain rfl := Option.some.inj ht
    simp only [exec, execTwStop] at hx
    exact actWake_frame hs (by simp) hx
  | twPointerByte =>
    obtain rfl := Option.some.inj ht
    simp only [exec, execTwPointerByte] at hx
    exact actWake_frame hs (by simp) hx
  | twAckSlotAbort =>
    obtain rfl := Option.some.inj ht
    simp only [exec, execTwAckSlotAbort] at hx
    exact actWake_frame hs (by simp) hx
  | stretchTimeout =>
    obtain rfl := Option.some.inj ht
    simp only [exec, execStretchTimeout] at hx
    exact actWake_frame hs (by simp) hx
  | fastCsRise =>
    obtain rfl := Option.some.inj ht
    simp only [exec, execFastCsRise] at hx
    exact actWake_frame hs (by simp) hx
  | _ => exact (not_none_eq_some ht).elim

/-- Settles O7, by the rest that each row keeps. -/
theorem framesOfDeviceRows : Obligations.FramesOfDeviceRows :=
  ⟨fun _ _ _ _ he ht hx => row_frame he ht hx, fun _ _ _ _ hs ht hx => row_frame_first hs ht hx⟩

end Sys2Proof.Machine

end

section
/-!
PROOFS. O29: the alarms, the timers, the trim, the permit, the check of the messages, and one CK32 cycle (R49-R54, R247, R386).
-/

namespace Sys2Proof.Machine

open Sys2Proof.Safety

theorem does_congr {c : Instr} {s t t' : State} (h : Does c s t) (e : t = t') : Does c s t' := e ▸ h

theorem doesWake_congr {c : Instr} {s t t' : State} (h : DoesWake c s t) (e : t = t') : DoesWake c s t' := e ▸ h

/-! The check of the messages (R386) only adds to the messages found bad. -/

theorem raiseEv_ret (src i : Nat) (s : State) : (raiseEv src i s).ret = s.ret :=
  rest_ret (ps := []) (by simp) (by simp)

theorem msgGone_ret (n : Nat) (s : State) : (msgGone n s).ret = s.ret :=
  rest_ret (ps := [.core]) (by simp) (by simp)

theorem checkMessage_ret (n : Nat) (s : State) :
    (checkMessage n s).ret = s.ret ∨ (checkMessage n s).ret = { s.ret with msgBad := s.ret.msgBad ++ [n] } := by
  unfold checkMessage
  split
  · exact .inr (by rw [msgGone_ret, raiseEv_ret]; rfl)
  · exact .inl rfl

theorem foldl_checkMessage_ret (l : List Nat) (s : State) :
    ∃ k, (l.foldl (fun t n => checkMessage n t) s).ret = { s.ret with msgBad := s.ret.msgBad ++ k } := by
  induction l generalizing s with
  | nil => exact ⟨[], by simp⟩
  | cons n l ih =>
    obtain ⟨k, hk⟩ := ih (checkMessage n s)
    rcases checkMessage_ret n s with h | h
    · exact ⟨k, by rw [List.foldl_cons, hk, h]⟩
    · exact ⟨n :: k, by rw [List.foldl_cons, hk, h, List.append_assoc]; rfl⟩

theorem checkMessages_ret (s : State) : ∃ k, (checkMessages s).ret = { s.ret with msgBad := s.ret.msgBad ++ k } :=
  foldl_checkMessage_ret _ s

/-! One CK32 cycle (R49, R51). -/

theorem utimeTick_load {s : State} (h : s.time.load = true) : utimeTick s = utimeLoads s := by
  simp only [utimeTick, h, if_true]

/-- A tick that the trim skips. -/
theorem utimeTick_skipped {s : State} (h : s.time.load = false) (hk : 0 < s.time.trimSkip) (hc : s.time.trimCnt + 1 ≠ 0) :
    utimeTick s = { s with time := { s.time with trimSkip := s.time.trimSkip - 1, trimCnt := s.time.trimCnt + 1 } } := by
  simp only [utimeTick, h, Nat.ne_of_gt hk, modTime, hc, Bool.false_eq_true, if_false]

theorem takeTicks_fits {s : State} {n : Nat} (h : s.time.sub.toNat + n < 2 ^ 15) :
    takeTicks n s = { s with time := { s.time with sub := BitVec.ofNat 15 (s.time.sub.toNat + n) } } := by
  rw [takeTicks, if_neg (by omega)]
  rfl

theorem takeTicks_carries {s : State} {n : Nat} (h : 2 ^ 15 ≤ s.time.sub.toNat + n) :
    takeTicks n s = secondCarry { s with time := { s.time with sub := BitVec.ofNat 15 (s.time.sub.toNat + n) } } := by
  rw [takeTicks, if_pos h]
  rfl

theorem utimeTick_taken {s : State} (h : s.time.load = false) (hk : s.time.trimSkip = 0)
    (hc : (takeTicks 1 s).time.trimCnt + 1 ≠ 0) :
    utimeTick s = modTime (takeTicks 1 s) fun t => { t with trimCnt := t.trimCnt + 1 } := by
  simp only [utimeTick, h, hk, Bool.false_eq_true, if_false, if_true]
  exact if_neg hc

theorem ofNat_succ_toNat {w : Nat} (x : BitVec w) : BitVec.ofNat w (x.toNat + 1) = x + 1 := by
  simp [BitVec.ofNat_add]

/-! A carry into the seconds with no permit (R54, R247) moves the alarms and the periodic timer only. -/

theorem alarmCarry_keeps (n : Fin 2) (t : Time) :
    (alarmCarry n t).sec = t.sec ∧ (alarmCarry n t).sub = t.sub ∧ (alarmCarry n t).trimCnt = t.trimCnt := by
  unfold alarmCarry
  split <;> exact ⟨rfl, rfl, rfl⟩

theorem periodicCarry_keeps (t : Time) :
    (periodicCarry t).sec = t.sec ∧ (periodicCarry t).sub = t.sub ∧ (periodicCarry t).trimCnt = t.trimCnt := by
  unfold periodicCarry
  split
  · exact ⟨rfl, rfl, rfl⟩
  · split <;> exact ⟨rfl, rfl, rfl⟩

theorem secondCarry_time {s : State} (h : s.conv.permit = 0) :
    (secondCarry s).time.sec = s.time.sec + 1 ∧ (secondCarry s).time.sub = s.time.sub ∧
      (secondCarry s).time.trimCnt = s.time.trimCnt := by
  have hp (f : Time → Time) : permitCarry (modTime s f) = modTime s f := if_pos h
  rw [secondCarry, hp]
  change (periodicCarry _).sec = _ ∧ (periodicCarry _).sub = _ ∧ (periodicCarry _).trimCnt = _
  simp only [periodicCarry_keeps, alarmCarry_keeps, and_self]

/-- One CK32 cycle of a device that runs. -/
theorem ck32Tick_runs {s : State} (hs : s.resetHeld = false) (hc : s.clk.ck32Ok = true) :
    ck32Tick s = .next (settle (pmWatch (utimeTick s))) := by
  rw [ck32Tick, if_pos (by simp [ck32Runs, hc]), actWake, act_eq _ hs]

theorem ck32Tick_held {s : State} (hs : s.resetHeld = true) : ck32Tick s = .next s := by
  rw [ck32Tick, actWake, act, if_pos hs]
  exact ite_self _

theorem step_nil {s : State} (h : s.pending = []) : step s = ck32Tick s := by
  simp only [step, h]

/-- What a row of the timers does. -/
theorem timerRows {s : State} (hs : s.resetHeld = false) :
    (∀ n : Fin 2, s.time.alEn[n] = true → s.time.alArm[n] = true → s.time.alVal[n].toNat ≤ s.time.sec.toNat →
      DoesWake (.alarmFire n) s
        { s with time := { s.time with alFlag := vset s.time.alFlag n true, alArm := vset s.time.alArm n false } }) ∧
    (s.time.period ≠ 0 →
      DoesWake .periodicTimerFire s { s with time := { s.time with perFlag := true, downCnt := s.time.period } }) := by
  refine ⟨fun n he ha hv => ?_, fun hp => ?_⟩
  · simp only [DoesWake, exec, execAlarmFire, actWake, act_eq _ hs, modTime, alarmCarry, he, ha, hv, Bool.and_self, decide_true,
      if_true]
    rfl
  · simp only [DoesWake, exec, execPeriodicTimerFire, actWake, act_eq _ hs, hp, if_false]
    rfl

theorem trimIntervalEnd_does {s : State} (hs : s.resetHeld = false) :
    DoesWake .trimIntervalEnd s (trimEnds { s with time := { s.time with trimCnt := 0 } }) := by
  simp only [DoesWake, exec, execTrimIntervalEnd, actWake, act_eq _ hs]
  rfl

theorem trimEnds_takes {s : State} (h0 : 0 ≤ s.time.trim.toInt) (h : s.time.sub.toNat + s.time.trim.toInt.toNat < 2 ^ 15) :
    trimEnds { s with time := { s.time with trimCnt := 0 } } =
      { s with time := { s.time with
          trimCnt := 0, sub := BitVec.ofNat 15 (s.time.sub.toNat + s.time.trim.toInt.toNat) } } := by
  rw [trimEnds]
  exact (if_pos h0).trans (takeTicks_fits h)

theorem trimEnds_skips {s : State} (h0 : s.time.trim.toInt < 0) :
    trimEnds { s with time := { s.time with trimCnt := 0 } } =
      { s with time := { s.time with trimCnt := 0, trimSkip := s.time.trimSkip + s.time.trim.toInt.natAbs } } :=
  if_neg (Int.not_le.mpr h0)

/-- The permit and the check of the messages. -/
theorem minuteAndMessages {s : State} (hs : s.resetHeld = false) :
    (s.conv.permit = 0 → Does .permitMinute s s) ∧
    (1 < s.conv.permit.toNat → Does .permitMinute s { s with conv := { s.conv with permit := s.conv.permit - 1 } }) ∧
    (storeUp s = true → Does .messageRecheck s { s with ret := { s.ret with checking := true } }) ∧
    (s.ret.checking = true → ∃ t, Does .messageCheckDone s t ∧
      t = checkMessages { s with ret := { s.ret with checking := false } } ∧ t.ret.checking = false ∧
      ∀ n : Nat, n ∈ s.ret.msgBad → n ∈ t.ret.msgBad) := by
  refine ⟨fun h => ?_, fun h => ?_, fun h => ?_, fun h => ?_⟩
  · simp only [Does, exec, execPermitMinute, act_eq _ hs, permitMinute, h, if_true]
  · have h0 : s.conv.permit ≠ 0 := by rintro h'; simp [h'] at h
    have h1 : s.conv.permit ≠ 1 := by rintro h'; simp [h'] at h
    simp only [Does, exec, execPermitMinute, act_eq _ hs, permitMinute, h0, h1, if_false]
    rfl
  · simp only [Does, exec, execMessageRecheck, act_eq _ hs, h, if_true]
    rfl
  · obtain ⟨k, hk⟩ := checkMessages_ret { s with ret := { s.ret with checking := false } }
    refine ⟨_, ?_, rfl, by rw [hk], fun n hn => by rw [hk]; exact List.mem_append_left _ hn⟩
    simp only [Does, exec, execMessageCheckDone, act_eq _ hs, h, if_true]
    rfl

/-- Settles O29: each row is its function on the state, and an empty queue is one CK32 cycle. -/
theorem timebase : Obligations.Timebase := by
  refine ⟨fun s hs => ?_, fun s hp => ⟨fun h1 h2 h3 => ?_, fun h => ?_, fun hs hc hl => ?_, fun hs hc hl => ⟨?_, ?_, ?_⟩⟩⟩
  · refine ⟨(timerRows hs).1, (timerRows hs).2, fun h0 h => ?_, fun h0 => ?_, minuteAndMessages hs⟩
    · exact doesWake_congr (trimIntervalEnd_does hs) (trimEnds_takes h0 h)
    · exact doesWake_congr (trimIntervalEnd_does hs) (trimEnds_skips h0)
  · rw [step_nil hp, ck32Tick]
    simp [ck32Runs, h1, h2, h3]
  · rw [step_nil hp, ck32Tick_held h]
  · exact ⟨_, by rw [step_nil hp, ck32Tick_runs hs hc, utimeTick_load hl]; rfl, rfl⟩
  · intro hk ht
    rw [step_nil hp, ck32Tick_runs hs hc, utimeTick_skipped hl hk ht]
  · intro hk ht hsub
    have hf := takeTicks_fits (s := s) (n := 1) hsub
    rw [step_nil hp, ck32Tick_runs hs hc, utimeTick_taken hl hk (by rw [hf]; exact ht), hf, ofNat_succ_toNat]
    rfl
  · intro hk ht hsub hperm
    have hf := takeTicks_carries (s := s) (n := 1) (by omega)
    obtain ⟨hsec, hsb, hcnt⟩ :=
      secondCarry_time (s := { s with time := { s.time with sub := BitVec.ofNat 15 (s.time.sub.toNat + 1) } }) hperm
    rw [step_nil hp, ck32Tick_runs hs hc, utimeTick_taken hl hk (by rw [hf, hcnt]; exact ht), hf]
    refine ⟨_, rfl, hsb.trans ?_, hsec⟩
    change BitVec.ofNat 15 (s.time.sub.toNat + 1) = 0
    rw [hsub]
    rfl

end Sys2Proof.Machine

end

section
/-!
PROOFS. O28: the feed monitors (R287, R288, R316). What starts and abandons entries and DAWNs keeps the state of the power
manager, and a feed that comes back is available.
-/

namespace Sys2Proof.Machine

open Sys2Proof.Safety

/-! The power manager's state. -/

@[simp] theorem raiseEv_pm (src i : Nat) (s : State) : (raiseEv src i s).pm = s.pm :=
  rest_pm (ps := []) (by simp) (by simp)

@[simp] theorem sideAgain_st (x : Side) (s : State) : (sideAgain x s).pm.st = s.pm.st := rfl

@[simp] theorem sideOff_st (x : Side) (s : State) : (sideOff x s).pm.st = s.pm.st := rfl

@[simp] theorem setDoms_st (ks : List Nat) (v : Bool) (s : State) : (setDoms ks v s).pm.st = s.pm.st := by
  unfold setDoms
  induction ks generalizing s with
  | nil => rfl
  | cons k ks ih => exact ih _

@[simp] theorem enterStep_st (n : Nat) (s : State) : (enterStep n s).pm.st = s.pm.st := by
  unfold enterStep
  split
  · rfl
  next d hd =>
    extract_lets x e s0 s1
    have h0 : s0.pm = s.pm := by
      unfold s0
      split <;> rfl
    have h1 : s1.pm.st = s.pm.st := (show s1.pm.st = s0.pm.st from rfl).trans (congrArg Pm.st h0)
    split
    · exact h1
    · rw [setDoms_st, h1]

@[simp] theorem startSide_st (x : Side) (s : State) : (startSide x s).pm.st = s.pm.st := by
  unfold startSide
  split <;> rfl

@[simp] theorem tdmHalt_st (on : Bool) (s : State) : (tdmHalt on s).pm.st = s.pm.st := rfl

@[simp] theorem tdmReturnAll_pm (s : State) : (tdmReturnAll s).pm = s.pm := by
  unfold tdmReturnAll
  split <;> rfl

@[simp] theorem blockRestarts_st (b : Nat) (s : State) : (blockRestarts b s).pm.st = s.pm.st := by
  unfold blockRestarts
  split
  · split
    · rw [startSide_st]
    · rfl
  split
  · rw [tdmReturnAll_pm, tdmHalt_st]
  split
  · rw [rest_pm (ps := [.lmu]) (rest_lineResume (by simp) s) (by simp)]
  · rfl

@[simp] theorem raiseDusk_st (s : State) : (raiseDusk s).pm.st = s.pm.st := by
  unfold raiseDusk
  split
  · split
    · split <;> rfl
    · rfl
  · rfl

@[simp] theorem abortEnds_st (r : Rollback) (s : State) : (abortEnds r s).pm.st = s.pm.st := by
  rw [abortEnds, raiseDusk_st, raiseEv_pm]
  rfl

@[simp] theorem backRun_st (r : Rollback) (bs : List Nat) (s : State) : (backRun r bs s).pm.st = s.pm.st := by
  induction bs generalizing s with
  | nil => exact abortEnds_st r s
  | cons b bs ih =>
    unfold backRun
    extract_lets n rest s1 s2 d
    have h1 : s1.pm.st = s.pm.st := rfl
    split
    · have h2 : s2.pm.st = s.pm.st := (blockRestarts_st b s1).trans h1
      split
      · exact h2
      · exact (ih s2).trans h2
    · split
      · exact (ih s1).trans h1
      · exact (enterStep_st _ _).trans h1

@[simp] theorem backNext_st (s : State) : (backNext s).pm.st = s.pm.st := by
  unfold backNext
  split
  · split
    · rfl
    · exact backRun_st _ _ _
  · rfl

@[simp] theorem blockResumes_st (e : Entry2) (s : State) : (blockResumes e s).pm.st = s.pm.st := by
  unfold blockResumes
  split
  · rfl
  · split <;> rfl

@[simp] theorem abortEntry_st (b r : Nat) (skip : List Nat) (s : State) : (abortEntry b r skip s).pm.st = s.pm.st := by
  unfold abortEntry
  split
  · rfl
  · exact (backNext_st _).trans (blockResumes_st _ _)

/-- No DAWN from reset begins in another state. -/
theorem bootDawn_running {s : State} (h : s.pm.st ≠ 3) : bootDawn s = s := by
  simp only [bootDawn, h, decide_false, Bool.false_and, Bool.false_eq_true, if_false]

/-! A feed that is back (R288, R316, R321). -/

theorem feedUp_feeds (x : Side) (s : State) :
    (feedUp x s).feeds = vmod s.feeds (sideIx x) fun f => { f with ok := true } := by
  refine rest_feeds (ps := [.clk, .arb, .pm, .core, .lmu, .conv, .wake])
    (s := { s with feeds := vmod s.feeds (sideIx x) fun f => { f with ok := true } }) ?_ (by simp)
  simp only [feedUp]
  (repeat' split) <;> simp

theorem feedUp_fret {x : Side} {s : State} (h : s.pm.st = 2) : (feedUp x s).pm.fret = true := by
  unfold feedUp
  extract_lets s1 s2 s3
  have h1 : s1.pm.st = 2 := by rw [← h]; exact congrArg Pm.st (raiseEv_pm _ _ _)
  have h2 : s2.pm.st = 2 := by
    unfold s2
    split
    · exact h1
    · exact (abortEntry_st _ _ _ _).trans h1
  have h3 : s3 = modPm s2 fun p => { p with fret := true } := if_pos h2
  have h3s : s3.pm.st = 2 := by rw [h3]; exact h2
  have h3f : s3.pm.fret = true := by rw [h3]; rfl
  have hc : (s3.pm.st = 0 && s3.arb.coreRun) = false := by simp only [h3s]; rfl
  clear_value s3
  cases hb : s3.pm.back with
  | none =>
    simp only [hc, Bool.false_eq_true, if_false]
    rw [bootDawn_running (by rw [h3s]; decide), h3f]
  | some r =>
    simp only
    rw [bootDawn_running (by show s3.pm.st ≠ 3; rw [h3s]; decide)]
    exact h3f

/-! The rows of the feed monitors. -/

section
variable {s : State} (x : Side)

theorem feedLow_does (hs : s.resetHeld = false) :
    Does (.feedLow x) s { s with feeds := vmod s.feeds (sideIx x) fun f => { f with low := true } } ∧
    Does (.feedLowClear x) s { s with feeds := vmod s.feeds (sideIx x) fun f => { f with low := false } } := by
  simp only [Does, exec, execFeedLow, execFeedLowClear, act_eq _ hs]
  exact ⟨rfl, rfl⟩

theorem feedPresent_does (hs : s.resetHeld = false) (hok : s.feeds[sideIx x].ok = false) (hov : s.feeds[sideIx x].ov = false) :
    DoesWake (.feedPresent x) s (feedUp x s) := by
  simp only [DoesWake, exec, execFeedPresent, actWake, act_eq _ hs, hok, hov, Bool.or_self, Bool.false_eq_true, if_false]

theorem feedLoss_does (hs : s.resetHeld = false) :
    DoesWake (.feedLoss x) s
      (if s.feeds[sideIx x].ok then
        feedGone x (raiseEv 0 (sideIx x).val { s with feeds := vmod s.feeds (sideIx x) fun f => { f with ok := false, lost := true } })
      else raiseEv 0 (sideIx x).val
        { s with feeds := vmod s.feeds (sideIx x) fun f => { f with ok := false, lost := true } }) := by
  simp only [DoesWake, exec, execFeedLoss, actWake, act_eq _ hs]
  rfl

theorem feedOvervoltage_does (hs : s.resetHeld = false) (hov : s.feeds[sideIx x].ov = false) :
    DoesWake (.feedOvervoltage x) s
      (if s.feeds[sideIx x].ok then
        feedGone x (raiseEv 2 (sideIx x).val { s with feeds := vmod s.feeds (sideIx x) fun f => { f with ok := false, ov := true } })
      else raiseEv 2 (sideIx x).val
        { s with feeds := vmod s.feeds (sideIx x) fun f => { f with ok := false, ov := true } }) := by
  simp only [DoesWake, exec, execFeedOvervoltage, actWake, act_eq _ hs, hov, Bool.false_eq_true, if_false]
  rfl

theorem feedOvClear_does (present : Bool) (hs : s.resetHeld = false) (hov : s.feeds[sideIx x].ov = true) :
    DoesWake (.feedOvClear x present) s
      (if present then feedUp x { s with feeds := vmod s.feeds (sideIx x) fun f => { f with ov := false } }
      else { s with feeds := vmod s.feeds (sideIx x) fun f => { f with ov := false } }) := by
  simp only [DoesWake, exec, execFeedOvClear, actWake, act_eq _ hs, hov, if_true]
  rfl

/-- R287: with neither feed available the device stops. -/
theorem feedGone_last (h0 : s.feeds[(0 : Fin 2)].ok = false) (h1 : s.feeds[(1 : Fin 2)].ok = false) :
    feedGone x s = resetState s := by
  simp only [feedGone, h0, h1, Bool.not_false, Bool.and_self, if_true, deviceStops]
end

/-- The feeds after the loss of the one that was available. -/
theorem feeds_after_loss {s : State} {x : Side} (h : s.feeds[if sideIx x = 0 then (1 : Fin 2) else 0].ok = false) (k : Fin 2) :
    (vmod s.feeds (sideIx x) fun f => { f with ok := false, lost := true })[k].ok = false := by
  unfold vmod
  rw [vset_get_fin]
  split
  · rfl
  next hk =>
    have : k = if sideIx x = 0 then (1 : Fin 2) else 0 := by
      revert hk
      generalize sideIx x = i
      revert i k
      decide
    rw [this]
    exact h

/-- Settles O28: each row is its function on the state. -/
theorem feedMonitors : Obligations.FeedMonitors := by
  refine ⟨fun s x hs => ?_, fun s x hs hok hother => ?_⟩
  · extract_lets i put
    refine ⟨(feedLow_does x hs).1, (feedLow_does x hs).2, fun hok hov => ⟨feedPresent_does x hs hok hov, ?_, feedUp_fret⟩,
      fun hok => ?_, fun hok => ?_, fun hov hok => ?_, fun hov hok => ?_, fun hov => feedOvClear_does x false hs hov,
      fun hov => feedOvClear_does x true hs hov⟩
    · rw [feedUp_feeds, vmod, vset_get_fin, if_pos rfl]
    · exact doesWake_congr (feedLoss_does x hs) (if_pos hok)
    · exact doesWake_congr (feedLoss_does x hs) (if_neg (Bool.eq_false_iff.mp hok))
    · exact doesWake_congr (feedOvervoltage_does x hs hov) (if_neg (Bool.eq_false_iff.mp hok))
    · exact doesWake_congr (feedOvervoltage_does x hs hov) (if_pos hok)
  · refine ⟨_, doesWake_congr (feedLoss_does x hs) ((if_pos hok).trans (feedGone_last x ?_ ?_)), rfl⟩
    · exact feeds_after_loss hother 0
    · exact feeds_after_loss hother 1

end Sys2Proof.Machine

end

section
/-!
PROOFS. O27: the clock monitors, the converter link and the degraded mode (R20, R40, R42, R46, R47).
-/

namespace Sys2Proof.Machine

open Sys2Proof.Safety

/-! The rows of CK32, KF and the supervision clock. -/

section
variable {s : State}

theorem ck32Rows (hs : s.resetHeld = false) :
    (s.clk.ck32Ok = true →
      Does .ck32Failure s (raiseEv 3 0 { s with clk := { s.clk with ck32Ok := false, holdover := true } })) ∧
    (s.clk.ck32Ok = false → Does .ck32Failure s s) ∧
    Does .ck32Return s { s with clk := { s.clk with ck32Ok := true, holdover := false, internal := false } } ∧
    (s.clk.ck32Ok = false → s.clk.holdover = false →
      Does .ck32StartTimeout s { s with clk := { s.clk with internal := true } }) ∧
    (s.clk.ck32Ok = true ∨ s.clk.holdover = true → Does .ck32StartTimeout s s) := by
  simp only [Does, exec, execCk32Failure, execCk32Return, execCk32StartTimeout, act_eq _ hs]
  refine ⟨fun h => ?_, fun h => ?_, rfl, fun h h' => ?_, fun h => ?_⟩
  · rw [if_pos h]; rfl
  · rw [if_neg (by simp [h])]
  · rw [if_neg (by simp [h, h'])]; rfl
  · rw [if_pos (by simpa using h)]

theorem kfRows (hs : s.resetHeld = false) :
    (s.clk.kfLock = true → Does .kfLockLoss s (raiseEv 3 1 { s with clk := { s.clk with kfLock := false } })) ∧
    (s.clk.ck32Ok = true ∨ s.clk.holdover = true ∨ s.clk.internal = true →
      Does .kfLock s (bootDawn { s with clk := { s.clk with kfLock := true } }) ∧
      (s.pm.st ≠ 3 → Does .kfLock s { s with clk := { s.clk with kfLock := true } })) := by
  have hrow (h : ck32Runs s = true) : Does .kfLock s (bootDawn { s with clk := { s.clk with kfLock := true } }) := by
    simp only [Does, exec, execKfLock, act_eq _ hs, h, if_true]
    rfl
  refine ⟨fun h => ?_, fun h => ?_⟩
  · simp only [Does, exec, execKfLockLoss, act_eq _ hs, h, if_true]
    rfl
  · have hr : ck32Runs s = true := by simpa [ck32Runs, or_assoc] using h
    exact ⟨hrow hr, fun hst => does_congr (hrow hr) (bootDawn_running hst)⟩

theorem sadcRows (hs : s.resetHeld = false) :
    (s.clk.sadcLock = true → Does .sadcLockLoss s (raiseEv 3 8
      { s with clk := { s.clk with sadcLock := false }
               sadc := { s.sadc with s0 := { s.sadc.s0 with bad := true }, s1 := { s.sadc.s1 with bad := true } } })) ∧
    (domOn s 11 = true → Does .sadcLock s { s with clk := { s.clk with sadcLock := true } }) := by
  simp only [Does, exec, execSadcLockLoss, execSadcLock, act_eq _ hs]
  refine ⟨fun h => ?_, fun h => ?_⟩ <;> rw [if_pos h] <;> rfl

theorem engineClockLoss_does {x : Side} (hs : s.resetHeld = false) (h : s.clk.el[sideIx x] = true) :
    Does (.engineClockLoss x) s
      (raiseEv 3 (6 + (sideIx x).val) { s with clk := { s.clk with el := vset s.clk.el (sideIx x) false } }) := by
  simp only [Does, exec, execEngineClockLoss, act_eq _ hs, h, if_true]
  rfl

/-! Crystals and fabric PLLs (R40, R46, R47). -/

theorem crystalPllFailure_does {x : Side} {pll : Bool} (hs : s.resetHeld = false) (h : coreClk x pll s = true) :
    Does (.crystalPllFailure x pll) s
      (crystalFails x pll (raiseEv 3 (2 + 2 * b2n pll + (sideIx x).val) (dropClk x pll s))) := by
  simp only [Does, exec, execCrystalPllFailure, act_eq _ hs, h, if_true]

/-- A core that does not run loses nothing more. -/
theorem crystalFails_stopped {x : Side} {pll : Bool} (hx : s.arb.active = x) (hr : s.arb.coreRun = false)
    (hd : s.pm.dawn = none) : crystalFails x pll s = s := by
  simp only [crystalFails, hd, crystalFails.running, hx, hr, Bool.false_eq_true, if_false, if_true]

theorem crystalFails_standby {x : Side} {pll : Bool} (hx : s.arb.active ≠ x) (hu : s.arb.stbyUp = true)
    (hd : s.pm.dawn = none) : crystalFails x pll s = trySide x (standbyDown s) := by
  simp only [crystalFails, hd, crystalFails.running, Ne.symm hx, hu, if_false, if_true]

theorem crystalFails_degraded {x : Side} {pll : Bool} (hx : s.arb.active = x) (hr : s.arb.coreRun = true)
    (hu : s.arb.stbyUp = false) : crystalFails x pll s = keeperRef x (coreLinksFail s) := by
  unfold crystalFails
  have hrun : crystalFails.running x s = keeperRef x (coreLinksFail s) := by
    simp only [crystalFails.running, hx, hr, hu, Bool.false_eq_true, if_false, if_true]
  cases s.pm.dawn with
  | none => exact hrun
  | some d => simp only [hx, hr, decide_true, Bool.and_self, Bool.not_true, Bool.and_false, Bool.false_eq_true, if_false, hrun]
end

theorem eq_other_of_ne {x y : Side} (h : y ≠ x) : x = other y := by
  cases y <;> cases x <;> simp_all [other]

theorem coreDom_cases (x : Side) : coreDom x = 3 ∧ engDom x = 4 ∧ memDom x = 5 ∨ coreDom x = 6 ∧ engDom x = 7 ∧ memDom x = 8 := by
  cases x <;> decide

/-- A side that is off has its core domain off. -/
theorem sideOff_core (x : Side) (s : State) : domOn (sideOff x s) (coreDom x) = false := by
  change bit (setBit (setBit (setBit s.pm.on (coreDom x) false) (engDom x) false) (memDom x) false) (coreDom x) = false
  rcases coreDom_cases x with ⟨hc, he, hm⟩ | ⟨hc, he, hm⟩ <;> simp [hc, he, hm, bit_setBit]

theorem dropTake_active (s : State) : (dropTake s).arb.active = s.arb.active := by
  unfold dropTake
  split
  · have h (t : State) : (ignore 0 14 s.arb.takePort.toNat 0x0343 t).arb = t.arb := rest_arb (ps := []) (by simp) (by simp)
    rw [h]
    rfl
  · rfl

/-- R46: a standby whose clocks fail stands down, and its side is off. -/
theorem standbyDown_trySide {s : State} {x : Side} (hx : s.arb.active ≠ x) :
    (trySide x (standbyDown s)).arb.stbyUp = false ∧ (trySide x (standbyDown s)).arb.active = s.arb.active ∧
      domOn (trySide x (standbyDown s)) (coreDom x) = false := by
  refine ⟨rfl, dropTake_active s, ?_⟩
  have hoff : domOn (trySide x (standbyDown s)) (coreDom x) = domOn (sideOff (other s.arb.active) (dropTake s)) (coreDom x) := rfl
  rw [hoff, ← eq_other_of_ne hx, sideOff_core]

/-! The converter link (R20) and the degraded mode (R47). -/

theorem filter_map_above {α : Type} (n : Nat) (f : α → α) (l : List (Nat × α)) :
    (l.map fun x => if x.1 < n then (x.1, f x.2) else x).filter (fun p => n ≤ p.1) = l.filter fun p => n ≤ p.1 := by
  induction l with
  | nil => rfl
  | cons x l ih =>
    by_cases h : x.1 < n
    · simp only [List.map_cons, h, if_true, List.filter_cons, ih, Nat.not_le.mpr h, decide_false, Bool.false_eq_true,
      if_false]
    · simp only [List.map_cons, h, if_false, List.filter_cons, ih]

theorem writeScanMirror_fab (s : State) : (writeScanMirror s).core.fab = s.core.fab := by
  simp only [writeScanMirror, modCore]
  split
  · rfl
  · split <;> simp only

theorem converterLost_down {s : State} (h : s.conv.linkOk = false) : converterLost s = s := by
  rw [converterLost, if_pos (by simp [h])]

theorem converterLost_conv (s : State) : (converterLost s).conv = { s.conv with linkOk := false } := by
  by_cases h : s.conv.linkOk
  · rw [converterLost, if_neg (by simp [h])]
    extract_lets len p inc s1
    exact rest_conv (ps := [.core, .free]) (s := modConv s1 fun c => { c with linkOk := false }) (by simp) (by simp)
  · have h : s.conv.linkOk = false := by simpa using h
    rw [converterLost_down h, ← h]

theorem converterLost_outB {s : State} (h : s.conv.linkOk = true) :
    (converterLost s).core.fab.outB.filter (fun p => 6 ≤ p.1) = s.core.fab.outB.filter (fun p => 6 ≤ p.1) := by
  rw [converterLost, if_neg (by simp [h])]
  extract_lets len p inc s1
  rw [writeScanMirror_fab]
  exact filter_map_above 6 (muteFrom p inc) s.core.fab.outB

theorem coreLinksFail_link (s : State) : (coreLinksFail s).conv.linkOk = false := by
  rw [coreLinksFail, converterLost_conv]

theorem keeperRef_degraded (x : Side) (s : State) :
    (keeperRef x s).clk.degraded = true ∧ (keeperRef x s).core.fab.f = .f48 ∧ (keeperRef x s).core.fab.r96 = false ∧
      (∀ p : Fin 4, (keeperRef x s).core.fab.tdm[p].st = 0) ∧ (keeperRef x s).clk.fl[sideIx x] = true ∧
      (keeperRef x s).clk.el[sideIx x] = true ∧ (keeperRef x s).conv = s.conv := by
  refine ⟨rfl, rfl, rfl, fun p => ?_, ?_, ?_, rfl⟩
  · simp [keeperRef, degrade, modFab, modClk, vmap]
  · change (vset s.clk.fl (sideIx x) true)[sideIx x] = true
    rw [vset_get_fin, if_pos rfl]
  · change (vset s.clk.el (sideIx x) true)[sideIx x] = true
    rw [vset_get_fin, if_pos rfl]

theorem converterLinkLoss_does {s : State} (hs : s.resetHeld = false) : Does .converterLinkLoss s (converterLost s) := by
  simp only [Does, exec, execConverterLinkLoss, act_eq _ hs]

theorem crystalRows {s : State} (hs : s.resetHeld = false) :
    (∀ x : Side, s.arb.active = x → s.arb.coreRun = false → s.pm.dawn = none →
      (s.clk.xo[sideIx x] = true → Does (.crystalPllFailure x false) s
        (raiseEv 3 (2 + (sideIx x).val) { s with clk := { s.clk with xo := vset s.clk.xo (sideIx x) false } })) ∧
      (s.clk.fl[sideIx x] = true → Does (.crystalPllFailure x true) s
        (raiseEv 3 (4 + (sideIx x).val) { s with clk := { s.clk with fl := vset s.clk.fl (sideIx x) false } }))) ∧
    (∀ x : Side, s.arb.active ≠ x → s.arb.stbyUp = true → s.pm.dawn = none → s.clk.xo[sideIx x] = true → ∃ t,
      Does (.crystalPllFailure x false) s t ∧ t.arb.stbyUp = false ∧ t.arb.active = s.arb.active ∧
        domOn t (coreDom x) = false) := by
  refine ⟨fun x hx hr hd => ⟨fun h => ?_, fun h => ?_⟩, fun x hx hu hd h => ?_⟩
  · exact does_congr (crystalPllFailure_does (pll := false) hs h) (crystalFails_stopped hx hr hd)
  · exact does_congr (crystalPllFailure_does (pll := true) hs h) (crystalFails_stopped hx hr hd)
  · have hx' : (raiseEv 3 (2 + 2 * b2n false + (sideIx x).val) (dropClk x false s)).arb.active ≠ x := hx
    obtain ⟨h1, h2, h3⟩ := standbyDown_trySide hx'
    exact ⟨_, does_congr (crystalPllFailure_does (pll := false) hs h) (crystalFails_standby hx' hu hd), h1, h2, h3⟩

/-- Settles O27: each row is its function on the state. -/
theorem clockMonitors : Obligations.ClockMonitors := by
  refine ⟨fun s hs => ?_, fun s x hs hx hr hu h => ?_⟩
  · obtain ⟨c1, c2, c3, c4, c5⟩ := ck32Rows hs
    refine ⟨c1, c2, c3, c4, c5, (kfRows hs).1, (kfRows hs).2, (sadcRows hs).1, (sadcRows hs).2,
      fun x h => engineClockLoss_does hs h, (crystalRows hs).1, (crystalRows hs).2, fun h => ?_, fun h => ?_⟩
    · exact does_congr (converterLinkLoss_does hs) (converterLost_down h)
    · exact ⟨_, converterLinkLoss_does hs, converterLost_conv s, converterLost_outB h⟩
  · have hd := crystalPllFailure_does (s := s) (x := x) (pll := true) hs h
    rw [crystalFails_degraded (s := raiseEv 3 _ (dropClk x true s)) hx hr hu] at hd
    obtain ⟨k1, k2, k3, k4, k5, k6, k7⟩ := keeperRef_degraded x
      (coreLinksFail (raiseEv 3 (2 + 2 * b2n true + (sideIx x).val) (dropClk x true s)))
    refine ⟨_, hd, ?_⟩
    simp only [settle_clk, settle_core, settle_conv]
    exact ⟨k1, k2, k3, k4, k5, k6, by rw [k7, coreLinksFail_link]⟩

end Sys2Proof.Machine

end

section
/-!
PROOFS. O34: FRAME counts one up at every boundary (R25, R48, R290). Nothing that a boundary does but its count of the strobe
moves FRAME, and a takeover or restart at it ends a run of missing strobes.
-/

namespace Sys2Proof.Machine

open Sys2Proof.Safety

/-- Every part but the timebase. -/
def untimed : List Part :=
  [.feeds, .clk, .arb, .mirror, .pm, .core, .dies, .bridges, .lmu, .conv, .sadc, .wake, .ret, .hosts, .flt, .pads, .ports, .tap, .free]

theorem time_of_rest {s t : State} (h : rest untimed t = rest untimed s) : t.time = s.time :=
  rest_time h (by decide)

/-- FRAME is kept, and a run of missing strobes does not begin. -/
def KeepsFrame (s t : State) : Prop := t.time.frame = s.time.frame ∧ (s.time.missing = 0 → t.time.missing = 0)

theorem keepsFrame_trans {s t u : State} (h1 : KeepsFrame s t) (h2 : KeepsFrame t u) : KeepsFrame s u :=
  ⟨h2.1.trans h1.1, fun h => h2.2 (h1.2 h)⟩

theorem keepsFrame_of_time {s t : State} (h : t.time = s.time) : KeepsFrame s t := by
  simp only [KeepsFrame, h, imp_self, and_self]

theorem keepsFrame_of_rest {s t : State} (h : rest untimed t = rest untimed s) : KeepsFrame s t :=
  keepsFrame_of_time (time_of_rest h)

theorem wakeClr_frame (m : BitVec 4) (s : State) : KeepsFrame s (wakeClr m s) := by
  unfold wakeClr KeepsFrame
  extract_lets s1
  split <;> exact ⟨rfl, id⟩

theorem applyDef_frame (d : Deferred) (s : State) : KeepsFrame s (applyDef d s) := by
  unfold applyDef
  split
  case h_8 => exact wakeClr_frame _ s
  case h_1 => 
    split
    · exact keepsFrame_of_rest (by simp [untimed])
    · exact keepsFrame_of_rest rfl
  all_goals exact keepsFrame_of_rest (by simp [untimed])

theorem applyDefs_frame (ds : List Deferred) (s : State) : KeepsFrame s (applyDefs ds s) := by
  unfold applyDefs
  induction ds generalizing s with
  | nil => exact keepsFrame_of_rest rfl
  | cons d ds ih => exact keepsFrame_trans (applyDef_frame d s) (ih _)

theorem deferBoundary_frame (ran : Bool) (s : State) : KeepsFrame s (deferBoundary ran s) := by
  unfold deferBoundary
  extract_lets s1
  have h1 : KeepsFrame s s1 :=
    keepsFrame_trans (t := modHosts s fun h => { h with defHeld := [] }) (keepsFrame_of_time rfl) (applyDefs_frame _ _)
  split
  · exact keepsFrame_trans h1 (keepsFrame_of_time rfl)
  · exact keepsFrame_trans h1 (keepsFrame_trans (t := modHosts s1 fun h => { h with defNow := [] }) (keepsFrame_of_time rfl)
      (applyDefs_frame _ _))

/-- The end of a run of missing strobes. -/
theorem missingEnds_frame (s : State) : KeepsFrame s (modTime s fun t => { t with missing := 0 }) := ⟨rfl, fun _ => rfl⟩

theorem takeover_frame (c : Nat) (s : State) : KeepsFrame s (takeover c s) := by
  unfold takeover
  split
  next kind lost copy _ =>
  extract_lets old s1 s2 s3 blocks t s4 s5 s6 s7 s8 s9
  have h6 : KeepsFrame s s6 := by
    refine keepsFrame_of_rest ?_
    have h3 : rest untimed s3 = rest untimed s := by simp [untimed, s3, s2, s1]
    have h4 : rest untimed s4 = rest untimed s3 := by
      unfold s4
      split <;> simp [untimed, t]
    exact h4.trans h3
  have h9 : KeepsFrame s s9 :=
    keepsFrame_trans h6 (keepsFrame_trans (missingEnds_frame s6) (keepsFrame_of_rest (by simp [untimed, s9, s8, s7])))
  split
  · split
    · exact keepsFrame_trans h9 (keepsFrame_of_rest (by simp [untimed]))
    · exact h9
  · exact h9

theorem coreStops_frame (s : State) : KeepsFrame s (coreStops s) := by
  unfold coreStops
  extract_lets s1 s2
  have h2 : KeepsFrame s s2 := keepsFrame_of_rest (by simp [untimed, s2, s1])
  exact keepsFrame_trans h2 (keepsFrame_trans (keepsFrame_of_rest (by simp [untimed])) (missingEnds_frame _))

theorem restart_frame (x : Side) (c : Nat) (s : State) : KeepsFrame s (restart x c s) := by
  unfold restart
  extract_lets mine s1 s2 s3
  exact keepsFrame_trans (coreStops_frame s) (keepsFrame_of_rest (by simp [untimed, s3, s2, s1]))

theorem takeNow_frame (s : State) : KeepsFrame s (takeNow s) := by
  unfold takeNow
  split
  · exact takeover_frame 4 s
  · exact keepsFrame_of_time rfl

theorem takeBoundary_frame (s : State) : KeepsFrame s (takeBoundary s) := by
  unfold takeBoundary
  split
  · split
    · exact keepsFrame_of_time rfl
    · exact takeNow_frame s
  · exact keepsFrame_of_time rfl

/-- Strobes that stay away take the core over, or restart it (R298, R302). -/
theorem coreCause_strobes_frame (s : State) : KeepsFrame s (coreCause 2 s) := by
  unfold coreCause
  split
  · exact takeover_frame 2 s
  · exact restart_frame _ 2 s

theorem frameOn_time (s : State) : (frameOn s).time = { s.time with frame := s.time.frame + 1 } := rfl

theorem boundary_frame (m : Nat) (inp : BoundaryIn) (s : State) :
    (boundary m inp s).time.frame = s.time.frame + 1 ∧ (m = 0 → (boundary m inp s).time.missing = 0) := by
  unfold boundary
  extract_lets old ran rs s1 s2 s3 s4 s5 s6 s7 s8 n s9 s10 s11
  have h0 : (unmuteTakeover old).time = s.time := time_of_rest (by simp [untimed, old])
  have h1 : s1.time = { s.time with missing := m, frame := s.time.frame + 1 } := by
    have hc : s1.time = (frameOn (modTime (unmuteTakeover old) fun t => { t with missing := m })).time :=
      time_of_rest (by simp [untimed, s1])
    rw [hc, frameOn_time, modTime_time, h0]
  have h11 : KeepsFrame s1 s11 := by
    refine keepsFrame_of_rest ?_
    have h6 : rest untimed s6 = rest untimed s1 := by simp [untimed, s6, s5, s4, s3, s2]
    have h7 : rest untimed s7 = rest untimed s6 := by
      unfold s7
      split <;> simp [untimed]
    have h10 : rest untimed s11 = rest untimed s7 := by simp [untimed, s11, s10, s9, s8]
    exact h10.trans (h7.trans h6)
  have hend : KeepsFrame s1 (takeBoundary (coreSleeps (frameLimiters (watchBoundary (beginSave (deferBoundary ran s11)))))) :=
    keepsFrame_trans h11 (keepsFrame_trans (deferBoundary_frame ran s11)
      (keepsFrame_trans (keepsFrame_of_rest (by simp [untimed])) (takeBoundary_frame _)))
  refine ⟨by rw [hend.1, h1], fun hm => hend.2 ?_⟩
  rw [h1]
  exact hm

theorem missedBoundary_frame (s : State) : (missedBoundary s).time.frame = s.time.frame + 1 := by
  unfold missedBoundary
  extract_lets n s1
  have h1 : s1.time.frame = s.time.frame + 1 := by
    unfold s1
    rw [(boundary_frame n { inputs := [], tdm := [], dies := [] } s).1]
  clear_value s1
  split
  · rw [(coreCause_strobes_frame s1).1, h1]
  · exact h1

theorem idleBoundary_frame (s : State) : (idleBoundary s).time.frame = s.time.frame + 1 := by
  unfold idleBoundary
  extract_lets s1 s2
  have h0 : (outputsPass (flen s.core.fab.f) s).time = s.time := time_of_rest (by simp [untimed])
  have h1 : KeepsFrame (frameOn (outputsPass (flen s.core.fab.f) s)) s1 := by
    refine keepsFrame_of_rest ?_
    unfold s1
    generalize frameOn (outputsPass (flen s.core.fab.f) s) = u
    simp [untimed]
  have h2 : KeepsFrame s1 s2 :=
    keepsFrame_trans (t := lcBoundary s1) (keepsFrame_of_rest (by simp [untimed]))
      (keepsFrame_trans (deferBoundary_frame false _) (keepsFrame_of_rest (by simp [untimed, s2])))
  have h12 : s2.time.frame = s.time.frame + 1 := by rw [h2.1, h1.1, frameOn_time, h0]
  split
  · rw [← h12]
    exact (keepsFrame_of_rest (by simp [untimed])).1
  · exact h12

theorem pmWatch_time (s : State) : (pmWatch s).time = s.time := time_of_rest (by simp [untimed])

/-- Settles O34: both makers of a boundary count FRAME by `frameOn`, and nothing else at it moves FRAME. -/
theorem frameCounts : Obligations.FrameCounts := by
  refine fun s inp hs => ⟨fun hr hc => ⟨settle (pmWatch (coreBoundary inp s)), ?_, ?_, ?_⟩, fun hk => ?_⟩
  · simp only [exec, execFrameBoundary, actWake, act_eq _ hs, hr, hc, Bool.and_self, if_true]
  · rw [settle_time, pmWatch_time, coreBoundary, (boundary_frame 0 inp s).1]
  · rw [settle_time, pmWatch_time, coreBoundary, (boundary_frame 0 inp s).2 rfl]
  · refine ⟨settle (pmWatch (if s.arb.coreRun then missedBoundary s else idleBoundary s)), ?_, ?_⟩
    · simp only [exec, execKeeperBoundary, actWake, act_eq _ hs, hk, Bool.not_true, Bool.false_eq_true, if_false]
    · rw [settle_time, pmWatch_time]
      split
      · exact missedBoundary_frame s
      · exact idleBoundary_frame s

end Sys2Proof.Machine

end

section
/-!
PROOFS. O36: the commits of registers (R12, R338, R360, R375, R413).
-/

namespace Sys2Proof.Machine

open Sys2Proof.Safety

/-! A field read through a mask that covers it. -/

section
variable {w n : Nat} {m : BitVec w}

theorem setWidth_covered (v : BitVec w) (h : m.setWidth n = BitVec.allOnes n) : (v &&& m).setWidth n = v.setWidth n := by
  rw [BitVec.setWidth_and, h, BitVec.and_allOnes]

theorem extract_covered {lo : Nat} (v : BitVec w) (h : m.extractLsb' lo n = BitVec.allOnes n) :
    (v &&& m).extractLsb' lo n = v.extractLsb' lo n := by
  rw [BitVec.extractLsb'_and, h, BitVec.and_allOnes]

theorem bit_covered {k : Nat} (v : BitVec w) (h : bit m k = true) : bit (v &&& m) k = bit v k := by
  have h : m.getLsbD k = true := h
  change (v &&& m).getLsbD k = v.getLsbD k
  rw [BitVec.getLsbD_and, h, Bool.and_true]

theorem fld_covered {lo : Nat} (v : BitVec w) (h : fld m lo n = 2 ^ n - 1) : fld (v &&& m) lo n = fld v lo n := by
  unfold fld at h ⊢
  rw [BitVec.toNat_and, Nat.shiftRight_and_distrib, Nat.and_mod_two_pow, h, Nat.and_two_pow_sub_one_eq_mod, Nat.mod_mod]
end

/-! The checks of a commit, in their order. -/

section
variable {s : State} {pv : PortView} {page ptr : Nat} {r : Reg} {v : Word}

theorem commitReg_reserved (h : regAt page ptr = none) : commitReg pv page ptr v s = s := by
  simp only [commitReg, h]

theorem commitReg_readOnly (h : regAt page ptr = some r) (hw : regWritable r = false) : commitReg pv page ptr v s = s := by
  simp only [commitReg, h, hw, Bool.not_false, if_true]

theorem commitReg_refused {reason : Nat} (h : regAt page ptr = some r) (hw : regWritable r = true)
    (hb : commitBad s pv page ptr r v = some reason) : commitReg pv page ptr v s = ignoreReg pv reason page ptr s := by
  simp only [commitReg, h, hw, hb, Bool.not_true, Bool.false_eq_true, if_false]

theorem commitReg_takes (h : regAt page ptr = some r) (hw : regWritable r = true) (hb : commitBad s pv page ptr r v = none) :
    commitReg pv page ptr v s = regEffect pv page ptr r (v &&& (rwMask r ||| actMask r)) s := by
  simp only [commitReg, h, hw, hb, Bool.not_true, Bool.false_eq_true, if_false]

theorem commitBad_right (h : writeRight pv.host page r = false) : commitBad s pv page ptr r v = some 5 := by
  simp only [commitBad, h, Bool.not_false, if_true]

theorem commitBad_absent (h : writeRight pv.host page r = true) (ha : regAbsent s r = true) :
    commitBad s pv page ptr r v = some 11 := by
  simp only [commitBad, h, ha, Bool.not_true, Bool.false_eq_true, if_false, if_true]

theorem commitBad_core (h : writeRight pv.host page r = true) (ha : regAbsent s r = false) (hc : coreHeld page ptr = true)
    (hu : coreUp s = false) : commitBad s pv page ptr r v = some 14 := by
  simp only [commitBad, h, ha, hc, hu, Bool.not_true, Bool.not_false, Bool.and_self, Bool.false_eq_true, if_false, if_true]

theorem coreHeld_served (h : coreHeld page ptr = false ∨ coreUp s = true) : (coreHeld page ptr && !coreUp s) = false := by
  rcases h with h | h <;> simp [h]

theorem commitBad_lock (h : writeRight pv.host page r = true) (ha : regAbsent s r = false)
    (hc : coreHeld page ptr = false ∨ coreUp s = true) (hl : lkOpen s = false)
    (hx : (v ^^^ regShown s pv r) &&& lkMask r ≠ 0) : commitBad s pv page ptr r v = some 3 := by
  simp only [commitBad, h, ha, coreHeld_served hc, hl, hx, Bool.not_true, Bool.not_false, Bool.true_and, Bool.false_eq_true,
    if_false, if_true, ne_eq, not_false_eq_true, decide_true]

/-- A register without locked fields that may be written: its value decides. -/
theorem commitBad_value (h : writeRight pv.host page r = true) (ha : regAbsent s r = false)
    (hc : coreHeld page ptr = false ∨ coreUp s = true) (hl : lkMask r = 0) :
    commitBad s pv page ptr r v = valueBad s pv r (v &&& (rwMask r ||| actMask r)) := by
  have hx : (v ^^^ regShown s pv r) &&& lkMask r = 0 := by
    rw [hl]
    exact BitVec.and_zero
  simp only [commitBad, h, ha, coreHeld_served hc, hx, ne_eq, not_true_eq_false, decide_false, Bool.and_false, Bool.not_true,
    Bool.false_eq_true, if_false]
end

/-- A row that commits a register of host A. -/
theorem hostAct_open {s : State} {pv : PortView} (f : State → State) (hs : s.resetHeld = false) (hv : viewOpen s pv = true) :
    hostAct pv s f = .next (settle (pmWatch (f s))) := by
  rw [hostAct, actWake, act_eq _ hs, if_pos hv]

/-- A commit by host A of a register that no core serves and no lock guards, whose value is taken. -/
theorem commitReg_hostA {s : State} {q : PortId} {page ptr : Nat} {r : Reg} (v : Word) (h : regAt page ptr = some r)
    (hw : regWritable r = true) (ha : regAbsent s r = false) (hc : coreHeld page ptr = false) (hl : lkMask r = 0)
    (hb : valueBad s ⟨q, .a⟩ r (v &&& (rwMask r ||| actMask r)) = none) :
    commitReg ⟨q, .a⟩ page ptr v s = regEffect ⟨q, .a⟩ page ptr r (v &&& (rwMask r ||| actMask r)) s :=
  commitReg_takes h hw ((commitBad_value rfl ha (.inl hc) hl).trans hb)

theorem commitReg_hostA_refused {s : State} {q : PortId} {page ptr : Nat} {r : Reg} (v : Word) {reason : Nat}
    (h : regAt page ptr = some r) (hw : regWritable r = true) (ha : regAbsent s r = false) (hc : coreHeld page ptr = false)
    (hl : lkMask r = 0) (hb : valueBad s ⟨q, .a⟩ r (v &&& (rwMask r ||| actMask r)) = some reason) :
    commitReg ⟨q, .a⟩ page ptr v s = ignoreReg ⟨q, .a⟩ reason page ptr s :=
  commitReg_refused h hw ((commitBad_value rfl ha (.inl hc) hl).trans hb)

/-! The registers that have rows of their own (R49, R54, R247, R420, R421). -/

section
variable {s : State} {q : PortId} (v : Word)

theorem commit_utime : commitReg ⟨q, .a⟩ 3 0x23 (v ||| 0x100) s =
    { s with time := { s.time with trim := v.setWidth 8, load := true } } := by
  rw [commitReg_hostA (r := .utimeCtrl) _ rfl rfl rfl rfl rfl rfl]
  have h8 : ((v ||| 0x100) &&& (rwMask .utimeCtrl ||| actMask .utimeCtrl)).setWidth 8 = v.setWidth 8 := by
    rw [setWidth_covered _ (by decide), BitVec.setWidth_or]
    exact BitVec.or_zero
  have hb : bit ((v ||| 0x100) &&& (rwMask .utimeCtrl ||| actMask .utimeCtrl)) 8 = true := by
    rw [bit_covered _ (by decide)]
    change (v ||| 0x100#32).getLsbD 8 = true
    rw [BitVec.getLsbD_or]
    exact Bool.or_true _
  simp only [regEffect, utimeCtrl, h8, hb, Bool.or_true]
  rfl

theorem commit_rtc : commitReg ⟨q, .a⟩ 3 0x2B v s = rtcCtrl (v &&& 0x77FFFF) s :=
  commitReg_hostA (r := .rtcCtrl) _ rfl rfl rfl rfl rfl rfl

theorem rtcCtrl_time : (rtcCtrl (v &&& 0x77FFFF) s).time.period = v.setWidth 16 ∧
    (rtcCtrl (v &&& 0x77FFFF) s).time.perEn = bit v 16 ∧
    (rtcCtrl (v &&& 0x77FFFF) s).time.downCnt =
      (if v.setWidth 16 = s.time.period then s.time.downCnt else v.setWidth 16) ∧
    ∀ n : Fin 2, (rtcCtrl (v &&& 0x77FFFF) s).time.alEn[n] = bit v (17 + n.val) := by
  have hp : (v &&& 0x77FFFF).setWidth 16 = v.setWidth 16 := setWidth_covered v (by decide)
  refine ⟨hp, bit_covered v (by decide), ?_, fun n => ?_⟩
  · rw [← hp]
    rfl
  · have hn : (rtcCtrl (v &&& 0x77FFFF) s).time.alEn[n] = bit (v &&& 0x77FFFF) (17 + n.val) := by simp [rtcCtrl]
    rw [hn]
    refine bit_covered v ?_
    clear hn hp
    revert n
    decide

theorem permit_field : fld (v &&& (rwMask .privCtrl ||| actMask .privCtrl)) 8 8 = fld v 8 8 :=
  fld_covered v (by decide)

theorem commit_permit_refused (hl : s.ret.lc ≠ 3) (hv : fld v 8 8 ≠ 0) :
    commitReg ⟨q, .a⟩ 8 0x5B v s = ignoreReg ⟨q, .a⟩ 4 8 0x5B s :=
  commitReg_hostA_refused (r := .privCtrl) _ rfl rfl rfl rfl rfl (by
    simp only [valueBad, permit_field, hl, hv, ne_eq, not_false_eq_true, decide_true, Bool.and_self, if_true])

theorem commit_permit (hl : s.ret.lc = 3) : commitReg ⟨q, .a⟩ 8 0x5B v s = setPermit (v.extractLsb' 8 8)
    { s with conv := { s.conv with micFlt := s.conv.micFlt && !bit v 3, muteSeen := s.conv.muteSeen && !bit v 4 } } := by
  rw [commitReg_hostA (r := .privCtrl) _ rfl rfl rfl rfl rfl (by
    simp only [valueBad, hl, ne_eq, not_true_eq_false, decide_false, Bool.and_false, Bool.false_eq_true, if_false])]
  simp only [regEffect, privCommit, clrBit]
  rw [extract_covered v (by decide), bit_covered v (by decide), bit_covered v (by decide)]
  rfl

theorem commit_rbSel : commitReg ⟨q, .a⟩ 2 0x07 v s = modPv s ⟨q, .a⟩ fun w => { w with rbSel := v.setWidth 8, snap := none } := by
  rw [commitReg_hostA (r := .rbSel) _ rfl rfl rfl rfl rfl rfl]
  simp only [regEffect]
  rw [setWidth_covered v (by decide)]

theorem commit_recSel : commitReg ⟨q, .a⟩ 7 0x3B v s = modPv s ⟨q, .a⟩ fun w =>
    { w with
      recBr := v.setWidth 3, recFp := bit v 3, recAv := (selectedRecord s (fld v 0 3) (bit v 3)).isSome
      recFifo := bytesOfWords ((selectedRecord s (fld v 0 3) (bit v 3)).getD []) } := by
  rw [commitReg_hostA (r := .recSel) _ rfl rfl rfl rfl rfl rfl]
  simp only [regEffect, selectRecord]
  rw [setWidth_covered v (by decide), fld_covered v (by decide), bit_covered v (by decide)]
end

theorem setPermit_starts {n : BitVec 8} (u : State) (h : n ≠ 0) :
    setPermit n u = { u with conv := { u.conv with permit := n }, time := { u.time with permSec := 0 } } := by
  rw [setPermit, if_neg h]
  rfl

theorem setPermit_ends (u : State) : (setPermit 0 u).conv.permit = 0 := by
  rw [setPermit, if_pos rfl]
  split
  · assumption
  · rfl

/-- Settles O36: the rows are commits of host A, and a commit is refused for the first check that fails. -/
theorem registerCommits : Obligations.RegisterCommits := by
  refine ⟨?rows, fun s pv page ptr v => ⟨commitReg_reserved, fun r h => ⟨commitReg_readOnly h, fun hw => ?checks⟩⟩⟩
  case rows =>
    intro s q v pv hs hv
    have row {c : Instr} {page off : Nat} {w : Word} {t : State} (hc : exec c s = hostAct pv s (commitRow pv page off w))
        (ht : commitReg pv page (off + 3) w s = t) : DoesWake c s t := by
      rw [DoesWake, hc, hostAct_open _ hs hv, commitRow, ht]
    obtain ⟨h1, h2, h3, h4⟩ := rtcCtrl_time (s := s) v
    exact ⟨row rfl (commit_utime v), ⟨_, rfl, h1, h2, h3, h4, row rfl (commit_rtc v)⟩,
      fun hl hf => row rfl (commit_permit_refused v hl hf), fun hl => row rfl (commit_permit v hl),
      fun n u hn => setPermit_starts u hn, setPermit_ends, row rfl (commit_rbSel v), row rfl (commit_recSel v)⟩
  case checks =>
    exact ⟨fun h1 => commitReg_refused h hw (commitBad_right h1),
      fun h1 h2 => commitReg_refused h hw (commitBad_absent h1 h2),
      fun h1 h2 h3 h4 => commitReg_refused h hw (commitBad_core h1 h2 h3 h4),
      fun h1 h2 h3 h4 h5 => commitReg_refused h hw (commitBad_lock h1 h2 h3 h4 h5)⟩

end Sys2Proof.Machine

end

section
/-!
PROOFS. O35: the mirror copy, the watchdog's cause, and the commands of takeover and side DAWN (R84, R293-R305).
-/

namespace Sys2Proof.Machine

open Sys2Proof.Safety

/-! The mirror link (R293-R297). -/

section
variable {s : State}

theorem copyAck_does (hs : s.resetHeld = false) : Does .copyAck s (copyAck s) := by
  simp only [Does, exec, execCopyAck, act_eq _ hs]

theorem copyAck_accepted {c : CopyRec} (hf : s.mirror.fly = some c) (hb : s.mirror.flyBad = false)
    (hl : s.mirror.load ≤ copyCap s.core.fab.f) : copyAck s = takeAtAck (copyComplete c s) := by
  simp only [copyAck, hf, hb, Bool.false_or, decide_eq_true_eq, Nat.not_lt.mpr hl, if_false]

theorem copyAck_refused {c : CopyRec} (hf : s.mirror.fly = some c)
    (hb : s.mirror.flyBad = true ∨ copyCap s.core.fab.f < s.mirror.load) : copyAck s = s := by
  simp only [copyAck, hf]
  exact if_pos (by simpa using hb)

theorem copyAck_idle (hf : s.mirror.fly = none) : copyAck s = s := by
  simp only [copyAck, hf]

theorem mirrorLinkFault_does (crc : Bool) (hs : s.resetHeld = false) : Does (.mirrorLinkFault crc) s (mirrorFault crc s) := by
  simp only [Does, exec, execMirrorLinkFault, act_eq _ hs]

theorem mirrorFault_alone (crc : Bool) (h : s.arb.stbyUp = false) : mirrorFault crc s = s := by
  simp only [mirrorFault, h, Bool.not_false, if_true]

theorem mirrorFault_inFlight {c : CopyRec} (crc : Bool) (h : s.arb.stbyUp = true) (hf : s.mirror.fly = some c)
    (hb : s.mirror.flyBad = false) : mirrorFault crc s = raiseLimited 21 0 (if crc then 1 else 0) none
      { s with mirror := { s.mirror with flyBad := true, crcerr := true } } := by
  rw [mirrorFault]
  extract_lets told
  rw [if_neg (by simp [h]), if_pos (by simp [hf]), if_neg (by simp [hb])]
  cases crc <;> rfl

theorem mirrorFault_idle (h : s.arb.stbyUp = true) (hf : s.mirror.fly = none) (hc : controlRuns s = true) :
    mirrorFault false s = raiseLimited 21 0 0 none { s with arb := { s.arb with stale := true } } := by
  rw [mirrorFault]
  extract_lets told
  rw [if_neg (by simp [h]), if_neg (by simp [hf]), if_neg (by simp), if_pos hc]
  rfl

theorem copyIncomplete_inFlight {c : CopyRec} (hf : s.mirror.fly = some c) : (copyIncomplete s).arb.stale = true ∧
    (copyIncomplete s).mirror.fly = none ∧ (copyIncomplete s).mirror.jnl = s.mirror.flyJnl ++ s.mirror.jnl := by
  rw [copyIncomplete, if_neg (by simp [hf])]
  extract_lets m n marks s1 s2
  have ha : (raiseLimited 22 0 s2.mirror.staleAge.toNat none s2).arb = s2.arb := rest_arb (ps := []) (by simp) (by simp)
  have hm : (raiseLimited 22 0 s2.mirror.staleAge.toNat none s2).mirror = s2.mirror := rest_mirror (ps := []) (by simp) (by simp)
  rw [ha, hm]
  exact ⟨rfl, rfl, rfl⟩

/-! The watchdog, the lapse of a takeover command and side DAWNs (R84, R303, R305). -/

theorem watchdogExpiry_does (hs : s.resetHeld = false) (hr : s.arb.coreRun = true) (hw : s.core.tab.wdog ≤ s.core.wdog) :
    Does .watchdogExpiry s (coreCause 3 s) := by
  simp only [Does, exec, execWatchdogExpiry, act_eq _ hs, hr, hw, decide_true, Bool.and_self, if_true]

theorem takeLapse_does (hs : s.resetHeld = false) (h : s.arb.take = some 0) :
    Does .takeLapse s (ignore 0 14 s.arb.takePort.toNat 0x0343 { s with arb := { s.arb with take := none } }) := by
  simp only [Does, exec, execTakeLapse, act_eq _ hs, h, if_true]
  rfl

theorem sideDawnRetry_does {x : Side} (hs : s.resetHeld = false) (ht : s.pm.sideTry[sideIx x] = true) (h0 : s.pm.st = 0)
    (hr : s.arb.coreRun = true) : Does (.sideDawnRetry x) s (startSide x s) := by
  simp only [Does, exec, execSideDawnRetry, act_eq _ hs, ht, h0, hr, decide_true, Bool.and_self, if_true]

theorem startSide_starts {x : Side} (hd : s.pm.dawn = none) (he : s.pm.entry = none) (hu : s.arb.stbyUp = false)
    (hf : s.feeds[sideIx x].ok = true) (hx : x ≠ s.arb.active) :
    startSide x s = modPm (setDom (coreDom x) true (sideOff x s)) fun p =>
      { p with dawn := some { kind := .side, side := x, step := 2 } } := by
  simp only [startSide, hd, he, hu, hf, hx, Option.isNone_none, Bool.not_false, Bool.and_self, ne_eq, not_false_eq_true,
    decide_true, if_true]

theorem setDom_on {k : Nat} (hk : k < 16) (u : State) : domOn (setDom k true u) k = true := by
  change bit (setBit u.pm.on k true) k = true
  rw [bit_setBit _ _ _ _ hk, if_pos rfl]

theorem coreDom_lt (x : Side) : coreDom x < 16 := by
  cases x <;> decide

/-! ARB_CTRL (R303, R305): the preference is taken in every case. -/

/-- ARB_CTRL's preference taken. -/
def prefTaken (v : Word) (s : State) : State := { s with arb := { s.arb with pref := if bit v 1 then .b else .a } }

section
variable {pv : PortView} {v : Word}

theorem arbCtrl_take (h0 : bit v 0 = true) (h2 : bit v 2 = false) (hu : s.arb.stbyUp = true) (hst : stbyStale s = false)
    (hfill : s.mirror.fill = none) (ht : s.arb.take = none) : arbCtrl pv 3 0x43 v s =
      modArb (prefTaken v s) fun a => { a with take := some 17, takePort := BitVec.ofNat 2 (portIx pv.port) } := by
  have hst' : stbyStale (prefTaken v s) = false := hst
  change arbCtrl pv 3 0x43 v s = _
  have he : (modArb s fun a => { a with pref := if bit v 1 then .b else .a }) = prefTaken v s := rfl
  have hu' : (prefTaken v s).arb.stbyUp = true := hu
  have ht' : (prefTaken v s).arb.take = none := ht
  have hf' : (prefTaken v s).mirror.fill = none := hfill
  simp only [arbCtrl, he, h0, h2, hst', hu', ht', hf', Bool.not_true, Option.isSome_none, Option.isNone_none, Bool.or_self,
    Bool.and_true, Bool.false_eq_true, Bool.not_false, if_true, if_false]

theorem arbCtrl_take_refused (h0 : bit v 0 = true) (h2 : bit v 2 = false) (hu : s.arb.stbyUp = false) :
    arbCtrl pv 3 0x43 v s = ignoreReg pv 14 3 0x43 (prefTaken v s) := by
  have he : (modArb s fun a => { a with pref := if bit v 1 then .b else .a }) = prefTaken v s := rfl
  have hu' : (prefTaken v s).arb.stbyUp = false := hu
  simp only [arbCtrl, he, h0, h2, hu', Bool.not_true, Bool.not_false, Bool.true_or, Option.isNone_some, Bool.and_false,
    Bool.false_and, Bool.false_eq_true, if_true, if_false]

theorem arbCtrl_side (h0 : bit v 0 = false) (h2 : bit v 2 = true) (hd : s.pm.dawn = none) (hr : s.pm.repeat_ = false)
    (hu : s.arb.stbyUp = false) (hst : s.pm.st = 0) (hf : s.feeds[sideIx (other s.arb.active)].ok = true) :
    arbCtrl pv 3 0x43 v s =
      startSide (other s.arb.active) (sideAgain (other s.arb.active) (prefTaken v s)) := by
  have he : (modArb s fun a => { a with pref := if bit v 1 then .b else .a }) = prefTaken v s := rfl
  have hu' : (prefTaken v s).arb.stbyUp = false := hu
  have hd' : (prefTaken v s).pm.dawn = none := hd
  have hr' : (prefTaken v s).pm.repeat_ = false := hr
  have hst' : (prefTaken v s).pm.st = 0 := hst
  have hact : (prefTaken v s).arb.active = s.arb.active := rfl
  have hf' : (prefTaken v s).feeds[sideIx (other s.arb.active)].ok = true := hf
  simp only [arbCtrl, he, h0, h2, hu', hd', hr', hst', hact, hf', Bool.not_true, Bool.not_false, Option.isSome_none,
    Option.isNone_none, Bool.or_self, Bool.and_self, Bool.false_and, Bool.false_eq_true, ne_eq, not_true_eq_false, decide_false,
    if_true, if_false]

theorem arbCtrl_side_refused (h0 : bit v 0 = false) (h2 : bit v 2 = true) (hu : s.arb.stbyUp = true) :
    arbCtrl pv 3 0x43 v s = ignoreReg pv 14 3 0x43 (prefTaken v s) := by
  have he : (modArb s fun a => { a with pref := if bit v 1 then .b else .a }) = prefTaken v s := rfl
  have hu' : (prefTaken v s).arb.stbyUp = true := hu
  simp only [arbCtrl, he, h0, h2, hu', Bool.not_true, Bool.not_false, Bool.or_true, Option.isNone_some, Bool.and_false,
    Bool.false_and, Bool.false_eq_true, if_true, if_false]
end

/-- A commit of ARB_CTRL by host A takes its three bits. -/
theorem commit_arbCtrl {q : PortId} (v : Word) :
    commitReg ⟨q, .a⟩ 3 0x43 v s = arbCtrl ⟨q, .a⟩ 3 0x43 (v &&& 7) s :=
  commitReg_hostA (r := .arbCtrl) v rfl rfl rfl rfl rfl rfl

/-- The bits of ARB_CTRL with one of them set by the row. -/
theorem arbBits (v : Word) {m : Word} {k j : Nat} (hj : bit (7 : Word) j = true) (hm : bit m j = decide (j = k)) :
    bit ((v ||| m) &&& 7) j = (bit v j || decide (j = k)) := by
  rw [bit_covered _ hj, ← hm]
  exact BitVec.getLsbD_or
end

/-- Settles O35: each row is its function on the state; the two commands are commits of ARB_CTRL. -/
theorem mirrorAndTakeover : Obligations.MirrorAndTakeover := by
  refine ⟨fun s hs => ⟨?ack, fun hf => ?_, fun c hf hb => ?_, fun c crc hu hf hb => ?_, fun hu hf hc => ?_, fun crc hu => ?_, ?_,
    fun c hf => copyIncomplete_inFlight hf, rfl, rfl, rfl, rfl⟩,
    fun s hs => ⟨watchdogExpiry_does hs, fun c hu => if_pos hu, takeLapse_does hs, fun x h1 h2 h3 => sideDawnRetry_does hs h1 h2 h3,
      fun x h1 h2 h3 h4 h5 => ?_, ?arb⟩⟩
  case ack =>
    intro c hf hb hl s1
    exact does_congr (copyAck_does hs) ((copyAck_accepted hf hb hl).trans rfl)
  case arb =>
    intro q v pv hv pref
    have row {c : Instr} {m : Word} {t : State} (hc : exec c s = hostAct pv s (commitRow pv 3 0x40 (v ||| m)))
        (ht : arbCtrl pv 3 0x43 ((v ||| m) &&& 7) s = t) : DoesWake c s t := by
      rw [DoesWake, hc, hostAct_open _ hs hv, commitRow, commit_arbCtrl, ht]
    have b0 : bit ((v ||| 1) &&& 7) 0 = true := by rw [arbBits v (k := 0) rfl rfl]; exact Bool.or_true _
    have b02 : bit ((v ||| 1) &&& 7) 2 = bit v 2 := by rw [arbBits v (k := 0) rfl rfl]; exact Bool.or_false _
    have b20 : bit ((v ||| 4) &&& 7) 0 = bit v 0 := by rw [arbBits v (k := 2) rfl rfl]; exact Bool.or_false _
    have b2 : bit ((v ||| 4) &&& 7) 2 = true := by rw [arbBits v (k := 2) rfl rfl]; exact Bool.or_true _
    have p0 : prefTaken ((v ||| 1) &&& 7) s = { s with arb := { s.arb with pref := pref } } := by
      rw [prefTaken, arbBits v (j := 1) (k := 0) rfl rfl, decide_eq_false (by decide), Bool.or_false]
    have p2 : prefTaken ((v ||| 4) &&& 7) s = { s with arb := { s.arb with pref := pref } } := by
      rw [prefTaken, arbBits v (j := 1) (k := 2) rfl rfl, decide_eq_false (by decide), Bool.or_false]
    refine ⟨fun h2 hu hst hfill ht => row rfl ?_, fun h2 hu => row rfl ?_, fun h0 hd hr hu hst hf => row rfl ?_,
      fun h0 hu => row rfl ?_⟩
    · rw [arbCtrl_take b0 (b02.trans h2) hu hst hfill ht, p0]
      rfl
    · rw [arbCtrl_take_refused b0 (b02.trans h2) hu, p0]
    · rw [arbCtrl_side (b20.trans h0) b2 hd hr hu hst hf, p2]
    · rw [arbCtrl_side_refused (b20.trans h0) b2 hu, p2]
  · exact does_congr (copyAck_does hs) (copyAck_idle hf)
  · exact does_congr (copyAck_does hs) (copyAck_refused hf hb)
  · exact does_congr (mirrorLinkFault_does crc hs) (mirrorFault_inFlight crc hu hf hb)
  · exact does_congr (mirrorLinkFault_does false hs) (mirrorFault_idle hu hf hc)
  · exact does_congr (mirrorLinkFault_does crc hs) (mirrorFault_alone crc hu)
  · simp only [Does, exec, execFillComplete, act_eq _ hs]
    rfl
  · rw [startSide_starts h1 h2 h3 h4 h5]
    exact ⟨rfl, setDom_on (coreDom_lt x) (sideOff x s), rfl⟩

end Sys2Proof.Machine

end

section
/-!
PROOFS. O37: the window of a view and its FIFO ports (R335-R338, R365, R374, R421, R422).
-/

namespace Sys2Proof.Machine

open Sys2Proof.Safety

/-! Views of the ports: the record of one view read after another is changed. -/

theorem pvIx_inj {x y : PortView} (h : pvIx x = pvIx y) : x = y := by
  obtain ⟨p', g⟩ := x
  obtain ⟨q, k⟩ := y
  have hh : (hostIx g).val = (hostIx k).val ∧ portIx p' = portIx q := by
    have := (hostIx g).isLt
    have := (hostIx k).isLt
    simp only [pvIx] at h
    omega
  obtain ⟨h1, h2⟩ := hh
  have hg : g = k := by
    cases g <;> cases k <;> simp_all [hostIx]
  have hp : p' = q := by
    cases p' <;> cases q <;> simp_all [portIx]
  rw [hg, hp]

section
variable {s : State} (h : mwf {} s.ports.views = true)
include h

theorem getPv_modPv_same (pv : PortView) (f : PView → PView) : getPv (modPv s pv f) pv = f (getPv s pv) :=
  (mem_law ({} : PView) s.ports.views (pvIx pv) 0 _ h).1

theorem getPv_modPv_ne {pv pv' : PortView} (hne : pv' ≠ pv) (f : PView → PView) : getPv (modPv s pv f) pv' = getPv s pv' :=
  (mem_law ({} : PView) s.ports.views (pvIx pv) (pvIx pv') _ h).2.1 fun e => hne (pvIx_inj e)

theorem modPv_views_mwf (pv : PortView) (f : PView → PView) : mwf {} (modPv s pv f).ports.views = true :=
  mset_mwf _ _ _ h
end

/-! The end of a transfer (R335, R338). -/

theorem dropStaging_hold {s : State} (h : mwf {} s.ports.views = true) (pv pv' : PortView) :
    mwf {} (dropStaging pv' s).ports.views = true ∧ (getPv (dropStaging pv' s) pv).hold = (getPv s pv).hold := by
  have hm := modPv_views_mwf h pv' fun v => { v with stg := none }
  have hh : (getPv (modPv s pv' fun v => { v with stg := none }) pv).hold = (getPv s pv).hold := by
    by_cases e : pv = pv'
    · rw [e, getPv_modPv_same h]
    · rw [getPv_modPv_ne h e]
  unfold dropStaging
  split
  · exact ⟨h, rfl⟩
  · extract_lets s1
    split
    · exact ⟨hm, hh⟩
    · exact ⟨hm, hh⟩

theorem endView_hold {s : State} (h : mwf {} s.ports.views = true) (pv pv' : PortView) :
    mwf {} (endView pv' s).ports.views = true ∧
      (getPv (endView pv' s) pv).hold = if pv = pv' then none else (getPv s pv).hold := by
  obtain ⟨hm, hh⟩ := dropStaging_hold h pv pv'
  refine ⟨modPv_views_mwf hm _ _, ?_⟩
  unfold endView
  split
  next e => rw [e, getPv_modPv_same hm]
  next e => rw [getPv_modPv_ne hm e, hh]

theorem endTransfer_hold {s : State} (h : mwf {} s.ports.views = true) (pv : PortView) :
    mwf {} (endTransfer pv.port s).ports.views = true ∧ (getPv (endTransfer pv.port s) pv).hold = none := by
  obtain ⟨q, k⟩ := pv
  obtain ⟨m1, h1⟩ := endView_hold h ⟨q, k⟩ ⟨q, .a⟩
  obtain ⟨m2, h2⟩ := endView_hold m1 ⟨q, k⟩ ⟨q, .b⟩
  obtain ⟨m3, h3⟩ := endView_hold m2 ⟨q, k⟩ ⟨q, .c⟩
  refine ⟨m3, ?_⟩
  unfold endTransfer
  rw [h3, h2, h1]
  cases k <;> simp

/-- R337: header byte 0x01, written at the start of a transfer, is the page. -/
theorem pageByte_written {s : State} (h : mwf {} s.ports.views = true) (pv : PortView) (b : Byte)
    (hp : (getPv s pv).ptr = 1) (hh : (getPv s pv).hold = none) :
    (getPv (writeByteAt pv b s) pv).page = b ∧ (getPv (writeByteAt pv b s) pv).ptr = 2 := by
  have hhold : holding (getPv s pv) = false := by
    simp only [holding, hh, hp]
    rfl
  have hw : windowWrite pv (getPv s pv).page.toNat 1 b s = modPv s pv fun v => { v with page := b } := rfl
  have he : writeByteAt pv b s = advancePtr pv (modPv s pv fun v => { v with page := b }) := by
    simp only [writeByteAt, hhold, hp, Bool.false_eq_true, if_false]
    exact congrArg (advancePtr pv) hw
  rw [he, advancePtr, getPv_modPv_same (modPv_views_mwf h _ _), getPv_modPv_same h]
  refine ⟨rfl, ?_⟩
  simp only [hp]
  rfl

/-! FIFO ports (R336, R365, R374, R421, R422). -/

section
variable {s : State} {pv : PortView}

theorem fifoPush_command (b : Byte) : fifoPush pv 1 0xF0 b s =
    if commandTakes pv s then modPorts (commandByte pv b s) fun p => { p with nack := false } else fifoFull pv.port s := by
  unfold fifoPush
  have h : fifoTakes pv 1 0xF0 b s = if commandTakes pv s then (true, commandByte pv b s) else (false, s) := rfl
  rw [h]
  split <;> rfl

theorem commandByte_header {b : Byte} (h : (getPv s pv).asm.length < 3) :
    commandByte pv b s = modPv s pv fun v => { v with asm := b :: v.asm } := by
  have h4 : (b :: (getPv s pv).asm).length ≠ 4 := by rw [List.length_cons]; omega
  have h4' : ¬ 4 ≤ (b :: (getPv s pv).asm).length := by rw [List.length_cons]; omega
  simp only [commandByte, h4, h4', decide_false, Bool.false_and, Bool.false_eq_true, if_false]
  rfl

/-- What a FIFO port read by a row gives. -/
theorem popRow_some {page ptr : Nat} {b : Byte} {t : State} (h : fifoGives pv page ptr s = (some b, t)) :
    popRow pv page ptr s = { t with ports := { t.ports with rd := [b] } } := by
  simp only [popRow, fifoPop, h]
  rfl

theorem popRow_none {page ptr : Nat} {t : State} (h : fifoGives pv page ptr s = (none, t)) :
    popRow pv page ptr s =
      { fifoEmpty pv.port t with ports := { (fifoEmpty pv.port t).ports with rd := [0] } } := by
  simp only [popRow, fifoPop, h]
  rfl

theorem fifoGives_event : fifoGives pv 1 0xF1 s = popEvent pv.host s := rfl

theorem fifoGives_record : fifoGives pv 7 0xF0 s = popRecord pv s := rfl

theorem fifoGives_capture : fifoGives pv 8 0xF1 s = popCapture pv s := rfl

theorem popEvent_empty (h : s.hosts.evq[hostIx pv.host] = []) : popEvent pv.host s = (none, s) := by
  simp only [popEvent, h]

theorem popEvent_byte {e : EvEntry} {es : List EvEntry} (h : s.hosts.evq[hostIx pv.host] = e :: es)
    (hk : s.hosts.evPos[hostIx pv.host] < 23) :
    popEvent pv.host s = (some ((bytesOfWords (entryWords e)).getD (s.hosts.evPos[hostIx pv.host]) 0),
      { s with hosts := { s.hosts with
          evPos := vset s.hosts.evPos (hostIx pv.host) (s.hosts.evPos[hostIx pv.host] + 1)
          evTouched := vset s.hosts.evTouched (hostIx pv.host) true } }) := by
  simp only [popEvent, h, Nat.not_le.mpr hk, if_false]
  rfl

theorem popEvent_last {e : EvEntry} {es : List EvEntry} (h : s.hosts.evq[hostIx pv.host] = e :: es)
    (hk : s.hosts.evPos[hostIx pv.host] = 23) :
    popEvent pv.host s = (some ((bytesOfWords (entryWords e)).getD 23 0),
      { s with hosts := { s.hosts with
          evPos := vset s.hosts.evPos (hostIx pv.host) 0, evq := vset s.hosts.evq (hostIx pv.host) es
          evTouched := vset s.hosts.evTouched (hostIx pv.host) true } }) := by
  simp only [popEvent, h, hk, Nat.le_refl, if_true]
  rfl

theorem popRecord_byte {b : Byte} {bs : List Byte} (h : (getPv s pv).recFifo = b :: bs) :
    popRecord pv s = (some b, modPv s pv fun p => { p with recFifo := bs }) := by
  simp only [popRecord, h]

theorem popRecord_empty (h : (getPv s pv).recFifo = []) : popRecord pv s = (none, s) := by
  simp only [popRecord, h]

theorem popCapture_byte (h : captureShown s pv.host = true) (hn : (getPv s pv).cap < 64000) :
    popCapture pv s = (some (captureByte s (getPv s pv).cap), modPv s pv fun p => { p with cap := (getPv s pv).cap + 1 }) := by
  simp only [popCapture, h, Nat.not_le.mpr hn, Bool.not_true, Bool.false_eq_true, if_false]

theorem popCapture_hidden (h : captureShown s pv.host = false) : popCapture pv s = (some 0, s) := by
  simp only [popCapture, h, Bool.not_false, if_true]

theorem captureShown_others {h : HostId} (hh : h ≠ .a) : captureShown s h = false := by
  cases h with
  | a => exact absurd rfl hh
  | b => rfl
  | c => rfl
end

/-- Settles O37: each row is its function of the window, whose FIFO ports are read one byte at a time. -/
theorem windowAccess : Obligations.WindowAccess := by
  constructor
  · intro s pv hs hv
    have row {c : Instr} {f : State → State} {t : State} (hc : exec c s = hostAct pv s f) (ht : f s = t) : DoesWake c s t := by
      rw [DoesWake, hc, hostAct_open _ hs hv, ht]
    refine ⟨fun b hm => ?_, row rfl rfl, fun b bs => row rfl rfl, fun b h => ?_, fun b h => ?_, fun b h => commandByte_header h⟩
    · obtain ⟨hm', hh⟩ := endTransfer_hold hm pv
      have hg := getPv_modPv_same hm' pv fun v => { v with ptr := 1 }
      have hw := pageByte_written (s := modPv (endTransfer pv.port s) pv fun v => { v with ptr := 1 })
        (modPv_views_mwf hm' _ _) pv b (by rw [hg]) (by rw [hg]; exact hh)
      refine ⟨writeByteAt pv b (modPv (endTransfer pv.port s) pv fun v => { v with ptr := 1 }), ?_, hw⟩
      simp only [DoesWake, exec, execPageWrite, hostAct_open _ hs hv]
    · exact row rfl ((fifoPush_command b).trans (if_pos h))
    · exact row rfl ((fifoPush_command b).trans (if_neg (Bool.eq_false_iff.mp h)))
  · intro s pv hs hv give i
    have row {c : Instr} {page ptr : Nat} {t : State} (hc : exec c s = hostAct pv s (popRow pv page ptr))
        (ht : popRow pv page ptr s = t) : DoesWake c s t := by
      rw [DoesWake, hc, hostAct_open _ hs hv, ht]
    refine ⟨fun e es he hk => ?_, fun e es he hk => ?_, fun he => ?_, fun b bs hb => ?_, fun hb => ?_, fun hc hn => ?_, fun hc => ?_,
      captureShown_others⟩
    · exact row rfl (popRow_some (fifoGives_event.trans (popEvent_byte he hk)))
    · exact row rfl (popRow_some (fifoGives_event.trans (popEvent_last he hk)))
    · exact row rfl (popRow_none (fifoGives_event.trans (popEvent_empty he)))
    · exact row rfl (popRow_some (fifoGives_record.trans (popRecord_byte hb)))
    · exact row rfl (popRow_none (fifoGives_record.trans (popRecord_empty hb)))
    · exact row rfl (popRow_some (fifoGives_capture.trans (popCapture_byte hc hn)))
    · exact row rfl (popRow_some (fifoGives_capture.trans (popCapture_hidden hc)))

end Sys2Proof.Machine

end

section
/-!
PROOFS. O38, O39: host commands and their admission (R362-R368).
-/

namespace Sys2Proof.Machine

open Sys2Proof.Safety

/-! The checks of admission (R366), each named. -/

/-- Check 2: the life cycle admits the host and the command. -/
def lifeCheck (s : State) (h : HostId) (w : Word) : Bool := hostAdmitted s h && (programsAdmitted s || hdrOp w = 0xE2)

/-- Check 3: the tag is right, or none is needed. -/
def tagCheck (s : State) (h : HostId) (ws : List Word) : Bool :=
  if hdrTag (ws.getD 0 0) then h == .a && s.ret.key.isSome && cmdTagOk s ws else !tagNeeded s h (ws.getD 0 0)

/-- Check 4: the nonce of a tagged command is newer than the last. -/
def freshCheck (s : State) (ws : List Word) : Bool :=
  !hdrTag (ws.getD 0 0) || serialGt 32 (ws.getD 1 0).toNat s.ret.nonceLast.toNat

/-- Check 5: the resource is defined and the host owns it. -/
def ownCheck (s : State) (h : HostId) (w : Word) : Bool :=
  hdrNores w || (resDefined (resWord s (hdrRes w)) && resOwned (resWord s (hdrRes w)) h)

/-- Check 6: the host may use the level, and the resource has it. -/
def levelCheck (s : State) (h : HostId) (w : Word) : Bool :=
  hdrNores w || (hdrPrio w ≤ prioCeiling h && (hdrPrio w < 3 || bit (resWord s (hdrRes w)) 5))

/-- Check 7: the right to WAKEACK and SEENCLR. -/
def rightCheck (h : HostId) (w : Word) : Bool := !((hdrOp w = 0xF2 || hdrOp w = 0xF3) && h != .a)

/-- R366: the first check that fails gives the reason. -/
theorem admitFails_eq (s : State) (h : HostId) (ws : List Word) : admitFails s h ws =
    if !formOk (ws.getD 0 0) then some 9
    else if !lifeCheck s h (ws.getD 0 0) then some 4
    else if !tagCheck s h ws then some 7
    else if !freshCheck s ws then some 8
    else if !ownCheck s h (ws.getD 0 0) then some 1
    else if !levelCheck s h (ws.getD 0 0) then some 2
    else if !rightCheck h (ws.getD 0 0) then some 5
    else none := by
  have ht : (if hdrTag (ws.getD 0 0) then !(h == .a && s.ret.key.isSome && cmdTagOk s ws) else tagNeeded s h (ws.getD 0 0)) =
      !tagCheck s h ws := by
    unfold tagCheck
    split
    · rfl
    · exact (Bool.not_not _).symm
  unfold admitFails
  simp only [ht, lifeCheck, freshCheck, ownCheck, levelCheck, rightCheck, Bool.not_or, Bool.not_not]

section
variable {s : State} {h : HostId} {ws : List Word}

theorem lifeCheck_true (ha : hostAdmitted s h = true) (hp : programsAdmitted s = true ∨ hdrOp (ws.getD 0 0) = 0xE2) :
    lifeCheck s h (ws.getD 0 0) = true := by
  unfold lifeCheck
  rw [ha]
  simpa using hp

theorem rightCheck_false (ho : hdrOp (ws.getD 0 0) = 0xF2 ∨ hdrOp (ws.getD 0 0) = 0xF3) (hh : h ≠ .a) :
    rightCheck h (ws.getD 0 0) = false := by
  have hb : (h != .a) = true := bne_iff_ne.mpr hh
  rw [rightCheck, hb, Bool.and_true, Bool.not_eq_false', Bool.or_eq_true, decide_eq_true_eq, decide_eq_true_eq]
  exact ho

theorem rightCheck_other (h2 : hdrOp (ws.getD 0 0) ≠ 0xF2) (h3 : hdrOp (ws.getD 0 0) ≠ 0xF3) :
    rightCheck h (ws.getD 0 0) = true := by
  simp only [rightCheck, h2, h3, decide_false, Bool.or_self, Bool.false_and, Bool.not_false]

theorem rightCheck_hostA (hh : h = .a) : rightCheck h (ws.getD 0 0) = true := by
  subst hh
  exact (congrArg _ (Bool.and_false _)).trans rfl
end

/-! The ends of a tag check and of an assembly (R365, R367). -/

theorem ignore_ports (i : Fin 4) (r p l : Nat) (s : State) : (ignore i r p l s).ports = s.ports :=
  rest_ports (ps := []) (by simp) (by simp)

theorem ignoreCmd_ports (pv : PortView) (r : Nat) (w : Word) (s : State) : (ignoreCmd pv r w s).ports = s.ports :=
  rest_ports (ps := []) (by simp) (by simp)

theorem admitCmd_ports (pv : PortView) (ws : List Word) (s : State) : (admitCmd pv ws s).ports = s.ports :=
  rest_ports (ps := [.ret, .hosts]) (by simp) (by simp)

theorem admitReady_idle {pv : PortView} {s : State} (h : (getPv s pv).chk = []) (n : Nat) : admitReady pv n s = s := by
  cases n with
  | zero => rfl
  | succ n => simp only [admitReady, h]

/-- The check of the only command that waits ends. -/
theorem tagCheckDone_last {pv : PortView} {s : State} {ws : List Word} (h : (getPv s pv).chk = [ws])
    (hm : mwf {} s.ports.views = true) :
    tagCheckDone pv s = admitCmd pv ws (modPv s pv fun v => { v with chk := [] }) := by
  have hc : (getPv (admitCmd pv ws (modPv s pv fun v => { v with chk := [] })) pv).chk = [] := by
    rw [getPv, admitCmd_ports, ← getPv, getPv_modPv_same hm]
  simp only [tagCheckDone, h]
  exact admitReady_idle hc 64

theorem tagCheckDone_idle {pv : PortView} {s : State} (h : (getPv s pv).chk = []) : tagCheckDone pv s = s := by
  simp only [tagCheckDone, h]

theorem assemblyTimeout_open {pv : PortView} {s : State} {b : Byte} {bs : List Byte} (h : (getPv s pv).asm = b :: bs) :
    assemblyTimeout pv s = ignoreCmd pv 9 (wordOf ((b :: bs).reverse.take 4)) (modPv s pv fun v => { v with asm := [] }) := by
  simp only [assemblyTimeout, h]

theorem assemblyTimeout_idle {pv : PortView} {s : State} (h : (getPv s pv).asm = []) : assemblyTimeout pv s = s := by
  simp only [assemblyTimeout, h]

/-- Settles O39: `admitFails` is its checks in their order. -/
theorem admissionChecks : Obligations.AdmissionChecks := by
  refine ⟨?checks, fun s pv hs => ?_⟩
  case checks =>
    intro s h ws w tagOk fresh r owned level
    have hw : ws.getD 0 0 = w := rfl
    have ht : tagCheck s h ws = tagOk := rfl
    have hf : freshCheck s ws = fresh := rfl
    have ho : ownCheck s h w = owned := rfl
    have hl : levelCheck s h w = level := rfl
    simp only [admitFails_eq, hw, ht, hf, ho, hl]
    clear_value tagOk fresh owned level
    refine ⟨fun h1 => ?_, fun h1 h2 => ?_, fun h1 h2 h3 => ?_, fun h1 h2 h3 => ?_⟩
    · simp only [h1, Bool.not_false, if_true]
    · simp [h1, lifeCheck, h2]
    · simp [h1, lifeCheck, h2, h3]
    · have hlife : lifeCheck s h w = true := lifeCheck_true (ws := ws) h2 h3
      refine ⟨fun h4 => ?_, fun h4 h5 => ?_, fun h4 h5 h6 => ?_, fun h4 h5 h6 h7 => ?_, fun h4 h5 h6 h7 =>
        ⟨fun h8 h9 => ?_, fun h8 h9 => ?_, fun h8 => ?_⟩⟩
      · simp [h1, hlife, h4]
      · simp [h1, hlife, h4, h5]
      · simp [h1, hlife, h4, h5, h6]
      · simp [h1, hlife, h4, h5, h6, h7]
      · have hr : rightCheck h w = false := rightCheck_false (ws := ws) h8 h9
        simp [h1, hlife, h4, h5, h6, h7, hr]
      · have hr : rightCheck h w = true := rightCheck_other (ws := ws) h8 h9
        simp [h1, hlife, h4, h5, h6, h7, hr]
      · have hr : rightCheck h w = true := rightCheck_hostA (ws := ws) h8
        simp [h1, hlife, h4, h5, h6, h7, hr]
  · have hd : Does (.tagCheckDone pv) s (tagCheckDone pv s) := by simp only [Does, exec, execTagCheckDone, act_eq _ hs]
    have ha : Does (.assemblyTimeout pv) s (assemblyTimeout pv s) := by
      simp only [Does, exec, execAssemblyTimeout, act_eq _ hs]
    exact ⟨fun ws hc hm => does_congr hd (tagCheckDone_last hc hm), fun hc => does_congr hd (tagCheckDone_idle hc),
      fun b bs hb => does_congr ha (assemblyTimeout_open hb), fun hb => does_congr ha (assemblyTimeout_idle hb)⟩

/-! A command written as one row (R363, R365, R366). -/

theorem ignoreCmd_nextId (pv : PortView) (r : Nat) (w : Word) (s : State) :
    (ignoreCmd pv r w s).hosts.nextId = s.hosts.nextId := by
  have h := rest_hosts (ps := []) (t := ignoreCmd pv r w s) (s := s) (by simp) (by simp)
  exact congrArg (fun x => x.nextId) h

/-- R366: the state after the admission of a command. -/
theorem admitCmd_admitted {pv : PortView} {ws : List Word} {s : State} (h : admitFails s pv.host ws = none) :
    (admitCmd pv ws s).hosts.q = s.hosts.q ++ [
      { id := s.hosts.nextId, host := pv.host, cnum := s.hosts.cnum[hostIx pv.host] + 1, words := ws, retiring := false }] ∧
    (admitCmd pv ws s).hosts.cnum = vset s.hosts.cnum (hostIx pv.host) (s.hosts.cnum[hostIx pv.host] + 1) ∧
    (admitCmd pv ws s).core = s.core ∧
    (admitCmd pv ws s).ret.nonceLast = (if hdrTag (ws.getD 0 0) then ws.getD 1 0 else s.ret.nonceLast) ∧
    (admitCmd pv ws s).hosts.nextId = s.hosts.nextId + 1 := by
  simp only [admitCmd, h]
  split <;> exact ⟨rfl, rfl, rfl, rfl, rfl⟩

/-- A row whose words are one command of the row, through an open view. -/
theorem cmdRow_open {s : State} {op : Nat → Bool} {pv : PortView} {ws : List Word} (rc : Byte) (reply : Word)
    (hs : s.resetHeld = false) (hv : viewOpen s pv = true) (ho : op (hdrOp (ws.getD 0 0)) = true)
    (hn : nwOk (ws.getD 0 0) = true) (hl : ws.length = hdrNw (ws.getD 0 0)) :
    cmdRow op pv ws rc reply s = .next (settle (pmWatch (hostCommand pv ws rc reply s))) := by
  rw [cmdRow, if_pos (by simp only [cmdWords, ho, hn, hl, decide_true, Bool.and_self]), hostAct_open _ hs hv]

theorem hostCommand_idle {s : State} {pv : PortView} {ws : List Word} {rc : Byte} {reply : Word}
    (ha : (getPv s pv).asm = []) (hc : (getPv s pv).chk = []) (hq : cqFull s pv.host = false) :
    hostCommand pv ws rc reply s =
      if (admitCmd pv ws s).hosts.nextId = s.hosts.nextId then admitCmd pv ws s
      else serveNew (hdrOp (ws.getD 0 0)) rc reply s.hosts.nextId (admitCmd pv ws s) := by
  simp only [hostCommand, ha, hc, hq, List.isEmpty_nil, Bool.not_true, Bool.or_self, Bool.false_eq_true, if_false]

theorem programCode {n : Nat} (h : n < 0xE0 ∨ (0xE3 ≤ n ∧ n < 0xF0) ∨ 0xF4 ≤ n) :
    (decide (n < 0xE0) || (decide (0xE3 ≤ n) && decide (n < 0xF0)) || decide (0xF4 ≤ n)) = true := by
  simpa [or_assoc] using h

/-- Settles O38: each row is one command of its operation codes, ignored or admitted. -/
theorem hostCommands : Obligations.HostCommands := by
  intro s pv ws rc reply hs hv w hn hl ha hc hq c hrow
  have hexec : exec c s = .next (settle (pmWatch (hostCommand pv ws rc reply s))) := by
    rcases hrow with ⟨rfl, ho⟩ | ⟨rfl, ho⟩ | ⟨rfl, ho⟩ | ⟨rfl, ho⟩ | ⟨rfl, ho⟩ | ⟨rfl, ho⟩ | ⟨rfl, ho⟩ | ⟨rfl, ho⟩
    case inr.inr.inr.inr.inr.inr.inr => exact cmdRow_open rc reply hs hv (programCode ho) hn hl
    all_goals exact cmdRow_open rc reply hs hv (decide_eq_true ho) hn hl
  rw [hostCommand_idle ha hc hq] at hexec
  refine ⟨fun r hr => ?_, fun hr => ?_⟩
  · have hi : admitCmd pv ws s = ignoreCmd pv r w s := by simp only [admitCmd, hr, w]
    rw [hi, if_pos (ignoreCmd_nextId pv r w s)] at hexec
    exact hexec
  · obtain ⟨h1, h2, h3, h4, h5⟩ := admitCmd_admitted hr
    rw [if_neg (by rw [h5]; exact Nat.succ_ne_self _)] at hexec
    exact ⟨_, hexec, h1, h2, h3, h4⟩

end Sys2Proof.Machine

end

section
/-!
PROOFS. O41: the answers of the resident program, the steps of a load, and the end of message 0 (R37, R129, R370, R388).
-/

namespace Sys2Proof.Machine

open Sys2Proof.Safety

/-! The answers (R370). -/

section
variable {s : State} {e : CmdEnt}

theorem residentServe_ldstat (h : hdrOp (e.words.getD 0 0) = 0xE2) : residentServe e s = deferDone e 0 (loadStatus s) s := by
  simp only [residentServe, h, residentRetire]

theorem residentServe_claims (h : hdrOp (e.words.getD 0 0) = 0xF0 ∨ hdrOp (e.words.getD 0 0) = 0xF1) :
    residentServe e s = deferDone e 0xF2 0 s := by
  rcases h with h | h <;> simp only [residentServe, h, residentRetire]

theorem residentServe_clears (h : hdrOp (e.words.getD 0 0) = 0xF2 ∨ hdrOp (e.words.getD 0 0) = 0xF3) :
    residentServe e s = deferDone e 0 0 s := by
  rcases h with h | h <;> simp only [residentServe, h, residentRetire]

theorem residentServe_unknown (h : hdrOp (e.words.getD 0 0) < 0xE0 ∨
    (0xE3 ≤ hdrOp (e.words.getD 0 0) ∧ hdrOp (e.words.getD 0 0) < 0xF0) ∨ 0xF4 ≤ hdrOp (e.words.getD 0 0)) :
    residentServe e s = deferDone e 0xF0 0 s := by
  unfold residentServe
  extract_lets w
  have hw : hdrOp w = hdrOp (e.words.getD 0 0) := rfl
  split
  case h_8 => rfl
  all_goals omega

theorem residentServe_startset (h : hdrOp (e.words.getD 0 0) = 0xE1) (ha : s.core.autoOn = false) :
    (∀ t, pStart 24 s = some t → residentServe e s = deferDone e 0 0 t) ∧
    (pStart 24 s = none → residentServe e s = deferDone e 0xF1 (loadStatus s) (ignoreCore 6 0x23 s)) := by
  refine ⟨fun t ht => ?_, fun ht => ?_⟩ <;>
    simp only [residentServe, h, ha, ht, residentRetire, Bool.false_eq_true, if_false]
end

/-! The steps of a load (R129, R131, R133). -/

section
variable {s : State}

theorem headerCheckDone_does (hs : s.resetHeld = false) (h : s.core.load.step = 1) :
    let err := setCheck s s.core.load.set.toNat
    let l : LoadSt := if err = 0 then { s.core.load with step := 2 }
      else { s.core.load with step := 6, err := BitVec.ofNat 4 err, loaded := [] }
    Does .headerCheckDone s (residentNext { s with core := { s.core with load := l } }) := by
  intro err l
  have hd : headerDone s = { s with core := { s.core with load := l } } := by
    rw [headerDone, if_pos h]
    split
    next h0 =>
      have hl : l = { s.core.load with step := 2 } := if_pos h0
      rw [hl]
      rfl
    next h0 =>
      have hl : l = { s.core.load with step := 6, err := BitVec.ofNat 4 err, loaded := [] } := if_neg h0
      rw [hl]
      rfl
  simp only [Does, exec, execHeaderCheckDone, act_eq _ hs, h, if_true, hd]

theorem engineLoadDone_installs (hstep : s.core.load.step = 7) (hp : s.core.prog = .resident)
    (hc : engLoadCheck (setWords s s.core.load.set.toNat) s.core.load.engine.toNat = 0)
    (he : s.core.load.engine.toNat < 25) (hu : s.arb.stbyUp = false) :
    engineLoadDone s = modLoad (fun l => { l with step := 3, loaded := s.core.load.engine.toNat :: l.loaded })
      (setEng s (engOf s.core.load.engine.toNat)
        (installed (setWords s s.core.load.set.toNat) s.core.load.engine.toNat s)) := by
  have hr : (s.core.prog == .resident) = true := by rw [hp]; rfl
  have hsu (x : Engine) (k : Eng) : (setEng s k x).arb = s.arb := rest_arb (ps := [.core, .wake]) (by simp) (by simp)
  simp only [engineLoadDone, hstep, hr, hc, if_true]
  simp only [installEngine, Nat.ne_of_lt he, hu, Bool.false_eq_true, if_false]

/-- The resident program goes on only with a load that it or a host it serves began. -/
theorem residentNext_idle (h : residentRuns s = false ∨ (s.core.autoOn = false ∧ s.hosts.loadCmd = none)) :
    residentNext s = s := by
  have hc : (residentRuns s && (s.core.autoOn || s.hosts.loadCmd.isSome)) = false := by
    rcases h with h | ⟨h, h'⟩
    · rw [h, Bool.false_and]
    · rw [h, h', Option.isSome_none, Bool.or_self, Bool.and_false]
  simp only [residentNext, hc, Bool.false_eq_true, if_false]

/-! The end of message 0 (R37, R387). -/

theorem messageEnds_playing {p : Play} (h : s.core.play = some p) (hp : p.pos < msgSamples p.msg) : messageEnds s = s := by
  simp only [messageEnds, h, hp, if_true]

theorem messageEnds_over {q : Play} (h : s.core.play = some q) (hp : msgSamples q.msg ≤ q.pos) (he : s.sadc.evac = false)
    (hd : msgDefined s 0 = true) : messageEnds s = { s with core := { s.core with play := none } } := by
  simp only [messageEnds, h, Nat.not_lt.mpr hp, hd, he, Bool.false_and, Bool.false_eq_true, if_false, if_true]
  rfl

theorem messageEnds_gone {q : Play} (h : s.core.play = some q) (hp : msgSamples q.msg ≤ q.pos) (hd : msgDefined s 0 = false) :
    messageEnds s = iff q.stopAfter (raiseEv 12 256) { s with core := { s.core with play := none } } := by
  simp only [messageEnds, h, Nat.not_lt.mpr hp, hd, Bool.false_eq_true, if_false]
  rfl

theorem messageEnds_repeats {q : Play} (h : s.core.play = some q) (hp : msgSamples q.msg ≤ q.pos) (he : s.sadc.evac = true)
    (hr : residentRuns s = true) (hd : msgDefined s 0 = true) : messageEnds s =
      { s with core := { s.core with play := some (playFrom (msgEntry s 0).1 (msgWords s 0)) } } := by
  simp only [messageEnds, h, Nat.not_lt.mpr hp, hd, he, hr, Bool.and_self, if_false, if_true]
  exact if_pos hd
end

/-- Settles O41: each clause is one branch of the resident program, of a load, or of the message in play. -/
theorem residentProgram : Obligations.ResidentProgram := by
  refine ⟨fun s e => ⟨residentServe_ldstat, residentServe_claims, residentServe_clears, residentServe_unknown,
    residentServe_startset⟩, fun s hs => ⟨headerCheckDone_does hs, fun h => ?_, residentNext_idle, fun h => ?_, fun h => ?_,
    engineLoadDone_installs⟩, fun s hs => ?_⟩
  · simp only [Does, exec, execHeaderCheckDone, act_eq _ hs, h, if_false]
  · simp only [Does, exec, execEngineLoadDone, act_eq _ hs, h, if_true]
  · simp only [Does, exec, execEngineLoadDone, act_eq _ hs, h, if_false]
  · have row : Does .message0End s (messageEnds s) := by simp only [Does, exec, execMessage0End, act_eq _ hs]
    refine ⟨fun h => does_congr row ?_, fun q h => ⟨fun hp => does_congr row (messageEnds_playing h hp),
      fun hp he hd => does_congr row (messageEnds_over h hp he hd), fun hp hd => ⟨fun ha => ?_, fun ha => ?_⟩,
      fun hp he hr hd => does_congr row (messageEnds_repeats h hp he hr hd)⟩⟩
    · simp only [messageEnds, h]
    · exact does_congr row ((messageEnds_gone h hp hd).trans (by rw [ha]; rfl))
    · exact does_congr row ((messageEnds_gone h hp hd).trans (by rw [ha]; rfl))

end Sys2Proof.Machine

end

section
/-!
PROOFS. O43: a TDM port whose partner's clock is missing, wrong or misplaced, and its return (R158, R159).
-/

namespace Sys2Proof.Machine

open Sys2Proof.Safety

section
variable {s : State} {p : Fin 4}

/-- The port changed by a function of its record is the port set to the function's value. -/
theorem modTdm_eq (f : TdmPort → TdmPort) :
    modTdm p f s = modFab s fun x => { x with tdm := vset x.tdm p (f s.core.fab.tdm[p]) } := rfl

theorem tdmWatches_eq (hr : s.arb.coreRun = true) (he : s.core.fab.tdm[p].en = true) :
    tdmWatches s p = (s.core.fab.tdm[p].st = 1 || s.core.fab.tdm[p].st = 2) := by
  simp only [tdmWatches, hr, he, Bool.true_and]

/-- A clock target that acquires or runs becomes absent. -/
theorem tdmClock_does (hs : s.resetHeld = false) (hw : (tdmWatches s p && !s.core.fab.tdm[p].role) = true) :
    Does (.tdmClockMissing p) s (raiseEv 32 p.val (modTdm p (fun t => { tdmAbsent t with miss := true }) s)) ∧
    Does (.tdmWrongRate p) s (raiseEv 32 (p.val + 4) (modTdm p (fun t => { tdmAbsent t with wrate := true }) s)) := by
  simp only [Does, exec, execTdmClockMissing, execTdmWrongRate, act_eq _ hs, hw, if_true, and_self]

theorem tdmClock_idle (hs : s.resetHeld = false) (hw : (tdmWatches s p && !s.core.fab.tdm[p].role) = false) :
    Does (.tdmClockMissing p) s s ∧ Does (.tdmWrongRate p) s s := by
  simp only [Does, exec, execTdmClockMissing, execTdmWrongRate, act_eq _ hs, hw, Bool.false_eq_true, if_false, and_self]

theorem tdmSlotSyncError_does (t : Nat) (hs : s.resetHeld = false) (hw : tdmWatches s p = true) (h2 : s.core.fab.tdm[p].st = 2) :
    Does (.tdmSlotSyncError p t) s (raiseLimited 32 p.val (p.val + 8) none (modTdm p (tdmSyncError t) s)) := by
  simp only [Does, exec, execTdmSlotSyncError, act_eq _ hs, hw, h2, decide_true, Bool.and_self, if_true]

theorem tdmSlotSyncError_idle (t : Nat) (hs : s.resetHeld = false) (h2 : s.core.fab.tdm[p].st ≠ 2) :
    Does (.tdmSlotSyncError p t) s s := by
  simp only [Does, exec, execTdmSlotSyncError, act_eq _ hs, h2, decide_false, Bool.and_false, Bool.false_eq_true, if_false]

/-- The condition of a return. -/
def tdmReturns (s : State) (p : Fin 4) : Bool :=
  s.arb.coreRun && s.core.fab.tdm[p].en && !s.pm.tdmHalt && (s.core.fab.tdm[p].st = 1 || s.core.fab.tdm[p].st = 3)

theorem tdmReturns_eq {x : TdmPort} (hx : s.core.fab.tdm[p] = x) (hr : s.arb.coreRun = true) (he : x.en = true) :
    tdmReturns s p = (!s.pm.tdmHalt && (x.st = 1 || x.st = 3)) := by
  simp only [tdmReturns, hx, hr, he, Bool.true_and]

theorem tdmReturn_does (m : BitVec 16) (hs : s.resetHeld = false) (h : tdmReturns s p = true) :
    Does (.tdmReturn p m) s
      (raiseEv 32 (p.val + 12) (modTdm p (fun t => { t with st := 2, sync10 := [], rateMeas := m }) s)) := by
  unfold tdmReturns at h
  simp only [Does, exec, execTdmReturn, act_eq _ hs, h, if_true]

theorem tdmReturn_idle (m : BitVec 16) (hs : s.resetHeld = false) (h : tdmReturns s p = false) : Does (.tdmReturn p m) s s := by
  unfold tdmReturns at h
  simp only [Does, exec, execTdmReturn, act_eq _ hs, h, Bool.false_eq_true, if_false]

/-- R158: up to eight errors within 10 ms only count. -/
theorem tdmSyncError_counts {x : TdmPort} {t : Nat} (h : (t :: x.sync10.filter fun u => t - u < 10000).length ≤ 8) :
    tdmSyncError t x =
      { x with sync := true, syncCount := sat8 x.syncCount, sync10 := t :: x.sync10.filter fun u => t - u < 10000 } := by
  rw [tdmSyncError]
  exact if_neg (Nat.not_lt.mpr h)

theorem tdmSyncError_ends {x : TdmPort} {t : Nat} (h : 8 < (t :: x.sync10.filter fun u => t - u < 10000).length) :
    tdmSyncError t x = { x with sync := true, syncCount := sat8 x.syncCount, st := 3, rateMeas := 0, sync10 := [] } := by
  rw [tdmSyncError]
  exact if_pos h
end

/-- Settles O43: each row is taken by a port that watches its partner, or waits for it. -/
theorem tdmPorts : Obligations.TdmPorts := by
  intro s p hs hr he x put gone
  have hw : tdmWatches s p = (x.st = 1 || x.st = 2) := tdmWatches_eq hr he
  refine ⟨fun h1 h2 => ?_, fun h => ?_, fun t h2 => ?_, fun t h2 => tdmSlotSyncError_idle t hs h2, fun m => ⟨fun h1 h2 => ?_,
    fun h => ?_⟩⟩
  · have hg : (tdmWatches s p && !x.role) = true := by
      rw [hw, h1]
      simpa using h2
    exact tdmClock_does hs hg
  · refine tdmClock_idle hs ?_
    change (tdmWatches s p && !x.role) = false
    rcases h with h | h | h <;> simp [hw, h]
  · have hs2 : tdmWatches s p = true := by rw [hw]; simp [h2]
    intro ts y
    have hd := tdmSlotSyncError_does t hs hs2 h2
    rw [modTdm_eq] at hd
    exact ⟨fun h => does_congr hd (by rw [tdmSyncError_counts h]), fun h => does_congr hd (by rw [tdmSyncError_ends h])⟩
  · refine tdmReturn_does m hs ?_
    rw [tdmReturns_eq (x := x) rfl hr he, h1]
    simpa using h2
  · refine tdmReturn_idle m hs ?_
    rw [tdmReturns_eq (x := x) rfl hr he]
    rcases h with h | h | h <;> simp [h]

end Sys2Proof.Machine

end

section
/-!
PROOFS. O42: the commands of the fabric lists (R136, R140, R145-R153, R157, R162).
-/

namespace Sys2Proof.Machine

open Sys2Proof.Safety

/-! Rows of the fabric wait in the pending table (log 13). -/

section
variable {s : State} {w : BitVec 24}

theorem fabRow_pends {op : Nat} (v : BitVec 24) (hs : s.resetHeld = false) (hop : fabOp w = op) (hc : controlRuns s = true) :
    fabRow op w v s = .next (settle (pendCmd w v s)) := by
  rw [fabRow, if_pos hop, act_eq _ hs, if_pos hc]

theorem controlRuns_stopped (h : s.arb.coreRun = false) : controlRuns s = false := by
  simp [controlRuns, h]

theorem fabRow_idle {op : Nat} (v : BitVec 24) (hs : s.resetHeld = false) (hop : fabOp w = op) (hc : s.arb.coreRun = false) :
    fabRow op w v s = .next (settle s) := by
  rw [fabRow, if_pos hop, act_eq _ hs, if_neg (by simp [controlRuns_stopped hc])]

theorem fabEnd_nothing (hs : s.resetHeld = false) : Does (.fabEnd 0) s s := by
  have h0 : fabOp (0 : BitVec 24) = 0 := rfl
  simp only [Does, exec, execFabEnd, h0, if_true, act_eq _ hs, ne_eq, not_true_eq_false, decide_false, Bool.and_false,
    Bool.false_eq_true, if_false]

theorem fabEnd_pends (hs : s.resetHeld = false) (hc : controlRuns s = true) (hop : fabOp w = 0) (hw : w ≠ 0) :
    Does (.fabEnd w) s (pendCmd w 0 s) := by
  simp only [Does, exec, execFabEnd, hop, if_true, act_eq _ hs, hc, ne_eq, hw, not_false_eq_true, decide_true, Bool.and_self]

theorem looka_does (hs : s.resetHeld = false) (hop : fabOp w = 9) : (controlRuns s = true → Does (.looka w) s (pendCmd w 0 s)) ∧
    (s.arb.coreRun = false → Does (.looka w) s s) := by
  simp only [Does, exec, execLooka, hop, if_true, act_eq _ hs]
  exact ⟨fun hc => by rw [if_pos (by simp [hc])], fun hc => by rw [if_neg (by simp [controlRuns_stopped hc, hc])]⟩

/-! Which commands are ignored (R146, R375). -/

/-- A command is refused for one reason exactly when it is bad. -/
theorem cmdBad_of {start bad : Bool} {reason : Nat} {P : Prop} (h : cmdBad start w s = if bad then some reason else none)
    (hP : bad = true ↔ P) : (¬ P → cmdBad start w s = none) ∧ (P → cmdBad start w s = some reason) := by
  rw [h, ← hP]
  exact ⟨fun hb => if_neg hb, fun hb => if_pos hb⟩

theorem cmdBad_bussrc (h : fabOp w = 1) : cmdBad false w s = if bussrcBad w s then some 13 else none := by
  simp only [cmdBad, h]

theorem cmdBad_sink (h : fabOp w = 2) :
    cmdBad false w s = if sinkBad w s then some (sinkReason s (fld w 12 8)) else none := by
  simp only [cmdBad, h]

theorem cmdBad_ramp (h : fabOp w = 3) : cmdBad false w s =
    if rampBad w s then some (if fld w 6 5 = 0 && bit w 19 then sinkReason s (fld w 11 8) else 13) else none := by
  simp only [cmdBad, h]

theorem cmdBad_busclr (h : fabOp w = 4) : cmdBad false w s = if busclrBad w s then some 13 else none := by
  simp only [cmdBad, h]

theorem cmdBad_indom (h : fabOp w = 5) : cmdBad false w s = if indomBad w s then some 13 else none := by
  simp only [cmdBad, h]

theorem cmdBad_tdmcfg (h : fabOp w = 6) : cmdBad false w s = if !tdmOk w || s.clk.degraded then some 13 else none := by
  simp only [cmdBad, h]

theorem cmdBad_direct (h : fabOp w = 7) :
    cmdBad false w s = if directBad w s then some (sinkReason s (fld w 7 8)) else none := by
  simp only [cmdBad, h]

theorem cmdBad_d16sem (h : fabOp w = 8) : cmdBad false w s = if d16semBad w s then some 13 else none := by
  simp only [cmdBad, h]

theorem cmdBad_looka (start : Bool) (h : fabOp w = 9) :
    cmdBad start w s = if lookaBad start w then some 13 else none := by
  simp only [cmdBad, h]

/-! The commands, one by one. -/

theorem bussrcBad_iff : bussrcBad w s = true ↔ fld w 9 5 ≠ 0 ∨ fld w 0 9 < 16 ∨ busProvided s.core.fab (fld w 14 6) = false ∨
    slotUsable s (fld w 0 9) = false := by
  simp only [bussrcBad, Bool.or_eq_true, decide_eq_true_eq, Bool.not_eq_true', or_assoc]

theorem sinkBad_iff : sinkBad w s = true ↔ fld w 10 2 ≠ 0 ∨ sinkUsable s (fld w 12 8) = false ∨
    sinkTakes (fld w 12 8) (fld w 0 10) = false ∨ slotUsable s (fld w 0 10) = false := by
  simp only [sinkBad, Bool.or_eq_true, decide_eq_true_eq, Bool.not_eq_true', or_assoc]

theorem rampBad_iff : rampBad w s = true ↔
    fld w 6 5 ≠ 0 ∨ (if bit w 19 then sinkUsable s (fld w 11 8) else busProvided s.core.fab (fld w 11 8)) = false := by
  simp only [rampBad, Bool.or_eq_true, decide_eq_true_eq, Bool.not_eq_true']

theorem busclrBad_iff : busclrBad w s = true ↔ fld w 0 14 ≠ 0 ∨ busProvided s.core.fab (fld w 14 6) = false := by
  simp only [busclrBad, Bool.or_eq_true, decide_eq_true_eq, Bool.not_eq_true']

theorem indomBad_iff : indomBad w s = true ↔ fld w 1 15 ≠ 0 ∨ inputNamed s.core.fab (fld w 16 4) = true ∨
    pdmFixed s (fld w 16 4) = true ∨ bit w 0 = true ∧ (s.core.fab.r96 = true ∨ s.clk.degraded = true) := by
  simp only [indomBad, Bool.or_eq_true, Bool.and_eq_true, decide_eq_true_eq, or_assoc]

theorem d16semBad_iff : d16semBad w s = true ↔ fld w 6 14 ≠ 0 ∨ s.core.fab.r96 = true ∨ s.clk.degraded = true := by
  simp only [d16semBad, Bool.or_eq_true, decide_eq_true_eq, or_assoc]

theorem lookaBad_iff (start : Bool) : lookaBad start w = true ↔ start = false ∨ fld w 7 13 ≠ 0 ∨ 96 < fld w 0 7 := by
  simp only [lookaBad, Bool.or_eq_true, Bool.not_eq_true', decide_eq_true_eq, or_assoc]

theorem directBad_iff (hl : s.core.fab.direct.live = false) : directBad w s = true ↔ fld w 0 7 ≠ 0 ∨
    ¬ (fld w 7 8 < 6 ∨ (8 ≤ fld w 7 8 ∧ fld w 7 8 < 16)) ∨ sinkUsable s (fld w 7 8) = false ∨
    pdmFixed s (fld w 15 4) = true := by
  simp only [directBad, hl, Bool.false_and, Bool.or_false, Bool.or_eq_true, Bool.not_eq_true', Bool.or_eq_false_iff, decide_eq_true_eq,
    Bool.and_eq_false_iff, decide_eq_false_iff_not, not_or, not_and_or, or_assoc]

theorem ne_false_of_true {b : Bool} (h : b = true) : ¬ b = false := by simp [h]

theorem bussrc_clauses (ks : List Nat) (g : BitVec 24) (h : fabOp w = 1) :
    let f := s.core.fab
    let m := fld w 14 6
    let a := fld w 0 9
    let b := getBus f m
    (fld w 9 5 = 0 → 16 ≤ a → busProvided f m = true → slotUsable s a = true → cmdBad false w s = none) ∧
    (fld w 9 5 ≠ 0 ∨ a < 16 ∨ busProvided f m = false ∨ slotUsable s a = false → cmdBad false w s = some 13) ∧
    (∀ es, busTake (rampLen f b.r) a g b.entries = some es →
      cmdEffect ks w g s = modFab s fun f => setBus f m { b with entries := es }) ∧
    (busTake (rampLen f b.r) a g b.entries = none → cmdEffect ks w g s = ignoreFab 13 1 s) := by
  intro f m a b
  obtain ⟨hok, hbad⟩ := cmdBad_of (cmdBad_bussrc (s := s) h) bussrcBad_iff
  have he : cmdEffect ks w g s = fabBussrc w g s := by simp only [cmdEffect, h]
  refine ⟨fun h1 h2 h3 h4 => hok ?_, hbad, fun es hes => ?_, fun hes => ?_⟩
  · rintro (e | e | e | e)
    exacts [e h1, Nat.not_lt.mpr h2 e, ne_false_of_true h3 e, ne_false_of_true h4 e]
  · simp only [he, fabBussrc]
    rw [hes]
  · simp only [he, fabBussrc]
    rw [hes]

theorem sink_clauses (ks : List Nat) (g : BitVec 24) (h : fabOp w = 2) :
    let f := s.core.fab
    let k := fld w 12 8
    let a := fld w 0 10
    let x := getSink f k
    (fld w 10 2 = 0 → sinkUsable s k = true → sinkTakes k a = true → slotUsable s a = true → cmdBad false w s = none) ∧
    (fld w 10 2 ≠ 0 ∨ sinkUsable s k = false ∨ sinkTakes k a = false ∨ slotUsable s a = false →
      cmdBad false w s = some (if sinkAbsent s k then 11 else 13)) ∧
    (∀ es, sinkTake (rampLen f x.r) a g x.entries = some es →
      cmdEffect ks w g s = modFab s fun f => setSink f k { x with entries := es }) ∧
    (sinkTake (rampLen f x.r) a g x.entries = none → cmdEffect ks w g s = ignoreFab 13 2 s) := by
  intro f k a x
  obtain ⟨hok, hbad⟩ := cmdBad_of (cmdBad_sink (s := s) h) sinkBad_iff
  have he : cmdEffect ks w g s = fabSink w g s := by simp only [cmdEffect, h]
  refine ⟨fun h1 h2 h3 h4 => hok ?_, hbad, fun es hes => ?_, fun hes => ?_⟩
  · rintro (e | e | e | e)
    exacts [e h1, ne_false_of_true h2 e, ne_false_of_true h3 e, ne_false_of_true h4 e]
  · simp only [he, fabSink]
    rw [hes]
  · simp only [he, fabSink]
    rw [hes]

theorem ramp_clauses (ks : List Nat) (g : BitVec 24) (h : fabOp w = 3) :
    let f := s.core.fab
    let k := fld w 11 8
    (fld w 6 5 = 0 → (if bit w 19 then sinkUsable s k else busProvided f k) = true → cmdBad false w s = none) ∧
    (fld w 6 5 ≠ 0 ∨ bit w 19 = false ∧ busProvided f k = false → cmdBad false w s = some 13) ∧
    cmdEffect ks w g s = modFab s fun f =>
      if bit w 19 then setSink f k { getSink f k with r := w.setWidth 6 } else setBus f k { getBus f k with r := w.setWidth 6 } := by
  intro f k
  obtain ⟨hok, hbad⟩ := cmdBad_of (cmdBad_ramp (s := s) h) rampBad_iff
  refine ⟨fun h1 h2 => hok ?_, fun h1 => ?_, by simp only [cmdEffect, h, fabRamp]; rfl⟩
  · rintro (e | e)
    exacts [e h1, ne_false_of_true h2 e]
  · rcases h1 with h1 | ⟨h1, h2⟩
    · rw [hbad (.inl h1), if_neg (by simp [h1])]
    · rw [hbad (.inr (by rw [if_neg (by simp [h1])]; exact h2)), if_neg (by simp [h1])]

theorem busclr_clauses (g : BitVec 24) (h : fabOp w = 4) :
    let f := s.core.fab
    let b := getBus f (fld w 14 6)
    (fld w 0 14 = 0 → busProvided f (fld w 14 6) = true → cmdBad false w s = none) ∧
    (fld w 0 14 ≠ 0 ∨ busProvided f (fld w 14 6) = false → cmdBad false w s = some 13) ∧
    cmdEffect [] w g s = modFab s fun f =>
      setBus f (fld w 14 6) { b with entries := b.entries.map fun e => retarget e 0 (rampLen f b.r) } := by
  intro f b
  obtain ⟨hok, hbad⟩ := cmdBad_of (cmdBad_busclr (s := s) h) busclrBad_iff
  refine ⟨fun h1 h2 => hok ?_, hbad, by simp only [cmdEffect, h, fabBusclr]; rfl⟩
  rintro (e | e)
  exacts [e h1, ne_false_of_true h2 e]

theorem indom_clauses (ks : List Nat) (g : BitVec 24) (i : Fin 16) (h : fabOp w = 5) (hi : fld w 16 4 = i.val) :
    let f := s.core.fab
    let bad : Prop := fld w 1 15 ≠ 0 ∨ inputNamed f i.val = true ∨ pdmFixed s i.val = true ∨
      bit w 0 = true ∧ (f.r96 = true ∨ s.clk.degraded = true)
    (bad → cmdBad false w s = some 13) ∧ (¬ bad → cmdBad false w s = none) ∧
    cmdEffect ks w g s = modFab s fun f => { f with indom := vset f.indom i (bit w 0) } := by
  intro f bad
  have hb : indomBad w s = true ↔ bad := by rw [indomBad_iff, hi]
  obtain ⟨hok, hbad⟩ := cmdBad_of (cmdBad_indom (s := s) h) hb
  have hin : indomInput w = i := Fin.ext hi
  exact ⟨hbad, hok, by simp only [cmdEffect, h, fabIndom, hin]⟩

theorem d16sem_clauses (ks : List Nat) (g : BitVec 24) (h : fabOp w = 8) :
    let f := s.core.fab
    (fld w 6 14 = 0 → f.r96 = false → s.clk.degraded = false → cmdBad false w s = none) ∧
    (fld w 6 14 ≠ 0 ∨ f.r96 = true ∨ s.clk.degraded = true → cmdBad false w s = some 13) ∧
    cmdEffect ks w g s = modFab s fun f => { f with d16Sem := if bit w 5 then some (w.setWidth 5) else none } := by
  intro _
  obtain ⟨hok, hbad⟩ := cmdBad_of (cmdBad_d16sem (s := s) h) d16semBad_iff
  refine ⟨fun h1 h2 h3 => hok ?_, hbad, by simp only [cmdEffect, h, fabD16sem]⟩
  rintro (e | e | e)
  exacts [e h1, Bool.false_ne_true (h2.symm.trans e), Bool.false_ne_true (h3.symm.trans e)]

theorem looka_clauses (ks : List Nat) (g : BitVec 24) (h : fabOp w = 9) :
    cmdBad false w s = some 13 ∧ (fld w 7 13 = 0 → fld w 0 7 ≤ 96 → cmdBad true w s = none) ∧
    (96 < fld w 0 7 → cmdBad true w s = some 13) ∧
    cmdEffect ks w g s = modFab s fun f => { f with lookA := fld w 0 7 } := by
  obtain ⟨_, hrow⟩ := cmdBad_of (cmdBad_looka (s := s) false h) (lookaBad_iff false)
  obtain ⟨hok, hbad⟩ := cmdBad_of (cmdBad_looka (s := s) true h) (lookaBad_iff true)
  refine ⟨hrow (.inl rfl), fun h1 h2 => hok ?_, fun h1 => hbad (.inr (.inr h1)), by simp only [cmdEffect, h, fabLooka]⟩
  rintro (e | e | e)
  exacts [ne_false_of_true rfl e, e h1, Nat.not_lt.mpr h2 e]

theorem tdmcfg_clauses (ks : List Nat) (g : BitVec 24) (q : Fin 4) (h : fabOp w = 6) (hq : fld w 18 2 = q.val) :
    (tdmOk w = true → s.clk.degraded = false → cmdBad false w s = none) ∧
    (tdmOk w = false ∨ s.clk.degraded = true → cmdBad false w s = some 13) ∧
    cmdEffect ks w g s = modFab s fun f => { f with tdm := vmod f.tdm q (tdmTake s.pm.tdmHalt w) } := by
  obtain ⟨hok, hbad⟩ := cmdBad_of (cmdBad_tdmcfg (s := s) h)
    (P := tdmOk w = false ∨ s.clk.degraded = true) (by simp only [Bool.or_eq_true, Bool.not_eq_true'])
  have hp : tdmcfgPort w = q := Fin.ext hq
  refine ⟨fun h1 h2 => hok ?_, hbad, by simp only [cmdEffect, h, fabTdmcfg, hp]⟩
  rintro (e | e)
  exacts [ne_false_of_true h1 e, Bool.false_ne_true (h2.symm.trans e)]

theorem direct_clauses (ks : List Nat) (g : BitVec 24) (h : fabOp w = 7) (hl : s.core.fab.direct.live = false) :
    let f := s.core.fab
    let k := fld w 7 8
    let inp := fld w 15 4
    (fld w 0 7 = 0 → k < 6 ∨ (8 ≤ k ∧ k < 16) → sinkUsable s k = true → pdmFixed s inp = false → cmdBad false w s = none) ∧
    (fld w 0 7 ≠ 0 ∨ 16 ≤ k ∨ pdmFixed s inp = true → ∃ n, cmdBad false w s = some n) ∧
    (bit w 19 = true → cmdEffect ks w g s = modFab s fun f =>
      { f with direct := { on := true, live := true, inp := BitVec.ofNat 4 inp, sink := BitVec.ofNat 8 k
                           e := newEntry 0 g (rampLen f (getSink f k).r) } }) ∧
    (bit w 19 = false → cmdEffect ks w g s = s) := by
  intro f k inp
  obtain ⟨hok, hbad⟩ := cmdBad_of (cmdBad_direct (s := s) h) (directBad_iff hl)
  have he : cmdEffect ks w g s = fabDirect w g s := by simp only [cmdEffect, h]
  refine ⟨fun h1 h2 h3 h4 => hok ?_, fun h1 => ⟨_, hbad ?_⟩, fun h1 => ?_, fun h1 => ?_⟩
  · rintro (e | e | e | e)
    exacts [e h1, e h2, ne_false_of_true h3 e, Bool.false_ne_true (h4.symm.trans e)]
  · rcases h1 with e | e | e
    exacts [.inl e, .inr (.inl (by omega)), .inr (.inr (.inr e))]
  · simp only [he, fabDirect, h1, if_true, hl, Bool.false_eq_true, if_false]
    rfl
  · simp only [he, fabDirect, h1, hl, Bool.false_eq_true, if_false]

/-! The table as it takes effect (R145). -/

theorem fabPass_nil (start : Bool) (s0 : State) : fabPass start s0 [] s = s := by
  simp only [fabPass]

theorem cmdBad_none_last (s0 : State) (v : BitVec 24) (h : cmdBad false w s = none) :
    fabPass false s0 [.cmd w v] s = cmdEffect [] w v s := by
  simp only [fabPass, h, List.filterMap_nil, List.any_nil, keptSlots, Bool.false_eq_true, if_false]

theorem cmdBad_some_last {r : Nat} (s0 : State) (v : BitVec 24) (h : cmdBad false w s = some r) :
    fabPass false s0 [.cmd w v] s = ignoreFab r (fabOp w) s := by
  simp only [fabPass, h]

/-- A list of one command is one pass over it. -/
theorem fabApply_one (v : BitVec 24) : fabApply false [.cmd w v] s = fabPass false s [.cmd w v] s := by
  by_cases h3 : fabOp w = 3
  · have hr : isRamp (.cmd w v) = true := decide_eq_true h3
    simp only [fabApply, List.filter_cons, List.filter_nil, hr, if_true, Bool.not_true, Bool.false_eq_true, if_false, fabPass_nil]
  · have hr : isRamp (.cmd w v) = false := decide_eq_false h3
    simp only [fabApply, List.filter_cons, List.filter_nil, hr, if_true, Bool.not_false, Bool.false_eq_true, if_false, fabPass_nil]

theorem overrides_same (k : FabKey) : overrides k k = true := by
  simp [overrides]

theorem cmdKey_ramp {b : Bool} {k : Nat} (h : cmdKey w = .ramp b k) : fabOp w = 3 := by
  unfold cmdKey at h
  split at h
  case h_3 h3 => exact h3
  all_goals cases h

/-- Of two commands on one setting the later acts. -/
theorem fabApply_two {w2 : BitVec 24} (v v2 : BitVec 24) (h : cmdBad false w s = none) (h2 : cmdBad false w2 s = none)
    (h3 : fabOp w ≠ 3) (hk : cmdKey w = cmdKey w2) : fabApply false [.cmd w v, .cmd w2 v2] s = cmdEffect [] w2 v2 s := by
  have h3' : fabOp w2 ≠ 3 := by
    intro e
    have : cmdKey w2 = .ramp (bit w2 19) (fld w2 11 8) := by simp only [cmdKey, e]
    exact h3 (cmdKey_ramp (hk.trans this))
  have hr : isRamp (.cmd w v) = false := decide_eq_false h3
  have hr2 : isRamp (.cmd w2 v2) = false := decide_eq_false h3'
  simp only [fabApply, List.filter_cons, List.filter_nil, hr, hr2, Bool.not_false, Bool.false_eq_true, if_true, if_false,
    fabPass_nil]
  rw [fabPass]
  simp only [List.filterMap_cons, List.filterMap_nil, h, h2, Option.isNone_none, if_true, List.any_cons, List.any_nil, hk,
    overrides_same, Bool.true_or]
  exact cmdBad_none_last s v2 h2
end

/-! Entries of buses and sinks (R149, R152). -/

theorem busTake_new {n a : Nat} {g : BitVec 24} {es : List Entry} (h : es.find? (fun e => e.slot = a) = none) :
    (g ≠ 0 → liveCount es < 32 → es.length < 40 → busTake n a g es = some (es ++ [newEntry a g n])) ∧
    (g = 0 → busTake n a g es = none) ∧ (32 ≤ liveCount es → busTake n a g es = none) := by
  have he : busTake n a g es =
      if g = 0 || 32 ≤ liveCount es || 40 ≤ es.length then none else some (es ++ [newEntry a g n]) := by
    simp only [busTake, h]
  rw [he]
  exact ⟨fun h1 h2 h3 => if_neg (by simpa [Nat.not_le.mpr h2, Nat.not_le.mpr h3] using h1), fun h1 => if_pos (by simp [h1]),
    fun h1 => if_pos (by simp [h1])⟩

theorem busTake_held {n a : Nat} {g : BitVec 24} {es : List Entry} {e : Entry} (h : es.find? (fun e => e.slot = a) = some e)
    (hg : e.g1 ≠ 0) : busTake n a g es = some (es.map fun x => if x.slot = a then retarget x g n else x) := by
  simp only [busTake, h, hg, decide_false, Bool.false_and, Bool.false_eq_true, if_false]

theorem sinkTake_cases (n a : Nat) (g : BitVec 24) (es : List Entry) :
    (es.any (fun e => e.slot = a) = true →
      sinkTake n a g es = some (es.map fun x => retarget x (if x.slot = a then g else 0) n)) ∧
    (es.any (fun e => e.slot = a) = false → es.length < 4 →
      sinkTake n a g es = some ((es.map fun e => retarget e 0 n) ++ [newEntry a g n])) ∧
    (es.any (fun e => e.slot = a) = false → 4 ≤ es.length → sinkTake n a g es = none) := by
  unfold sinkTake
  refine ⟨fun h => if_pos h, fun h h4 => ?_, fun h h4 => ?_⟩
  · rw [if_neg (by simp [h]), if_neg (Nat.not_le.mpr h4)]
    rfl
  · rw [if_neg (by simp [h]), if_pos h4]

/-- Settles O42: each command by its own clauses, and the table by its last command on a setting. -/
theorem fabricCommands : Obligations.FabricCommands := by
  refine ⟨?rows, ?commands, fun s w v w2 v2 => fabApply_two v v2, fun s w v r => ⟨fun h => ?_, fun h => ?_⟩,
    fun n a g es h => busTake_new h, fun n a g es e h hg => busTake_held h hg, sinkTake_cases⟩
  case rows =>
    intro s w v hs pend
    refine ⟨fabEnd_nothing hs, fabEnd_pends hs, fun c u hc => ?_⟩
    rcases hc with ⟨rfl, ho, rfl⟩ | ⟨rfl, ho, rfl⟩ | ⟨rfl, ho, rfl⟩ | ⟨rfl, ho, rfl⟩ | ⟨rfl, ho, rfl⟩ | ⟨rfl, ho, rfl⟩ |
      ⟨rfl, ho, rfl⟩ | ⟨rfl, ho, rfl⟩ | ⟨rfl, ho, rfl⟩
    case inr.inr.inr.inr.inr.inr.inr.inr => exact looka_does hs ho
    all_goals exact ⟨fabRow_pends _ hs ho, fabRow_idle _ hs ho⟩
  case commands =>
    intro s ks w g f
    exact ⟨bussrc_clauses ks g, sink_clauses ks g, ramp_clauses ks g, busclr_clauses g, fun i h hi => indom_clauses ks g i h hi,
      d16sem_clauses ks g, looka_clauses ks g, fun q h hq => tdmcfg_clauses ks g q h hq, direct_clauses ks g⟩
  · rw [fabApply_one, cmdBad_none_last _ _ h]
  · rw [fabApply_one, cmdBad_some_last _ _ h]

end Sys2Proof.Machine

end

section
/-!
PROOFS. O45: the command words of line supervision and of the earth test (R214, R215, R218, R223, R225, R227).
-/

namespace Sys2Proof.Machine

open Sys2Proof.Safety

section
variable {s : State} {w : BitVec 24}

/-! Words of a bridge's sample. -/

theorem supRow_takes {op : Nat} (b : Fin 8) (hs : s.resetHeld = false) (hc : controlRuns s = true) (h0 : sslot s ≠ 0)
    (hop : supOp w = op) : supRow op b w s = .next (settle (takeSup b w s)) := by
  simp only [supRow, hop, if_true, act_eq _ hs, hc, h0, ne_eq, not_false_eq_true, decide_true, Bool.and_self]

theorem takeSup_illegal {b : Fin 8} (h : supBad s b w = true) :
    takeSup b w s = ignoreCore (if bridgeFitted s b.val then 13 else 11) (supOp w) s := if_pos h

theorem takeSup_inForce {b : Fin 8} (h : supBad s b w = false) (hv : bit w 23 = false ∨ w = supNow s b) :
    takeSup b w s = s := by
  rw [takeSup, if_neg (by simp [h]), if_neg]
  rcases hv with hv | hv <;> simp [hv]

theorem takeSup_begins {b : Fin 8} (h : supBad s b w = false) (hv : bit w 23 = true) (hn : w ≠ supNow s b) :
    takeSup b w s = lineBegin b w (setSup (b.castLE (by decide)) w (lineStop b 2 s)) := by
  rw [takeSup, if_neg (by simp [h]), if_pos (by simp [hv, hn])]

/-- R215: captures and calibrations need OPERATIONAL or MAINTENANCE. -/
theorem supBad_sealed {b : Fin 8} (hop : supOp w = 4 ∨ supOp w = 5) (hl : s.ret.lc = 2) : supBad s b w = true := by
  have hc : ((supOp w = 4 || supOp w = 5) && !(s.ret.lc = 1 || s.ret.lc = 3)) = true := by
    rw [hl]
    rcases hop with h | h <;> simp [h]
  simp only [supBad, hc, Bool.or_true, Bool.true_or]

theorem supOp_lt {n : Nat} (x : BitVec n) : supOp x < 8 := by
  unfold supOp fld
  omega

/-- R214: a line that begins is at its beginning. -/
theorem lineBegin_line (b : Fin 8) :
    ((lineBegin b w s).lmu.line[b]).lmode.toNat = supOp w ∧
    ((lineBegin b w s).lmu.line[b]).sweepWait = decide (supOp w = 3 ∨ supOp w = 4) ∧
    ((lineBegin b w s).lmu.line[b]).loadFail = 0 ∧
    ((lineBegin b w s).lmu.line[b]).winLeft =
      (if supOp w = 2 then supCount w else if supOp w = 4 ∨ supOp w = 5 then 20 else 0) := by
  simp only [lineBegin, modLine, vmod, vset_get_fin, if_true, BitVec.toNat_ofNat, Nat.mod_eq_of_lt (supOp_lt w), Bool.or_eq_true,
    decide_eq_true_eq, Bool.decide_or, and_self]

theorem takeSup_sup (b : Fin 8) (k : Fin 9) :
    (lineBegin b w (setSup k w (lineStop b 2 s))).core.fab.sup = vset s.core.fab.sup k w := by
  have h1 : (lineBegin b w (setSup k w (lineStop b 2 s))).core = (setSup k w (lineStop b 2 s)).core :=
    rest_core (ps := [.lmu]) (by simp) (by simp)
  have h2 : (lineStop b 2 s).core = s.core := rest_core (ps := [.bridges, .lmu, .hosts, .free]) (by simp) (by simp)
  rw [h1, ← h2]
  rfl

/-! Words of the earth test (R227). -/

theorem earthRow_takes {op : Nat} (hs : s.resetHeld = false) (hc : controlRuns s = true) (h0 : sslot s ≠ 0)
    (hop : supOp w = op) : earthRow op w s = .next (settle (takeEarth w s)) := by
  simp only [earthRow, hop, if_true, act_eq _ hs, hc, h0, ne_eq, not_false_eq_true, decide_true, Bool.and_self]

theorem takeEarth_inForce (h : earthBad w = false) (hv : bit w 23 = false ∨ w = s.core.fab.sup[(8 : Fin 9)]) :
    takeEarth w s = s := by
  rw [takeEarth, if_neg (by simp [h]), if_neg]
  rcases hv with hv | hv
  · simp [hv]
  · simp [← hv]

theorem takeEarth_begins (h : earthBad w = false) (hv : bit w 23 = true) (hn : w ≠ s.core.fab.sup[(8 : Fin 9)]) :
    takeEarth w s = earthBegin w (setSup 8 w s) := by
  rw [takeEarth, if_neg (by simp [h]), if_pos]
  rw [hv, Bool.true_and]
  exact decide_eq_true hn
end

/-- Settles O45: every row takes its word by `takeSup` or `takeEarth`. -/
theorem lineCommands : Obligations.LineCommands := by
  refine fun s hs hr h0 => ⟨fun b w c hc => ?_, fun w c hc => ?_⟩
  · have hd : Does c s (takeSup b w s) := by
      rcases hc with ⟨rfl, ho⟩ | ⟨rfl, ho⟩ | ⟨rfl, ho⟩ | ⟨rfl, ho⟩ | ⟨rfl, ho⟩ | ⟨rfl, ho⟩ <;> exact supRow_takes b hs hr h0 ho
    refine ⟨fun hb hv hn => ?_, fun hb hv => does_congr hd (takeSup_inForce hb hv), fun hb hf => ?_, fun hb hf => ?_, supBad_sealed⟩
    · obtain ⟨h1, h2, h3, h4⟩ := lineBegin_line (s := setSup (b.castLE (by decide)) w (lineStop b 2 s)) (w := w) b
      exact ⟨_, does_congr hd (takeSup_begins hb hv hn), rfl, takeSup_sup b _, h1, h2, h3, h4⟩
    · exact does_congr hd ((takeSup_illegal hb).trans (by rw [hf]; rfl))
    · exact does_congr hd ((takeSup_illegal hb).trans (by rw [hf]; rfl))
  · have hd : Does c s (takeEarth w s) := by
      rcases hc with ⟨rfl, ho⟩ | ⟨rfl, ho⟩ | ⟨rfl, ho⟩ <;> exact earthRow_takes hs hr h0 ho
    refine ⟨fun hb hv hn => ?_, fun hb hv => does_congr hd (takeEarth_inForce hb hv), fun hb => does_congr hd (if_pos hb)⟩
    exact ⟨_, does_congr hd (takeEarth_begins hb hv hn), rfl, rfl⟩

end Sys2Proof.Machine

end

section
/-!
PROOFS. O46: the ends of pilot windows, sweeps and earth tests, their verdicts, and the supervision gap (R216-R230).
-/

namespace Sys2Proof.Machine

open Sys2Proof.Safety

/-! The line of a bridge after each verdict. -/

section
variable {s : State} {b : Fin 8}

theorem modLine_line (f : Line → Line) : (modLine s b f).lmu.line[b] = f s.lmu.line[b] := by
  rw [modLine_lmu, vmod_get_fin, if_pos rfl]

theorem setGap_line (on : Bool) : ∃ k, (setGap b on s).lmu.line[b] = { s.lmu.line[b] with gap := on, seen := k } := by
  unfold setGap
  split
  next h =>
    subst h
    exact ⟨s.lmu.line[b].seen, rfl⟩
  next h => exact ⟨s.lmu.line[b].seen || on, modLine_line _⟩

theorem setBreak_line (on : Bool) : ∃ k, (setBreak b on s).lmu.line[b] = { s.lmu.line[b] with brk := on, seen := k } := by
  unfold setBreak
  split
  next h =>
    subst h
    exact ⟨s.lmu.line[b].seen, rfl⟩
  next h => exact ⟨s.lmu.line[b].seen || on, modLine_line _⟩

theorem setLoadFault_line (on high : Bool) :
    ∃ h k, (setLoadFault b on high s).lmu.line[b] = { s.lmu.line[b] with lfault := on, lhigh := h, seen := k } := by
  unfold setLoadFault
  split
  next h =>
    subst h
    exact ⟨s.lmu.line[b].lhigh, s.lmu.line[b].seen, rfl⟩
  next h => exact ⟨if on then high else s.lmu.line[b].lhigh, s.lmu.line[b].seen || on, modLine_line _⟩

theorem persVerdict_declares {p f q : Nat} (h : f = p) : persVerdict p f q = some true := if_pos h

theorem persVerdict_clears {p f q : Nat} (h : f ≠ p) (h' : q = p) : persVerdict p f q = some false :=
  (if_neg h).trans (if_pos h')

theorem persVerdict_waits {p f q : Nat} (h : f ≠ p) (h' : q ≠ p) : persVerdict p f q = none :=
  (if_neg h).trans (if_neg h')

/-! A valid window of continuous running (R217, R218). -/

/-- A load window counts, and the PERS-th in a row declares or clears. -/
theorem loadWindow_line {up : Bool} {v i : Int × Int} {ref : Nat} (hm : s.lmu.line[b].lmode = 1) (hz : zpref s b = some ref) :
    let x := (loadWindow b up v i s).lmu.line[b]
    let fail := (windowFails s b v i ref).1 || (windowFails s b v i ref).2
    let pers := fld (pilotWord s b.val) 22 4
    let lf := if fail then s.lmu.line[b].loadFail + 1 else 0
    let lp := if fail then 0 else s.lmu.line[b].loadPass + 1
    x.zp = zpOf up v i ∧ x.gap = false ∧ x.loadFail = lf ∧ x.loadPass = lp ∧
      (lf = pers → x.lfault = true) ∧ (lf ≠ pers → lp = pers → x.lfault = false) := by
  intro x fail pers lf lp
  have hx : x = (loadWindow b up v i s).lmu.line[b] := rfl
  clear_value x
  unfold loadWindow at hx
  extract_lets s0 at hx
  rw [hz] at hx
  simp only at hx
  generalize hs1 : setGap b false (modLine s0 b _) = s1 at hx
  obtain ⟨k, hk⟩ := setGap_line (s := modLine s0 b fun l =>
    { l with loadFail := if fail then l.loadFail + 1 else 0, loadPass := if fail then 0 else l.loadPass + 1
             nLoad := l.nLoad + 1, fLoad := l.fLoad + b2n fail
             lastHigh := if fail then (windowFails s b v i ref).2 else l.lastHigh, verdictWin := true }) (b := b) false
  rw [modLine_line, modLine_line] at hk
  have hk' : s1.lmu.line[b] = _ := (congrArg (fun u : State => u.lmu.line[b]) hs1.symm).trans hk
  have hl : s1.lmu.line[b].lmode = 1 := (congrArg Line.lmode hk').trans hm
  have hf : s1.lmu.line[b].loadFail = lf := congrArg Line.loadFail hk'
  have hp : s1.lmu.line[b].loadPass = lp := congrArg Line.loadPass hk'
  have hz' : s1.lmu.line[b].zp = zpOf up v i := congrArg Line.zp hk'
  have hg : s1.lmu.line[b].gap = false := congrArg Line.gap hk'
  rw [if_pos hl, hf, hp] at hx
  clear_value lf lp
  clear hk hk' hs1 hz
  have told (on : Bool) (hx : x = (setLoadFault b on (windowFails s b v i ref).2 s1).lmu.line[b]) :
      x.zp = zpOf up v i ∧ x.gap = false ∧ x.loadFail = lf ∧ x.loadPass = lp ∧ x.lfault = on := by
    obtain ⟨h, k, hk⟩ := setLoadFault_line (s := s1) (b := b) on (windowFails s b v i ref).2
    rw [hx, hk]
    exact ⟨hz', hg, hf, hp, rfl⟩
  by_cases h1 : lf = pers
  · rw [persVerdict_declares h1] at hx
    obtain ⟨t1, t2, t3, t4, t5⟩ := told true hx
    exact ⟨t1, t2, t3, t4, fun _ => t5, fun h => absurd h1 h⟩
  by_cases h2 : lp = pers
  · rw [persVerdict_clears h1 h2] at hx
    obtain ⟨t1, t2, t3, t4, t5⟩ := told false hx
    exact ⟨t1, t2, t3, t4, fun h => absurd h h1, fun _ _ => t5⟩
  · rw [persVerdict_waits h1 h2] at hx
    rw [hx]
    exact ⟨hz', hg, hf, hp, fun h => absurd h h1, fun _ h => absurd h h2⟩

theorem loadWindow_plain {up : Bool} {v i : Int × Int} (hz : zpref s b = none) :
    loadWindow b up v i s = modLine s b fun l => { l with zp := zpOf up v i } := by
  unfold loadWindow
  extract_lets s0
  rw [hz]

/-- A continuity window counts, and the PERS-th failing one in a row declares. -/
theorem contWindow_line {fv : Nat} {iA iB : Int × Int} (hm : s.lmu.line[b].lmode = 1) :
    let x := (contWindow b fv iA iB s).lmu.line[b]
    let fail := (contRatio fv iA iB).1
    let cf := if fail then s.lmu.line[b].contFail + 1 else 0
    let cp := if fail then 0 else s.lmu.line[b].contPass + 1
    x.contFail = cf ∧ x.contPass = cp ∧ (cf = fld (pilotWord s b.val) 22 4 → x.brk = true) := by
  intro x fail cf cp
  have hx : x = (contWindow b fv iA iB s).lmu.line[b] := rfl
  clear_value x
  unfold contWindow at hx
  simp only at hx
  generalize hs1 : setGap b false (modLine s b _) = s1 at hx
  obtain ⟨k, hk⟩ := setGap_line (s := modLine s b fun l =>
    { l with cont := BitVec.ofNat 7 (contRatio fv iA iB).2, contFail := if fail then l.contFail + 1 else 0
             contPass := if fail then 0 else l.contPass + 1, nCont := l.nCont + 1, fCont := l.fCont + b2n fail
             verdictWin := true }) (b := b) false
  rw [modLine_line] at hk
  have hk' : s1.lmu.line[b] = _ := (congrArg (fun u : State => u.lmu.line[b]) hs1.symm).trans hk
  have hl : s1.lmu.line[b].lmode = 1 := (congrArg Line.lmode hk').trans hm
  have hf : s1.lmu.line[b].contFail = cf := congrArg Line.contFail hk'
  have hp : s1.lmu.line[b].contPass = cp := congrArg Line.contPass hk'
  rw [if_pos hl, hf, hp] at hx
  clear_value cf cp
  clear hk hk' hs1
  have told (on : Bool) (hx : x = (setBreak b on s1).lmu.line[b]) : x.contFail = cf ∧ x.contPass = cp ∧ x.brk = on := by
    obtain ⟨k, hk⟩ := setBreak_line (s := s1) (b := b) on
    rw [hx, hk]
    exact ⟨hf, hp, rfl⟩
  by_cases h1 : cf = fld (pilotWord s b.val) 22 4
  · rw [persVerdict_declares h1] at hx
    obtain ⟨t1, t2, t3⟩ := told true hx
    exact ⟨t1, t2, fun _ => t3⟩
  by_cases h2 : cp = fld (pilotWord s b.val) 22 4
  · rw [persVerdict_clears h1 h2] at hx
    obtain ⟨t1, t2, _⟩ := told false hx
    exact ⟨t1, t2, fun h => absurd h h1⟩
  · rw [persVerdict_waits h1 h2] at hx
    rw [hx]
    exact ⟨hf, hp, fun h => absurd h h1⟩

theorem contRatio_known {fv : Nat} {iA iB : Int × Int} (h : mag2 iA ≠ 0 ∨ mag2 iB ≠ 0) :
    (contRatio fv iA iB).1 = decide (4 * mag2 iB < mag2 iA) := by
  rw [contRatio, if_neg]
  intro e
  simp only [Bool.and_eq_true, decide_eq_true_eq] at e
  exact h.elim (fun h => h e.1) fun h => h e.2

/-! The end of a pilot window (R216, R218). -/

theorem pilotWindowEnd_does (m : PilotMeas) (hs : s.resetHeld = false) : Does (.pilotWindowEnd b m) s (windowEnd b m s) := by
  simp only [Does, exec, execPilotWindowEnd, act_eq _ hs]

theorem windowValid_spoilt {m : PilotMeas} (h : s.lmu.line[b].spoilt = true ∨ lineHit s b = true ∨ lineRuns s b = false) :
    windowValid s b m = false := by
  rcases h with h | h | h <;>
    simp only [windowValid, h, Bool.not_true, Bool.false_and, Bool.and_false]

theorem windowEnd_idle {m : PilotMeas} (h : s.lmu.line[b].lmode = 0 ∨ s.lmu.line[b].lmode = 3) : windowEnd b m s = s := by
  have hp : pilotMode s.lmu.line[b] = false := by
    rcases h with h | h <;> simp only [pilotMode, h] <;> rfl
  simp only [windowEnd, hp, Bool.false_and, Bool.not_false, if_true]

/-- What a window of a pilot command leaves of its line besides its verdict. -/
def windowCounted (s : State) (b : Fin 8) (t : State) : State :=
  modLine t b fun l => { l with nextCont := bothDrive s b && !contNow s b, winLeft := l.winLeft - 1, spoilt := false }

theorem windowEnd_continuous {m : PilotMeas} (hr : s.arb.coreRun = true) (hm : s.lmu.line[b].lmode = 1) :
    windowEnd b m s = windowCounted s b (if windowValid s b m then windowTake b m s else s) := by
  have hp : pilotMode s.lmu.line[b] = true := by simp only [pilotMode, hm]; rfl
  have h1 : s.lmu.line[b].lmode.toNat = 1 := by rw [hm]; rfl
  simp only [windowEnd, hp, hr, h1, Bool.and_self, Bool.not_true, Bool.false_eq_true, if_false, ne_eq, not_true_eq_false, decide_false,
    Bool.false_and, decide_true, Bool.true_or, Bool.true_and]
  rfl

theorem windowEnd_counted {m : PilotMeas} (hr : s.arb.coreRun = true) (hm : s.lmu.line[b].lmode = 2)
    (hv : windowValid s b m = false) : windowEnd b m s =
      if s.lmu.line[b].winLeft ≤ 1 then countedEnd b (windowCounted s b s) else windowCounted s b s := by
  have hp : pilotMode s.lmu.line[b] = true := by simp only [pilotMode, hm]; rfl
  have h2 : s.lmu.line[b].lmode.toNat = 2 := by rw [hm]; rfl
  have h21 : (2 : Nat) ≠ 1 := by decide
  simp only [windowEnd, hp, hr, h2, hv, h21, Bool.and_self, Bool.not_true, Bool.false_eq_true, if_false, ne_eq, not_false_eq_true,
    decide_true, decide_false, Bool.false_or, Bool.true_and, decide_eq_true_eq, if_true]
  rfl

theorem windowTake_load {m : PilotMeas} (hm : s.lmu.line[b].lmode = 1) (hc : contNow s b = false) :
    windowTake b m s =
      freeTaken (loadWindow b ((freeVal s).toNat.testBit 0) (loadBins s b m).1 (loadBins s b m).2 s) := by
  have h1 : s.lmu.line[b].lmode.toNat = 1 := by rw [hm]; rfl
  simp only [windowTake, h1, hc, Bool.false_eq_true, if_false]
  rfl

theorem windowTake_cont {m : PilotMeas} (hm : s.lmu.line[b].lmode = 1) (hc : contNow s b = true) :
    windowTake b m s = freeTaken (contWindow b (freeVal s).toNat (contBins s b m).1 (contBins s b m).2 s) := by
  have h1 : s.lmu.line[b].lmode.toNat = 1 := by rw [hm]; rfl
  simp only [windowTake, h1, hc, if_true]
  rfl

/-! The sweep (R222, R223). -/

theorem holdEnd_held (off : Bool) (x : Bridge) : (holdEnd off x).held = off := by
  unfold holdEnd
  cases off with
  | true => rfl
  | false =>
    simp only [Bool.false_eq_true, if_false]
    split
    · rfl
    next h => simpa using h

/-- R212: the two ends of a loop after one of them is held off. -/
theorem heldEnds (u : State) (p q : Bool) :
    ((modBridge (modBridge u b (holdEnd p)) (mate b) (holdEnd q)).bridges[b]).held = p ∧
    ((modBridge (modBridge u b (holdEnd p)) (mate b) (holdEnd q)).bridges[mate b]).held = q := by
  simp only [modBridge_bridges, vmod_get_fin, mate_ne b, Ne.symm (mate_ne b), if_true, if_false, holdEnd_held, and_self]

theorem holdEnds_radial {d : Nat} {u : State} (h : isLoop u b.val = false) : holdEnds b d u = u := by
  rw [holdEnds, if_neg (by simp [h])]

theorem holdEnds_loop {d : Nat} {u : State} (h : isLoop u b.val = true) :
    holdEnds b d u = modBridge (modBridge u b (holdEnd (d = 2))) (mate b) (holdEnd (d = 1)) := if_pos h

theorem holdEnds_lmu (d : Nat) (u : State) : (holdEnds b d u).lmu = u.lmu := by
  unfold holdEnds
  split <;> rfl

theorem sweepStart_does (hs : s.resetHeld = false) (hc : controlRuns s = true) : Does (.sweepStart b) s (sweepStart b s) := by
  simp only [Does, exec, execSweepStart, act_eq _ hs, hc, if_true]

theorem sweepStart_waits (h : s.lmu.line[b].sweepWait = false ∨ lineRuns s b = false) : sweepStart b s = s := by
  rw [sweepStart]
  refine if_neg fun e => ?_
  rw [Bool.and_eq_true] at e
  exact h.elim (fun h => Bool.false_ne_true (h.symm.trans e.1)) fun h => Bool.false_ne_true (h.symm.trans e.2)

/-- The direction in which a waiting sweep starts. -/
theorem sweepStart_starts {d : Nat} (hw : s.lmu.line[b].sweepWait = true) (hr : lineRuns s b = true)
    (hd : d = if s.lmu.line[b].lmode = 3 ∧ supDir (supNow s b) = 2 then 2 else 1) : sweepStart b s = sweepFrom b d s := by
  have hd' : (if (decide (s.lmu.line[b].lmode = 3) && decide (supDir (supNow s b) = 2)) = true then 2 else 1) = d := by
    rw [hd]
    simp only [Bool.and_eq_true, decide_eq_true_eq]
  simp only [sweepStart, hw, hr, Bool.and_self, if_true]
  rw [hd']

theorem sweepFrom_lmu (d : Nat) : (sweepFrom b d s).lmu = { s.lmu with line := vset s.lmu.line b { s.lmu.line[b] with
    sweepWait := false, sweepDir := d, hand := 0, sweepAge := 0, intAge := 0, integ := false, badPer := [] } } := by
  rw [sweepFrom, holdEnds_lmu]
  rfl

/-- Of a loop the end that is not measured is held off. -/
theorem sweepFrom_loop {d : Nat} (hl : isLoop s b.val = true) (hd : d = 1 ∨ d = 2) :
    ((sweepFrom b d s).bridges[if d = 1 then mate b else b]).held = true ∧
    ((sweepFrom b d s).bridges[if d = 1 then b else mate b]).held = false := by
  rw [sweepFrom, holdEnds_loop (u := modLine s b _) hl]
  obtain ⟨h1, h2⟩ := heldEnds (b := b) (modLine s b fun l =>
    { l with sweepWait := false, sweepDir := d, hand := 0, sweepAge := 0, intAge := 0, integ := false, badPer := [] })
    (decide (d = 2)) (decide (d = 1))
  rcases hd with rfl | rfl
  · exact ⟨h2, h1⟩
  · exact ⟨h1, h2⟩

theorem sweepFrom_radial {d : Nat} (hl : isLoop s b.val = false) : (sweepFrom b d s).bridges = s.bridges := by
  rw [sweepFrom, holdEnds_radial (u := modLine s b _) hl]
  rfl

theorem sweepEnd_does (m : SweepMeas) (hs : s.resetHeld = false) (hr : s.arb.coreRun = true) :
    Does (.sweepIntegrationEnd b m) s (sweepEnd b m s) := by
  simp only [Does, exec, execSweepIntegrationEnd, act_eq _ hs, hr, if_true]

/-- A direction has been integrated. -/
def sweepReady (s : State) (b : Fin 8) : Prop :=
  s.lmu.line[b].sweepDir ≠ 0 ∧ s.lmu.line[b].hand = 0 ∧ s.lmu.line[b].integ = true ∧ 16384 * sweepQ s b ≤ s.lmu.line[b].intAge

theorem sweepEnd_ready {m : SweepMeas} (h : sweepReady s b) :
    sweepEnd b m s = if bothWays s b then handBegins b (sweepTake b m s) else sweepDone b (sweepTake b m s) := by
  obtain ⟨h1, h2, h3, h4⟩ := h
  simp only [sweepEnd, h1, h2, h3, h4, ne_eq, not_false_eq_true, decide_true, Bool.and_self, if_true]

theorem sweepEnd_early {m : SweepMeas} (h : ¬ sweepReady s b) : sweepEnd b m s = s := by
  rw [sweepEnd]
  refine if_neg fun e => h ?_
  simp only [Bool.and_eq_true, decide_eq_true_eq] at e
  exact ⟨e.1.1.1, e.1.1.2, e.1.2, e.2⟩

theorem handBegins_ends (u : State) : ((handBegins b u).lmu.line[b]) = { (u.lmu.line[b]) with hand := 96, integ := false } ∧
    ((handBegins b u).bridges[b]).held = false ∧ ((handBegins b u).bridges[mate b]).held = false := by
  obtain ⟨h1, h2⟩ := heldEnds (b := b) u false false
  exact ⟨modLine_line _, h1, h2⟩

/-! The supervision gap (R219). -/

theorem supervisionGap_declares (hs : s.resetHeld = false) (hc : controlRuns s = true) (hst : s.pm.st.toNat < 2)
    (hsup : supervised s b = true) (hg : s.lmu.line[b].gap = false) : Does (.supervisionGap b) s
      (raiseEv 98 (b.val + 8) (modLine s b fun l => { l with gap := true, seen := true })) := by
  simp only [Does, exec, execSupervisionGap, act_eq _ hs, hc, hst, decide_true, Bool.and_self, if_true, declareGap, hsup, setGap, hg,
    Bool.false_eq_true, if_false, Bool.or_true]
  rfl

/-! The earth test (R227). -/

theorem earthTestEnd_does (m : EarthMeas) (hs : s.resetHeld = false) : Does (.earthTestEnd m) s (earthEnd m s) := by
  simp only [Does, exec, execEarthTestEnd, act_eq _ hs]

theorem setEarth_earth (on : Bool) : ∃ k, (setEarth on s).lmu.earth = { s.lmu.earth with fault := on, seen := k } := by
  unfold setEarth
  split
  next h =>
    subst h
    exact ⟨s.lmu.earth.seen, rfl⟩
  next h => exact ⟨s.lmu.earth.seen || on, rfl⟩

/-- A test of continuous running with a difference of currents. -/
theorem earthEnd_continuous {m : EarthMeas} (hr : s.arb.coreRun = true) (hm : s.lmu.earth.mode = 1)
    (hd : meanCode m.plus - meanCode m.minus ≠ 0) :
    let d := meanCode m.plus - meanCode m.minus
    let hi := 16384 < meanCode m.plus + meanCode m.minus || meanCode m.plus + meanCode m.minus < -16384
    let fail := decide (40960 / d - 100 < (fld (supLimits s) 8 8 : Rat)) || hi
    let t := (earthEnd m s).lmu.earth
    let f := if fail then s.lmu.earth.fails + 1 else 0
    let p := if fail then 0 else s.lmu.earth.passes + 1
    t.rleak = BitVec.ofNat 8 (leakOf (freeVal s).toNat d) ∧ t.fails = f ∧ t.passes = p ∧
      (2 ≤ f → t.fault = true) ∧ (f < 2 → 2 ≤ p → t.fault = false) := by
  intro d hi fail t f p
  have hl (fv ref : Nat) : leakLow fv ref d = decide (40960 / d - 100 < (ref : Rat)) := if_neg hd
  have ht : t = (earthEnd m s).lmu.earth := rfl
  clear_value t
  rw [earthEnd] at ht
  extract_lets fv p' n d' hi' fail' e1 s0 l0 s1 at ht
  have hfail : fail' = fail := congrArg (· || hi) (hl fv _)
  have hmode : ¬ (decide (s.lmu.earth.mode = 0) || !s.arb.coreRun) = true := by
    rw [hr, hm]
    decide
  have he1 : s1.lmu.earth = e1 := rfl
  have hrl : e1.rleak = BitVec.ofNat 8 (leakOf (freeVal s).toNat d) := rfl
  have hf : e1.fails = f := by
    change (if fail' then s.lmu.earth.fails + 1 else 0) = f
    rw [hfail]
  have hp : e1.passes = p := by
    change (if fail' then 0 else s.lmu.earth.passes + 1) = p
    rw [hfail]
  have told (on : Bool) (ht : t = (setEarth on s1).lmu.earth) :
      t.rleak = BitVec.ofNat 8 (leakOf (freeVal s).toNat d) ∧ t.fails = f ∧ t.passes = p ∧ t.fault = on := by
    obtain ⟨k, hk⟩ := setEarth_earth (s := s1) on
    rw [ht, hk, he1]
    exact ⟨hrl, hf, hp, rfl⟩
  rw [if_neg hmode, if_pos hm, hf, hp] at ht
  clear_value e1 f p
  by_cases h1 : 2 ≤ f
  · rw [if_pos h1] at ht
    obtain ⟨t1, t2, t3, t4⟩ := told true ht
    exact ⟨t1, t2, t3, fun _ => t4, fun h => absurd h1 (Nat.not_le.mpr h)⟩
  rw [if_neg h1] at ht
  by_cases h2 : 2 ≤ p
  · rw [if_pos h2] at ht
    obtain ⟨t1, t2, t3, t4⟩ := told false ht
    exact ⟨t1, t2, t3, fun h => absurd h h1, fun _ _ => t4⟩
  · rw [if_neg h2] at ht
    rw [ht, he1]
    exact ⟨hrl, hf, hp, fun h => absurd h h1, fun _ h => absurd h h2⟩

theorem windowFails_eq (v i : Int × Int) (zp : Nat) : windowFails s b v i zp =
    (decide (8000 ^ 2 * mag2 v < (zp * (100 - fld (pilotWord s b.val) 8 7)) ^ 2 * mag2 i),
      decide ((zp * (100 + fld (pilotWord s b.val) 15 7)) ^ 2 * mag2 i < 8000 ^ 2 * mag2 v)) := rfl

theorem setLoadFault_changes {on high : Bool} (h : s.lmu.line[b].lfault ≠ on) :
    (setLoadFault b on high s).lmu.line[b].lfault = on ∧
      (setLoadFault b on high s).hosts.evBuf.length = s.hosts.evBuf.length + 1 := by
  obtain ⟨_, _, hk⟩ := setLoadFault_line (s := s) (b := b) on high
  refine ⟨congrArg Line.lfault hk, ?_⟩
  rw [setLoadFault, if_neg h]
  exact List.length_append
end

/-- Settles O46: each end of a measurement by its own lemmas. -/
theorem lineResults : Obligations.LineResults := by
  refine ⟨fun s hs => ⟨fun b m hr => ?pilot, fun b hc => ?start, fun b m hr => ?sweep,
    fun b hc hst hsup hg => supervisionGap_declares hs hc hst hsup hg, fun m hr hm => ?earth⟩,
    fun s b => ⟨windowFails_eq, fun p f q => ⟨persVerdict_declares, persVerdict_clears, persVerdict_waits⟩,
      fun on high h => setLoadFault_changes h, fun on high h => if_pos h⟩⟩
  case pilot =>
    have hd := pilotWindowEnd_does (s := s) (b := b) m hs
    intro l on
    refine ⟨windowValid_spoilt, fun h2 hw hv => ?_, fun h2 hw hv => ?_, fun h1 => ⟨_, does_congr hd (windowEnd_continuous hr h1),
      fun hv => ?_, fun hv hc => ?_, fun hv hc => ?_⟩, fun h => does_congr hd (windowEnd_idle h)⟩
    · exact does_congr hd ((windowEnd_counted hr h2 hv).trans (if_neg (Nat.not_le.mpr hw)))
    · exact does_congr hd ((windowEnd_counted hr h2 hv).trans (if_pos hw))
    · rw [hv, if_neg Bool.false_ne_true]
    · rw [hv, if_pos rfl, windowTake_load h1 hc]
      intro z zp
      refine ⟨fun hz => by rw [loadWindow_plain hz], fun ref hz => ?_⟩
      intro f pers
      have hw := loadWindow_line (up := (freeVal s).toNat.testBit 0) (v := z.1) (i := z.2) h1 hz
      obtain ⟨t1, t2, t3, t4, t5, t6⟩ := hw
      refine ⟨t1, t2, fun hf => ?_, fun hf1 hf2 => ?_⟩
      · have hfail : (f.1 || f.2) = true := by simpa using hf
        have e1 : (if (f.1 || f.2) = true then l.loadFail + 1 else 0) = l.loadFail + 1 := if_pos hfail
        have e2 : (if (f.1 || f.2) = true then 0 else l.loadPass + 1) = 0 := if_pos hfail
        exact ⟨t3.trans e1, t4.trans e2, fun hp => t5 (e1.trans hp)⟩
      · have hfail : ¬ (f.1 || f.2) = true := by simp [hf1, hf2]
        have e1 : (if (f.1 || f.2) = true then l.loadFail + 1 else 0) = 0 := if_neg hfail
        have e2 : (if (f.1 || f.2) = true then 0 else l.loadPass + 1) = l.loadPass + 1 := if_neg hfail
        exact ⟨t3.trans e1, t4.trans e2, fun hp h0 => t6 (by rw [e1]; exact Ne.symm h0) (e2.trans hp)⟩
    · rw [hv, if_pos rfl, windowTake_cont h1 hc]
      intro i hi
      obtain ⟨t1, t2, t3⟩ := contWindow_line (fv := (freeVal s).toNat) (iA := i.1) (iB := i.2) h1
      have hr := contRatio_known (fv := (freeVal s).toNat) hi
      refine ⟨fun hlt => ?_, fun hle => ?_⟩
      · have hfail : (contRatio (freeVal s).toNat i.1 i.2).1 = true := hr.trans (decide_eq_true hlt)
        rw [hfail] at t1 t3
        exact ⟨t1, t3⟩
      · have hfail : (contRatio (freeVal s).toNat i.1 i.2).1 = false := hr.trans (decide_eq_false (Nat.not_lt.mpr hle))
        rw [hfail] at t1 t2
        exact ⟨t1, t2⟩
  case start =>
    have hd := sweepStart_does (b := b) hs hc
    intro l
    refine ⟨fun hw hr => ?_, fun h => does_congr hd (sweepStart_waits h)⟩
    intro d
    have hd12 : d = 1 ∨ d = 2 := by
      by_cases h : l.lmode = 3 ∧ supDir (supNow s b) = 2
      · exact .inr (if_pos h)
      · exact .inl (if_neg h)
    exact ⟨_, does_congr hd (sweepStart_starts hw hr rfl), sweepFrom_lmu d, fun hl => sweepFrom_loop hl hd12,
      fun hl => sweepFrom_radial hl⟩
  case sweep =>
    have hd := sweepEnd_does (b := b) m hs hr
    intro l ready ps bands kept took
    refine ⟨fun h hb => ?_, fun h hb => ⟨_, does_congr hd ((sweepEnd_ready h).trans (if_pos hb)), handBegins_ends took⟩,
      fun h => does_congr hd (sweepEnd_early h)⟩
    exact does_congr hd ((sweepEnd_ready h).trans (if_neg (Bool.eq_false_iff.mp hb)))
  case earth =>
    intro e p n d low high hd
    obtain ⟨t1, t2, t3, t4, t5⟩ := earthEnd_continuous hr hm hd
    have hb : (decide low || (decide (16384 < p + n) || decide (p + n < -16384))) = decide (low ∨ high) := by
      simp only [high, Bool.decide_or]
    refine ⟨_, earthTestEnd_does m hs, t1, fun hl hh => ?_, fun hlh => ?_⟩
    · have hfail : ¬ (decide low || (decide (16384 < p + n) || decide (p + n < -16384))) = true := by
        rw [hb, decide_eq_true_eq]
        exact fun h => h.elim hl hh
      have e1 : (if (decide low || (decide (16384 < p + n) || decide (p + n < -16384))) = true then e.fails + 1 else 0) = 0 :=
        if_neg hfail
      have e2 : (if (decide low || (decide (16384 < p + n) || decide (p + n < -16384))) = true then 0 else e.passes + 1) =
          e.passes + 1 := if_neg hfail
      exact ⟨t2.trans e1, t3.trans e2, fun h => t5 (by rw [e1]; decide) (by rw [e2]; exact h)⟩
    · have hfail : (decide low || (decide (16384 < p + n) || decide (p + n < -16384))) = true := by
        rw [hb]
        exact decide_eq_true hlh
      have e1 : (if (decide low || (decide (16384 < p + n) || decide (p + n < -16384))) = true then e.fails + 1 else 0) =
          e.fails + 1 := if_pos hfail
      have e2 : (if (decide low || (decide (16384 < p + n) || decide (p + n < -16384))) = true then 0 else e.passes + 1) = 0 :=
        if_pos hfail
      exact ⟨t3.trans e2, t2.trans e1, fun h => t4 (by rw [e1]; exact h)⟩

end Sys2Proof.Machine

end

section
/-!
PROOFS. O48: the converter die (R180, R234-R252). The clocks of the microphones follow what asks for them.
-/

namespace Sys2Proof.Machine

open Sys2Proof.Safety

/-! The microphones' clocks and supply (R243, R251). -/

theorem updateMic_conv (s : State) : (updateMic s).conv =
    { s.conv with micpwr := micWanted s && !s.conv.privMute && !s.conv.micOff } := rfl

theorem noteFeed_conv (s : State) : (noteFeed s).conv = s.conv := rfl

theorem micsBad_conv (s : State) : (micsBad s).conv =
    { s.conv with filt := vmap s.conv.filt fun i x => if i.val < 8 then x else { x with bad := true, gain := 0 } } := rfl

theorem micsBad_wake (s : State) : (micsBad s).wake = s.wake := rfl

theorem updateClocks_gapNext (s : State) :
    (updateClocks s).wake.gapNext = (s.wake.gapNext || s.conv.pdmFade[(0 : Fin 4)]) := rfl

theorem updateClocks_conv (s : State) : (updateClocks s).conv =
    { s.conv with pdmOn := vmap s.conv.pdmOn fun q _ => pdmMay s q
                  micpwr := micWanted s && !s.conv.privMute && !s.conv.micOff } := rfl

/-- R250: the microphones are off under the privacy mute. -/
def Muted (t : State) : Prop := t.conv.privMute = true ∧ t.conv.muteSeen = true ∧ t.conv.micpwr = false ∧
  (∀ q : Fin 4, t.conv.pdmOn[q] = false) ∧ t.wake.pre = [] ∧ t.wake.privNext = true

theorem updateClocks_muted {u : State} (h1 : u.conv.privMute = true) (h2 : u.conv.muteSeen = true) (h3 : u.wake.pre = [])
    (h4 : u.wake.privNext = true) : Muted (updateClocks u) := by
  refine ⟨h1, h2, ?_, fun q => ?_, h3, ?_⟩
  · rw [updateClocks_conv]
    simp only [h1, Bool.not_true, Bool.and_false, Bool.false_and]
  · rw [updateClocks_conv]
    simp only [vmap_get_fin, pdmMay, h1, Bool.not_true, Bool.and_false, Bool.false_and]
  · change (u.wake.privNext || u.conv.privMute) = true
    rw [h4, Bool.true_or]

theorem applyRate_muted {q : Fin 4} {r : BitVec 2} {u : State} (h : Muted u) : Muted (applyRate q r u) := by
  unfold applyRate
  split
  · exact h
  · obtain ⟨h1, h2, _, _, h3, h4⟩ := h
    extract_lets s1
    have hc : s1.conv.privMute = true ∧ s1.conv.muteSeen = true ∧ s1.wake.pre = [] ∧ s1.wake.privNext = true := by
      simp only [s1, modConv_conv, modConv_wake, h1, h2, h3, h4, and_self]
    clear_value s1
    obtain ⟨c1, c2, c3, c4⟩ := hc
    split <;> exact updateClocks_muted c1 c2 c3 c4

theorem releaseRate_muted {u : State} (h : Muted u) : Muted (releaseRate u) := by
  unfold releaseRate
  split
  · split
    · exact h
    · exact applyRate_muted h
  · exact h

section
variable {s : State} (hs : s.resetHeld = false)
include hs

/-! Gains (R234, R235, R237). -/

theorem gainCommand_does {m : Fin 8} {w : BitVec 24} (hc : controlRuns s = true) (h0 : cslot s ≠ 0) :
    (gainBad s m.val w = true → Does (.gainCommand m w) s (ignoreCore 13 0 s)) ∧
    (gainBad s m.val w = false → bit w 23 = true → Does (.gainCommand m w) s
      { s with conv := { s.conv with gpend := vset s.conv.gpend m (some (w.setWidth 7)) } }) ∧
    (gainBad s m.val w = false → bit w 23 = false → Does (.gainCommand m w) s s) := by
  have hd : Does (.gainCommand m w) s (takeGain m w s) := by
    simp only [Does, exec, execGainCommand, act_eq _ hs, hc, h0, ne_eq, not_false_eq_true, decide_true, Bool.and_self, if_true]
  refine ⟨fun hb => does_congr hd (if_pos hb), fun hb hv => does_congr hd ?_, fun hb hv => does_congr hd ?_⟩
  · exact (if_neg (Bool.eq_false_iff.mp hb)).trans (if_pos hv)
  · exact (if_neg (Bool.eq_false_iff.mp hb)).trans (if_neg (Bool.eq_false_iff.mp hv))

theorem gainApply_does {m : Fin 8} (hd : domOn s 9 = true) : Does (.gainApply m) s (applyGain m s) := by
  simp only [Does, exec, execGainApply, act_eq _ hs, hd, if_true]

theorem inputOverload_does {m : Fin 8} (hd : domOn s 9 = true) (hi : inputOn s m.val = true) :
    Does (.inputOverload m) s
      (raiseLimited 40 m.val m.val none { s with conv := { s.conv with ovl := setBit s.conv.ovl m.val true } }) := by
  simp only [Does, exec, execInputOverload, act_eq _ hs, hd, hi, Bool.and_self, if_true]
  rfl

/-! The jack (R239-R241). -/

theorem jackInsertion_does (hj : s.conv.jdet = false) : Does .jackInsertion s
    (if domOn s 10 then setJack 1 { s with conv := { s.conv with jdet := true, hpDet := detPol s } }
     else { s with conv := { s.conv with jdet := true, hpDet := detPol s } }) := by
  have hd : Does .jackInsertion s (if s.conv.jdet then s else
      let s1 := modConv s fun c => { c with jdet := true, hpDet := detPol s }
      if domOn s 10 then setJack 1 s1 else s1) := by
    simp only [Does, exec, execJackInsertion, act_eq _ hs]
  exact does_congr hd (if_neg (Bool.eq_false_iff.mp hj))

theorem jackRemoval_does (hj : s.conv.jdet = true) : Does .jackRemoval s
    (setJack 0 { s with conv := { s.conv with jdet := false, hpDet := !detPol s } }) := by
  have hd : Does .jackRemoval s
      (if s.conv.jdet then setJack 0 (modConv s fun c => { c with jdet := false, hpDet := !detPol s }) else s) := by
    simp only [Does, exec, execJackRemoval, act_eq _ hs]
  exact does_congr hd (if_pos hj)

theorem jackClassified_does {r1 r2 : Nat} (hj : s.conv.jclass = 1) :
    Does (.jackClassified r1 r2) s (setJack (BitVec.ofNat 3 (min (loadClass r1) (loadClass r2))) s) := by
  simp only [Does, exec, execJackClassified, act_eq _ hs, hj, if_true]

omit hs in
theorem setJack_changes {k : BitVec 3} {u : State} (h : u.conv.jclass ≠ k) (hk : k ≠ 2) :
    setJack k u = raiseEv 41 k.toNat { u with conv := { u.conv with jclass := k } } := by
  rw [setJack, if_neg h]
  exact if_neg hk

omit hs in
theorem setJack_short {u : State} (h : u.conv.jclass ≠ 2) :
    setJack 2 u = raiseEv 42 2 (raiseEv 41 2 { u with conv := { u.conv with jclass := 2 } }) := by
  rw [setJack, if_neg h]
  exact if_pos rfl

/-! The privacy mute (R250-R252). -/

theorem privacyAssert_does (hp : s.conv.privMute = false) :
    ∃ t, DoesWake .privacyAssert s (raiseEv 44 1 t) ∧ Muted t := by
  have hd : DoesWake .privacyAssert s (if s.conv.privMute then s else
      let s1 := micsBad (modConv s fun c => { c with privMute := true, muteSeen := true, clkWait := false })
      let s2 := modWake s1 fun w => { w with pre := [], privNext := true, runs := [false], feed := [] }
      raiseEv 44 1 (releaseRate (updateClocks s2))) := by
    simp only [DoesWake, exec, execPrivacyAssert, actWake, act_eq _ hs]
  exact ⟨_, doesWake_congr hd (if_neg (Bool.eq_false_iff.mp hp)), releaseRate_muted (updateClocks_muted rfl rfl rfl rfl)⟩

theorem privacyAssert_idle (hp : s.conv.privMute = true) : DoesWake .privacyAssert s s := by
  simp only [DoesWake, exec, execPrivacyAssert, actWake, act_eq _ hs, hp, if_true]

theorem privacyRelease_does (hp : s.conv.privMute = true) : ∃ t, DoesWake .privacyRelease s (raiseEv 44 0 t) ∧
    t.conv.privMute = false ∧ t.conv.muteSeen = true ∧ t.conv.micOff = false ∧ t.conv.micpwr = micWanted s ∧
    t.conv.clkWait = true ∧ t.conv.pdmOn = s.conv.pdmOn := by
  have hd : DoesWake .privacyRelease s (if s.conv.privMute then
      raiseEv 44 0 (updateMic (modConv (micsBad s) fun c =>
        { c with privMute := false, micOff := false, muteSeen := true, clkWait := true })) else s) := by
    simp only [DoesWake, exec, execPrivacyRelease, actWake, act_eq _ hs]
  refine ⟨_, doesWake_congr hd (if_pos hp), ?_⟩
  simp only [updateMic_conv, modConv_conv, modConv_wake, micsBad_conv, micsBad_wake, micWanted, Bool.not_false, Bool.and_true, and_self]

theorem pdmClockRestart_does (hc : s.conv.clkWait = true) (hp : s.conv.privMute = false) : ∃ t, Does .pdmClockRestart s t ∧
    t.wake.gapNext = true ∧ ∀ q : Fin 4, t.conv.pdmOn[q] = (pdmWanted s q && decide (s.conv.pdmRate[q] ≠ 0)) := by
  have hd : Does .pdmClockRestart s (if s.conv.clkWait && !s.conv.privMute then
      let s1 := modConv s fun c => { c with clkWait := false, pdmFade := vmap c.pdmFade fun q _ => pdmWanted s q }
      updateClocks (modWake s1 fun w => { w with gapNext := true }) else s) := by
    simp only [Does, exec, execPdmClockRestart, act_eq _ hs]
  have hwait : (s.conv.clkWait && !s.conv.privMute) = true := by rw [hc, hp]; rfl
  refine ⟨_, does_congr hd (if_pos hwait), ?_, fun q => ?_⟩
  · rw [updateClocks_gapNext]
    exact Bool.true_or _
  have hq : pdmMay (modWake (modConv s fun c => { c with clkWait := false, pdmFade := vmap c.pdmFade fun q _ => pdmWanted s q })
      fun w => { w with gapNext := true }) q =
      (pdmWanted s q && !s.conv.privMute && !false && decide (s.conv.pdmRate[q] ≠ 0)) := rfl
  rw [updateClocks_conv]
  simp only [vmap_get_fin]
  rw [hq, hp, Bool.not_false, Bool.and_true, Bool.and_true]

/-! MICPWR, the quiet charge and rate changes (R180, R242, R243). -/

theorem micpwrOvercurrent_does (hm : s.conv.micpwr = true) : ∃ t, Does .micpwrOvercurrent s (raiseEv 43 0 t) ∧
    t.conv.micpwr = false ∧ t.conv.micOff = true ∧ t.conv.micFlt = true ∧ t.wake.mpfNext = true ∧
    t.conv.pdmOn = s.conv.pdmOn ∧
    ∀ i : Fin 16, 8 ≤ i.val → (t.conv.filt[i]).gain = 0 ∧ (t.conv.filt[i]).bad = true := by
  have hd : Does .micpwrOvercurrent s (if s.conv.micpwr then
      raiseEv 43 0 (noteFeed (modConv (micsBad s) fun c => { c with micpwr := false, micOff := true, micFlt := true })) else s) := by
    simp only [Does, exec, execMicpwrOvercurrent, act_eq _ hs]
  refine ⟨_, does_congr hd (if_pos hm), ?_⟩
  have hmpf : (noteFeed (modConv (micsBad s) fun c => { c with micpwr := false, micOff := true, micFlt := true })).wake.mpfNext =
      (s.wake.mpfNext || true) := rfl
  simp only [noteFeed_conv, modConv_conv, micsBad_conv, hmpf, Bool.or_true, true_and]
  intro i hi
  rw [vmap_get_fin, if_neg (Nat.not_lt.mpr hi)]
  exact ⟨rfl, rfl⟩

theorem micpwrRetry_does (hm : s.conv.micOff = true) : ∃ t, Does .micpwrRetry s t ∧ t.conv.micOff = false ∧
    t.conv.micpwr = (micWanted s && !s.conv.privMute) := by
  have hd : Does .micpwrRetry s
      (if s.conv.micOff then updateMic (modConv (micsBad s) fun c => { c with micOff := false }) else s) := by
    simp only [Does, exec, execMicpwrRetry, act_eq _ hs]
  refine ⟨_, does_congr hd (if_pos hm), ?_⟩
  simp only [updateMic_conv, modConv_conv, modConv_wake, micsBad_conv, micsBad_wake, micWanted, Bool.not_false, Bool.and_true, and_self]

theorem quietChargeDone_does (up : Bool) : Does (.quietChargeDone up) s { s with conv := chargeDone up s.conv } := by
  simp only [Does, exec, execQuietChargeDone, act_eq _ hs]
  rfl

theorem pdmRateChangeEnd_does (q : Fin 4) : ∃ t, Does (.pdmRateChangeEnd q) s t ∧
    t.conv = { s.conv with pdmFade := vset s.conv.pdmFade q false } := by
  refine ⟨noteFeed (modConv s fun c => { c with pdmFade := vset c.pdmFade q false }), ?_, rfl⟩
  simp only [Does, exec, execPdmRateChangeEnd, act_eq _ hs]
end

/-- Settles O48: each row by its own lemma. -/
theorem converterRows : Obligations.ConverterRows := by
  intro s hs put c
  refine ⟨fun m w hc h0 => gainCommand_does hs hc h0, fun m hd => ⟨fun g hg => ?_, fun hg => ?_⟩,
    fun m hd hi => inputOverload_does hs hd hi, fun hj hd => does_congr (jackInsertion_does hs hj) (if_pos hd),
    fun hj hd => does_congr (jackInsertion_does hs hj) (if_neg (Bool.eq_false_iff.mp hd)), jackRemoval_does hs,
    fun r1 r2 hj => jackClassified_does hs hj, fun k u h hk => setJack_changes h hk, fun u h => setJack_short h, fun hp => ?_,
    privacyAssert_idle hs, privacyRelease_does hs, pdmClockRestart_does hs, micpwrOvercurrent_does hs, micpwrRetry_does hs,
    fun hv => does_congr (quietChargeDone_does hs true) ?_, fun hv => does_congr (quietChargeDone_does hs false) ?_,
    pdmRateChangeEnd_does hs, fun r => rfl⟩
  · refine does_congr (gainApply_does hs hd) ?_
    have hg' : s.conv.gpend[m] = some g := hg
    simp only [applyGain, hg']
    rfl
  · refine does_congr (gainApply_does hs hd) ?_
    have hg' : s.conv.gpend[m] = none := hg
    simp only [applyGain, hg']
  · obtain ⟨t, ht, h⟩ := privacyAssert_does hs hp
    exact ⟨t, ht, h⟩
  · have hv' : s.conv.vo = .up2 := hv
    simp only [chargeDone, hv', decide_true, Bool.and_self, if_true]
    rfl
  · have hv' : s.conv.vo = .down1 := hv
    simp only [chargeDone, hv', decide_true, Bool.and_self, if_true, Bool.false_and, Bool.false_eq_true, if_false, Bool.not_false]
    rfl

end Sys2Proof.Machine

end

section
/-!
PROOFS. O49: acoustic wake: the block strobe, the candidate limit, captures, and DET (R273-R284, R422).
-/

namespace Sys2Proof.Machine

open Sys2Proof.Safety

/-! The ring of blocks and the memory of WE through a strobe. -/

/-- The block number, the marks and the X memory of WE are kept. -/
def KeepsRing (s t : State) : Prop := t.wake.b = s.wake.b ∧ t.wake.marks = s.wake.marks ∧ t.wake.we.x = s.wake.we.x

theorem keepsRing_refl (s : State) : KeepsRing s s := ⟨rfl, rfl, rfl⟩

theorem keepsRing_trans {s t u : State} (h1 : KeepsRing s t) (h2 : KeepsRing t u) : KeepsRing s u :=
  ⟨h2.1.trans h1.1, h2.2.1.trans h1.2.1, h2.2.2.trans h1.2.2⟩

theorem updateClocks_ring (s : State) : KeepsRing s (updateClocks s) := ⟨rfl, rfl, rfl⟩

theorem applyRate_ring (q : Fin 4) (r : BitVec 2) (s : State) : KeepsRing s (applyRate q r s) := by
  unfold applyRate
  split
  · exact keepsRing_refl s
  · extract_lets s1
    have h1 : KeepsRing s s1 := ⟨rfl, rfl, rfl⟩
    refine keepsRing_trans h1 ?_
    clear_value s1
    split
    · exact ⟨rfl, rfl, rfl⟩
    · exact updateClocks_ring s1

theorem releaseRate_ring (s : State) : KeepsRing s (releaseRate s) := by
  unfold releaseRate
  split
  · split
    · exact keepsRing_refl s
    · exact keepsRing_trans (t := modConv s fun c => { c with pend0 := none }) ⟨rfl, rfl, rfl⟩ (applyRate_ring _ _ _)
  · exact keepsRing_refl s

theorem candTimeout_ring (s : State) : KeepsRing s (candTimeout s) := by
  unfold candTimeout
  extract_lets s1
  have h1 : KeepsRing s s1 := ⟨rfl, rfl, rfl⟩
  refine keepsRing_trans h1 (keepsRing_trans ?_ (releaseRate_ring _))
  clear_value s1
  split <;> exact ⟨rfl, rfl, rfl⟩

theorem ageCandidate_ring (s : State) : KeepsRing s (ageCandidate s) := by
  unfold ageCandidate
  extract_lets s1
  have h1 : KeepsRing s s1 := ⟨rfl, rfl, rfl⟩
  split
  · exact keepsRing_trans h1 (candTimeout_ring s1)
  · exact h1

theorem endCandidate_ring (s : State) : KeepsRing s (endCandidate s) := by
  unfold endCandidate
  split
  · exact keepsRing_trans (t := modWake s fun w => { w with cand := false, sinceEnd := 0 }) ⟨rfl, rfl, rfl⟩ (releaseRate_ring _)
  · exact keepsRing_refl s

theorem actCand_ring (c : Bool) (s : State) : KeepsRing s (actCand c s) := by
  unfold actCand
  split
  · split <;> exact ⟨rfl, rfl, rfl⟩
  · exact endCandidate_ring s

theorem actReport_ring (r st : Sample) (s : State) : KeepsRing s (actReport r st s) := by
  unfold actReport
  split
  · extract_lets cls
    split
    · exact ⟨rfl, rfl, rfl⟩
    · unfold detect
      extract_lets b q x rec_ s1
      have h1 : KeepsRing s s1 := by
        unfold s1
        split <;> exact ⟨rfl, rfl, rfl⟩
      exact keepsRing_trans h1 ⟨rfl, rfl, rfl⟩
  · exact keepsRing_refl s

/-- The mailbox is read: the memory of WE changes at its own word at most. -/
theorem readMailbox_ring (s : State) : (readMailbox s).wake.b = s.wake.b ∧ (readMailbox s).wake.marks = s.wake.marks ∧
    (mwf 0 s.wake.we.x = true → mwf 0 (readMailbox s).wake.we.x = true) := by
  have hreport : KeepsRing s (actReport (weX s 0xFF0) (weX s 0xFF2) s) := actReport_ring _ _ s
  have hover (t : State) (h : KeepsRing s t) : (raiseLimited 16 25 25 none t).wake.b = s.wake.b ∧
      (raiseLimited 16 25 25 none t).wake.marks = s.wake.marks ∧
      (mwf 0 s.wake.we.x = true → mwf 0 (raiseLimited 16 25 25 none t).wake.we.x = true) := by
    have hw : (raiseLimited 16 25 25 none t).wake = t.wake := (raiseLimited_frame 16 25 25 none t).2.2.2.2 .wake (by simp)
    rw [hw, h.1, h.2.1, h.2.2]
    exact ⟨rfl, rfl, id⟩
  unfold readMailbox
  extract_lets x c s1
  split
  · split
    · obtain ⟨a1, a2, a3⟩ := actCand_ring c (weXSet 0xFF0 0 s1)
      refine ⟨a1.trans hreport.1, a2.trans hreport.2.1, fun hm => ?_⟩
      rw [a3]
      exact mset_mwf _ _ _ (by rw [hreport.2.2]; exact hm)
    · exact hover _ ⟨rfl, rfl, rfl⟩
  · exact ⟨rfl, rfl, id⟩

/-- R274, R275: a block is stored with its marks. -/
theorem storeBlock_ring (xs : List (BitVec 16 × BitVec 16)) (s : State) :
    (storeBlock xs s).wake.b = s.wake.b + 1 ∧
    (storeBlock xs s).wake.marks = mset 0 s.wake.marks (s.wake.b.toNat % 2048) (blockMarks s) ∧
    (storeBlock xs s).wake.we.x = s.wake.we.x := ⟨rfl, rfl, rfl⟩

theorem releaseWe_ring (s : State) : KeepsRing s (releaseWe s) := by
  unfold releaseWe KeepsRing
  rw [modWake_wake]
  split
  · exact ⟨rfl, rfl, rfl⟩
  · split <;> exact ⟨rfl, rfl, rfl⟩

section
variable {s : State}

theorem wakeStrobe_idle (xs : List (BitVec 16 × BitVec 16)) (h : s.wake.loaded = false) :
    wakeStrobe xs s = noteFeed (modWake s fun w =>
      { w with b := w.b + 1, privNext := false, gapNext := false, mpfNext := false, runs := [], feed := [] }) :=
  if_neg (Bool.eq_false_iff.mp h)

theorem wakeStrobe_loaded (xs : List (BitVec 16 × BitVec 16)) (h : s.wake.loaded = true) :
    wakeStrobe xs s = releaseWe (let u := readMailbox (ageCandidate (storeBlock xs s))
                                 weXSet 0xFFF (BitVec.ofNat 24 (newestBlock u)) (weXSet 0xFFE (wstat u) u)) :=
  if_pos h

/-- What a strobe with a wake program loaded leaves of the ring. -/
theorem wakeStrobe_ring (xs : List (BitVec 16 × BitVec 16)) (h : s.wake.loaded = true) :
    (wakeStrobe xs s).wake.b = s.wake.b + 1 ∧
    (mwf 0 s.wake.marks = true → mget 0 (wakeStrobe xs s).wake.marks (s.wake.b.toNat % 2048) = blockMarks s) ∧
    (mwf 0 s.wake.we.x = true → (weX (wakeStrobe xs s) 0xFFF).toNat = s.wake.b.toNat) := by
  obtain ⟨b1, m1, x1⟩ := storeBlock_ring xs s
  obtain ⟨b2, m2, x2⟩ := ageCandidate_ring (storeBlock xs s)
  obtain ⟨b3, m3, x3⟩ := readMailbox_ring (ageCandidate (storeBlock xs s))
  rw [wakeStrobe_loaded xs h]
  extract_lets u
  obtain ⟨b4, m4, x4⟩ := releaseWe_ring (weXSet 0xFFF (BitVec.ofNat 24 (newestBlock u)) (weXSet 0xFFE (wstat u) u))
  have hb : u.wake.b = s.wake.b + 1 := b3.trans (b2.trans b1)
  refine ⟨b4.trans hb, fun hm => ?_, fun hm => ?_⟩
  · rw [m4]
    change mget 0 u.wake.marks _ = _
    rw [m3, m2, m1]
    exact (mem_law 0 s.wake.marks _ 0 _ hm).1
  · have hu : mwf 0 u.wake.we.x = true := x3 (by rw [x2, x1]; exact hm)
    have hn : newestBlock u = s.wake.b.toNat := by
      rw [newestBlock, hb, BitVec.add_sub_cancel]
    rw [weX, x4]
    change (mget 0 (mset 0 (mset 0 u.wake.we.x 0xFFE (wstat u)) 0xFFF (BitVec.ofNat 24 (newestBlock u))) 0xFFF).toNat = _
    rw [(mem_law 0 _ _ 0 _ (mset_mwf 0 0xFFE (wstat u) hu)).1, hn, BitVec.toNat_ofNat]
    exact Nat.mod_eq_of_lt s.wake.b.isLt

/-! The limit of a candidate (R277). -/

theorem candidateTimeout_does (hs : s.resetHeld = false) : Does .candidateTimeout s
    (if s.wake.cand && s.wake.candAge < 1500 then candTimeout s else s) := by
  simp only [Does, exec, execCandidateTimeout, act_eq _ hs]

/-- A candidate past its limit is told and holds nothing back. -/
def Told (t : State) : Prop := t.wake.cto = true ∧ t.wake.cand = true ∧ 1500 ≤ t.wake.candAge

theorem candDefers_told {t : State} (h : Told t) : candDefers t = false := by
  simp only [candDefers, Nat.not_lt.mpr h.2.2, decide_false, Bool.and_false, Bool.false_and]

theorem applyRate_told {q : Fin 4} {r : BitVec 2} {t : State} (h : Told t) :
    Told (applyRate q r t) ∧ (applyRate q r t).conv.pend0 = t.conv.pend0 := by
  unfold applyRate
  split
  · exact ⟨h, rfl⟩
  · extract_lets s1
    have h1 : s1.wake = t.wake ∧ s1.conv.pend0 = t.conv.pend0 := by
      simp only [s1, modConv_wake, modConv_conv, and_self]
    clear_value s1
    obtain ⟨hw, hp⟩ := h1
    rw [← hp]
    have h : Told s1 := by unfold Told; rw [hw]; exact h
    split
    · exact ⟨h, rfl⟩
    · exact ⟨h, rfl⟩

theorem releaseRate_told {t : State} (h : Told t) : Told (releaseRate t) ∧ (releaseRate t).conv.pend0 = none := by
  unfold releaseRate
  split
  next r _ =>
    rw [if_neg (by rw [candDefers_told h]; exact Bool.false_ne_true)]
    obtain ⟨h1, h2⟩ := applyRate_told (q := 0) (r := r) (t := modConv t fun c => { c with pend0 := none }) h
    exact ⟨h1, h2.trans rfl⟩
  next hp => exact ⟨h, hp⟩

theorem candTimeout_told (hc : s.wake.cand = true) (hp : s.conv.privMute = false) :
    Told (candTimeout s) ∧ (candTimeout s).conv.pend0 = none := by
  unfold candTimeout
  extract_lets s1
  rw [if_pos (by simp [hc, hp])]
  refine releaseRate_told ⟨rfl, hc, ?_⟩
  exact Nat.le_max_right _ _

/-! Captures and DET (R280, R282, R422). -/

theorem captureDone_wake (h : s.wake.capBusy = true) :
    (captureDone s).wake = { s.wake with capBusy := false, capDone := true } := by
  rw [captureDone, if_pos h]
  rfl

theorem captureDone_idle (h : s.wake.capBusy = false) : captureDone s = s := if_neg (Bool.eq_false_iff.mp h)

/-- The row's commit of WAKE_CTRL sets its bit. -/
theorem captureBit (v : Word) : bit ((v ||| 1) &&& (rwMask .wakeCtrl ||| actMask .wakeCtrl)) 0 = true := by
  rw [bit_covered _ (by decide)]
  change (v ||| 1#32).getLsbD 0 = true
  rw [BitVec.getLsbD_or]
  exact Bool.or_true _

theorem commit_capture {q : PortId} (v : Word) (h : captureBad s = none) :
    commitReg ⟨q, .a⟩ 3 0x7B (v ||| 1) s = startCapture s := by
  rw [commitReg_hostA (r := .wakeCtrl) _ rfl rfl rfl rfl rfl ((if_pos (captureBit v)).trans h)]
  exact if_pos (captureBit v)

theorem commit_capture_refused {q : PortId} (v : Word) {reason : Nat} (h : captureBad s = some reason) :
    commitReg ⟨q, .a⟩ 3 0x7B (v ||| 1) s = ignoreReg ⟨q, .a⟩ reason 3 0x7B s :=
  commitReg_hostA_refused (r := .wakeCtrl) _ rfl rfl rfl rfl rfl ((if_pos (captureBit v)).trans h)

theorem captureBad_cases : (s.ret.lc ≠ 3 ∨ s.conv.permit = 0 → captureBad s = some 4) ∧
    (s.ret.lc = 3 → s.conv.permit ≠ 0 →
      (s.wake.capBusy = true → captureBad s = some 14) ∧
      (s.wake.capBusy = false → s.conv.privMute = true → captureBad s = some 15) ∧
      (s.wake.capBusy = false → s.conv.privMute = false → captureBad s = none)) := by
  refine ⟨fun h => if_pos (by simpa using h), fun h1 h2 => ?_⟩
  have h4 : captureBad s = if s.wake.capBusy then some 14 else if s.conv.privMute then some 15 else none :=
    if_neg (by simpa [h1] using h2)
  rw [h4]
  refine ⟨fun h => if_pos h, fun h h' => ?_, fun h h' => ?_⟩ <;> rw [h, h'] <;> rfl

theorem commit_detAck {q : PortId} (v : Word) : ∃ t, commitReg ⟨q, .a⟩ 3 0x67 (v ||| 0x20) s = t ∧
    t.wake.det = false ∧ t.wake.dcount = 0 ∧ t.wake.wrec = s.wake.wrec := by
  have hb : bit ((v ||| 0x20) &&& (rwMask .wakeStatus ||| actMask .wakeStatus)) 5 = true := by
    rw [bit_covered _ (by decide)]
    change (v ||| 0x20#32).getLsbD 5 = true
    rw [BitVec.getLsbD_or]
    exact Bool.or_true _
  refine ⟨_, commitReg_hostA (r := .wakeStatus) _ rfl rfl rfl rfl rfl rfl, ?_⟩
  simp only [regEffect, wakeStatusCommit, modWake_wake, clrBit, hb, Bool.not_true, Bool.and_false, if_true, and_self]

theorem actReport_discards {r st : Sample} (h : bit r 23 = true) (hd : 4 ≤ fld r 16 4 ∨ bit s.wake.word (2 + fld r 16 4) = false) :
    actReport r st s = { s with wake := { s.wake with disc := sat8 s.wake.disc } } := by
  simp only [actReport, h, if_true]
  exact if_pos (by simpa using hd)

theorem actReport_detects {r st : Sample} (h : bit r 23 = true) (hc : fld r 16 4 < 4)
    (hm : bit s.wake.word (2 + fld r 16 4) = true) : actReport r st s = detect (fld r 16 4) (fld r 8 8) st.toNat s := by
  simp only [actReport, h, if_true]
  exact if_neg (by simp [Nat.not_le.mpr hc, hm])
end

/-- Settles O49: each row by its own lemma. -/
theorem wakeRows : Obligations.WakeRows := by
  intro s hs
  have strobe (xs : List (BitVec 16 × BitVec 16)) : DoesWake (.wakeBlockStrobe xs) s (wakeStrobe xs s) := by
    simp only [DoesWake, exec, execWakeBlockStrobe, actWake, act_eq _ hs]
  have done : Does .captureDone s (captureDone s) := by
    simp only [Does, exec, execCaptureDone, act_eq _ hs]
  refine ⟨fun xs => ⟨fun h => ⟨_, doesWake_congr (strobe xs) (wakeStrobe_idle xs h), rfl, rfl, rfl, rfl⟩, fun h => ?_⟩,
    fun hc ha hp => ?_, fun hc => does_congr (candidateTimeout_does hs) (if_neg (by simp [hc])),
    fun h => ⟨_, done, captureDone_wake h⟩, fun h => does_congr done (captureDone_idle h), ?rows,
    fun r st h => ⟨actReport_discards h, actReport_detects h⟩⟩
  case rows =>
    intro q v pv hv
    have row {c : Instr} {off : Nat} {w : Word} {t : State} (hc : exec c s = hostAct pv s (commitRow pv 3 off w))
        (ht : commitReg pv 3 (off + 3) w s = t) : DoesWake c s t := by
      rw [DoesWake, hc, hostAct_open _ hs hv, commitRow, ht]
    obtain ⟨b4, b⟩ := captureBad_cases (s := s)
    refine ⟨fun h1 h2 h3 h4 => row rfl ((commit_capture v ((b h1 h2).2.2 h3 h4)).trans rfl),
      fun h => row rfl (commit_capture_refused v (b4 h)), fun h1 h2 h3 => row rfl (commit_capture_refused v ((b h1 h2).1 h3)),
      fun h1 h2 h3 h4 => row rfl (commit_capture_refused v ((b h1 h2).2.1 h3 h4)), ?_⟩
    obtain ⟨t, ht, h⟩ := commit_detAck (s := s) (q := q) v
    exact ⟨t, row rfl ht, h⟩
  · obtain ⟨h1, h2, h3⟩ := wakeStrobe_ring xs h
    exact ⟨_, strobe xs, h1, h2, h3, wakeStrobe_loaded xs h⟩
  · obtain ⟨h1, h2⟩ := candTimeout_told hc hp
    exact ⟨_, does_congr (candidateTimeout_does hs) (if_pos (by simp [hc, ha])), h1.1, h1.2.1, candDefers_told h1, h2⟩

end Sys2Proof.Machine

end

section
/-!
PROOFS. O50: the entry handshake (R311-R315, R321, R323): what stops and restarts the blocks keeps the entry.
-/

namespace Sys2Proof.Machine

open Sys2Proof.Safety

/-! A change of the power domains reaches the power manager at its domain bits alone. -/

theorem domUp_pm (k : Nat) (s : State) : (domUp k s).pm = { s.pm with on := setBit s.pm.on k true } := by
  have h : (domUp k s).pm = (setDom k true s).pm := by
    refine rest_pm (ps := [.clk, .dies, .bridges, .conv, .sadc, .wake]) ?_ (by simp)
    unfold domUp
    generalize setDom k true s = t
    split
    · simp
    split
    · simp
    split
    · simp
    split
    · simp
    · rfl
  exact h

theorem capturePads_entry (d : Fin 4) (s : State) : (capturePads d s).pm.entry = s.pm.entry := by
  unfold capturePads
  extract_lets one
  split <;> rfl

theorem domDown_entry (k : Nat) (s : State) : (domDown k s).pm.entry = s.pm.entry := by
  unfold domDown
  extract_lets f t
  have hf : (f s).pm.entry = s.pm.entry := by
    unfold f
    split
    · exact congrArg Pm.entry (rest_pm (ps := [.conv, .wake]) (by simp) (by simp))
    split
    · exact congrArg Pm.entry (rest_pm (ps := [.conv, .wake]) (by simp) (by simp))
    split
    · exact congrArg Pm.entry (rest_pm (ps := [.core, .sadc, .clk]) (by simp) (by simp))
    split
    next h =>
      have hd : (dieDown ⟨k - 12, by omega⟩ (capturePads ⟨k - 12, by omega⟩ s)).pm = (capturePads ⟨k - 12, by omega⟩ s).pm :=
        rest_pm (ps := [.dies, .bridges]) (by simp) (by simp)
      exact (congrArg Pm.entry hd).trans (capturePads_entry _ s)
    · rfl
  have ht : t.pm.entry = s.pm.entry := hf
  split
  · exact (congrArg Pm.entry (rest_pm (ps := [.conv, .wake]) (by simp) (by simp))).trans ht
  · exact ht

theorem sideOff_entry (x : Side) (s : State) : (sideOff x s).pm.entry = s.pm.entry := rfl

theorem standbyDown_entry (s : State) : (standbyDown s).pm.entry = s.pm.entry := by
  have h : (dropTake s).pm = s.pm := rest_pm (ps := [.arb]) (by simp) (by simp)
  exact (sideOff_entry _ _).trans (congrArg Pm.entry h)

theorem abandonSide_entry (s : State) : (abandonSide s).pm.entry = s.pm.entry := by
  unfold abandonSide
  split
  · split <;> rfl
  · rfl

theorem coreRetains_entry (s : State) : (coreRetains s).pm.entry = s.pm.entry := by
  have h : (noCopies (portPStops s)).pm = s.pm := rest_pm (ps := [.arb, .mirror, .ports]) (by simp) (by simp)
  have hc : (coreRetains s).pm.entry = (noCopies (portPStops s)).pm.entry := rfl
  rw [hc, h]

/-- R311: a block that stops keeps the entry. -/
theorem blockStops_entry (b : Nat) (target : BitVec 2) (s : State) : (blockStops b target s).pm.entry = s.pm.entry := by
  unfold blockStops
  split
  · rfl
  split
  · exact (standbyDown_entry _).trans (abandonSide_entry s)
  split
  · rfl
  split
  · exact domDown_entry _ _
  split
  · exact domDown_entry _ _
  split
  · exact domDown_entry _ _
  split
  · exact domDown_entry _ _
  split
  · rfl
  split
  · exact coreRetains_entry s
  · rfl

/-- R311, R315: the next block is asked, or the window begins. -/
theorem nextBlock_entry {e : Entry2} {u : State} (h : u.pm.entry = some e) (hw : e.window = false) :
    ∃ e', (nextBlock e u).pm.entry = some e' ∧ e'.from_ = e.from_ ∧ e'.target = e.target ∧ e'.stopped = e.block :: e.stopped ∧
      e'.waiting = false ∧
      (∀ b bs, (entryBlocks u e.target).filter (e.block < ·) = b :: bs → e'.block = b ∧ e'.delays = 0 ∧ e'.window = false) ∧
      ((entryBlocks u e.target).filter (e.block < ·) = [] → e'.window = true) := by
  have hpm : (nextBlock e u).pm.entry = (u.pm.entry.map fun e' =>
      match (entryBlocks u e.target).filter (e.block < ·) with
      | b :: _ => { e' with block := b, delays := 0, waiting := false, stopped := e'.block :: e'.stopped }
      | [] => { e' with window := true, waiting := false, stopped := e'.block :: e'.stopped }) := rfl
  rw [hpm, h]
  cases hb : (entryBlocks u e.target).filter (e.block < ·) with
  | nil => exact ⟨_, rfl, rfl, rfl, rfl, rfl, fun b bs hc => (nomatch hc), fun _ => rfl⟩
  | cons b bs =>
    refine ⟨_, rfl, rfl, rfl, rfl, rfl, fun c cs hc => ?_, fun hc => (nomatch hc)⟩
    exact ⟨(List.cons.inj hc).1, rfl, hw⟩

/-- R311, R312: a block that delays. -/
theorem blockDelays_pm (b : Nat) (s : State) :
    (blockDelays b s).pm = { s.pm with tdmHalt := s.pm.tdmHalt || decide (b = 2) } := by
  unfold blockDelays
  split
  next h => simp [h]
  split
  next h => simp [h, tdmHalt]
  next h2 =>
    simp only [h2, decide_false, Bool.or_false]
    split
    · split
      · exact rest_pm (ps := [.bridges, .lmu, .hosts, .free]) (by simp) (by simp)
      · rfl
    · split <;> rfl

/-! The abort (R313, R314). -/

theorem blockResumes_pm (e : Entry2) (s : State) :
    (blockResumes e s).pm = { s.pm with tdmHalt := s.pm.tdmHalt && decide (e.block ≠ 2) } := by
  unfold blockResumes
  split
  next h => simp [h, tdmHalt]
  next h =>
    split <;> simp [h]

theorem blockResumes_nightAsk (e : Entry2) (s : State) : (blockResumes e s).wake = s.wake := by
  unfold blockResumes
  split
  · rfl
  · split <;> rfl

/-- The state in which the rollback of an aborted entry begins. -/
def rollsBack (e : Entry2) (r : Rollback) (s : State) : State :=
  blockResumes e { s with pm := { s.pm with entry := none, back := some r }
                          wake := { s.wake with nightAsk := false }
                          lmu := { s.lmu with pend := false } }

theorem rollsBack_pm (e : Entry2) (r : Rollback) (s : State) :
    (rollsBack e r s).pm = { s.pm with entry := none, back := some r, tdmHalt := s.pm.tdmHalt && decide (e.block ≠ 2) } :=
  blockResumes_pm _ _

theorem rollsBack_arb (e : Entry2) (r : Rollback) (s : State) : (rollsBack e r s).arb = s.arb := by
  unfold rollsBack blockResumes
  split
  · rfl
  · split <;> rfl

theorem abortEntry_rollsBack {e : Entry2} {b r : Nat} {s : State} (h : s.pm.entry = some e) :
    abortEntry b r [] s = backNext (rollsBack e
      { block := b, reason := r, from_ := e.from_, target := e.target, todo := e.stopped } s) := by
  have ht : (e.stopped.filter fun b => !([] : List Nat).contains b) = e.stopped :=
    List.filter_eq_self.mpr fun _ _ => rfl
  rw [abortEntry, h]
  simp only
  rw [ht]
  rfl

theorem backNext_runs {s : State} {r : Rollback} (hb : s.pm.back = some r) (hr : s.pm.repeat_ = false)
    (hd : s.pm.dawn.any (fun d => d.kind != .side || !r.todo.isEmpty) = false) : backNext s = backRun r r.todo s := by
  rw [backNext, hb]
  simp only [hr, hd, Bool.or_self, Bool.false_eq_true, if_false]

theorem sideDawn_any {s : State} {bs : List Nat} (hd : ∀ d, s.pm.dawn = some d → d.kind = .side) (hb : bs = []) :
    s.pm.dawn.any (fun d => d.kind != .side || !bs.isEmpty) = false := by
  cases h : s.pm.dawn with
  | none => rfl
  | some d => simp [hd d h, hb]

/-- R313: an entry at whose abort nothing stands stopped. -/
theorem abortEntry_unstopped {e : Entry2} {b r : Nat} {s : State} (h : s.pm.entry = some e) (hs : e.stopped = [])
    (hr : s.pm.repeat_ = false) (hd : ∀ d, s.pm.dawn = some d → d.kind = .side) : ∃ t,
    abortEntry b r [] s = raiseDusk (raiseEv 6 (b + 16 * r) t) ∧ t.wake.nightAsk = false ∧
    t.pm = { s.pm with entry := none, back := none, req := none, wdogSince := false, abBlock := BitVec.ofNat 4 b
                       abReason := BitVec.ofNat 4 r, abFrom := e.from_, abTarget := e.target, aborts := sat8 s.pm.aborts
                       tdmHalt := s.pm.tdmHalt && decide (e.block ≠ 2) } := by
  have hp := rollsBack_pm e { block := b, reason := r, from_ := e.from_, target := e.target, todo := e.stopped } s
  have hw : (rollsBack e { block := b, reason := r, from_ := e.from_, target := e.target, todo := e.stopped } s).wake.nightAsk =
    false := congrArg Wake.nightAsk (blockResumes_nightAsk e _)
  rw [abortEntry_rollsBack h]
  generalize rollsBack e _ s = u at hp hw ⊢
  have hb := backNext_runs (s := u) (by rw [hp]) (by rw [hp]; exact hr)
    (sideDawn_any (by rw [hp]; exact hd) hs)
  rw [hb, hs]
  refine ⟨_, rfl, hw, ?_⟩
  simp only [modPm, hp]

theorem raiseDusk_day {s : State} (h : s.pm.st = 0) : raiseDusk s = s := by
  simp [raiseDusk, h]

/-! A step of the wake table begins (R317). -/

/-- The domain bits after a list of domains is switched. -/
def onSet (ks : List Nat) (v : Bool) (w : BitVec 16) : BitVec 16 := ks.foldl (fun w k => setBit w k v) w

theorem setDoms_eq (ks : List Nat) (v : Bool) (s : State) :
    setDoms ks v s = modPm s fun p => { p with on := onSet ks v p.on } := by
  unfold setDoms onSet
  induction ks generalizing s with
  | nil => rfl
  | cons k ks ih => exact ih _

/-- The DAWN as its step n begins: step 2 takes the side whose feed is available. -/
def entered (n : Nat) (d : Dawn) (s : State) : Dawn :=
  { d with side := if n = 2 && d.kind == .full && d.other.isNone && !s.feeds[sideIx d.side].ok && s.feeds[sideIx (other d.side)].ok
             then other d.side else d.side
           step := n, retried := false, off := false }

theorem stepDoms_congr {s t : State} (d : Dawn) {n : Nat} (h : n ≠ 7 ∧ n ≠ 8) : stepDoms s d n = stepDoms t d n := by
  unfold stepDoms
  split
  · rfl
  · rfl
  · rfl
  · rfl
  · exact absurd rfl h.1
  · exact absurd rfl h.2
  · rfl

theorem enterStep_pm {n : Nat} {d : Dawn} {s : State} (h : s.pm.dawn = some d) :
    (enterStep n s).pm = { s.pm with dawn := some (entered n d s)
                                     on := if n = 7 || n = 8 then s.pm.on
                                           else onSet (stepDoms s (entered n d s) n) true s.pm.on } := by
  unfold enterStep
  split
  next hn => rw [h] at hn; nomatch hn
  next d' hd' =>
  obtain rfl : d = d' := Option.some.inj (h.symm.trans hd')
  extract_lets x e s0 s1
  have h0 : s0.pm = s.pm := by
    unfold s0
    split <;> rfl
  have h1 : s1.pm = { s0.pm with dawn := some (entered n d s) } := rfl
  rw [h0] at h1
  have he : e = entered n d s := rfl
  cases hn : (n = 7 || n = 8 : Bool) with
  | true => rw [if_pos rfl, if_pos rfl, h1]
  | false =>
    have hn' : n ≠ 7 ∧ n ≠ 8 := by simpa using hn
    rw [if_neg Bool.false_ne_true, if_neg Bool.false_ne_true, setDoms_eq, he, stepDoms_congr (t := s) _ hn']
    exact congrArg (fun p : Pm => { p with on := onSet (stepDoms s (entered n d s) n) true p.on }) h1

theorem stepDoms_back {s t : State} {d : Dawn} (hk : d.kind = .back) (n : Nat) : stepDoms s d n = stepDoms t d n := by
  unfold stepDoms
  simp only [hk]
  rfl

theorem enterStep_arb {n : Nat} {d : Dawn} {s : State} (h : s.pm.dawn = some d) :
    (enterStep n s).arb = s.arb ∨ (enterStep n s).arb = { s.arb with lastCause := 1 } := by
  unfold enterStep
  split
  next hn => rw [h] at hn; nomatch hn
  next d' hd' =>
  obtain rfl : d = d' := Option.some.inj (h.symm.trans hd')
  extract_lets x e s0 s1
  have h0 : s0.arb = s.arb ∨ s0.arb = { s.arb with lastCause := 1 } := by
    unfold s0
    split
    · exact Or.inr rfl
    · exact Or.inl rfl
  split
  · exact h0
  · rw [setDoms_eq]
    exact h0

theorem entered_back {n : Nat} {d : Dawn} {s : State} (hk : d.kind = .back) :
    entered n d s = { d with step := n, retried := false, off := false } := by
  simp [entered, hk]

/-- R313: stopped blocks of one step of the wake table run again by that step. -/
theorem backRun_step {r : Rollback} {b : Nat} {cs : List Nat} {s : State} (hb : stepOfBlock b ≠ 0) :
    let d : Dawn := { kind := .back, side := s.arb.active, step := stepOfBlock b, target := r.from_
                      blocks := b :: cs.filter fun c => stepOfBlock c = stepOfBlock b }
    (stepDoms s d d.step).all (domOn s) = false → ∃ d', d'.kind = .back ∧ d'.step = stepOfBlock b ∧ d'.blocks = d.blocks ∧
      ∃ w, (backRun r (b :: cs) s).pm =
        { s.pm with dawn := some d', on := w, back := some { r with todo := cs.filter fun c => stepOfBlock c ≠ stepOfBlock b } } := by
  intro d hall
  unfold backRun
  extract_lets n rest s1 s2 d2
  have hd2 : d2 = d := rfl
  have hall1 : (stepDoms s1 d2 n).all (domOn s1) = false := hall
  have hrest : rest = cs.filter fun c => stepOfBlock c ≠ stepOfBlock b := if_neg hb
  rw [if_neg hb, hall1, if_neg Bool.false_ne_true]
  have hs : (modPm s1 fun p => { p with dawn := some d2 }).pm.dawn = some d2 := rfl
  have hp := enterStep_pm (n := n) hs
  rw [entered_back rfl] at hp
  refine ⟨{ d with step := stepOfBlock b, retried := false, off := false }, rfl, rfl, rfl, ?_⟩
  rw [← hrest]
  exact ⟨_, hp⟩

/-! NIGHT is reached (R315, R323). -/

theorem modTw_tw (w w' : TwId) (f : TwPort → TwPort) (s : State) :
    (modTw s w f).ports.tw[twIx w'] = if w' = w then f s.ports.tw[twIx w'] else s.ports.tw[twIx w'] := by
  cases w <;> cases w' <;> simp [modTw, vmod, twIx]

theorem windowEnds_night {e : Entry2} {s : State} (h : s.pm.entry = some e) (hw : e.window = true) (ht : e.target = 2) :
    (windowEnds s).pm = { s.pm with st := 2, entry := none, req := none, wdogSince := false, held := true, kaHeld := true } ∧
    (windowEnds s).ports.tw[twIx .h0].phase = .idle ∧ (windowEnds s).ports.tw[twIx .h1].phase = .idle := by
  have hu : windowEnds s = modPm (modTw (modTw (captureKa s) .h0 fun w => { w with phase := .idle }) .h1 fun w =>
      { w with phase := .idle }) fun p => { p with st := 2, entry := none, req := none, wdogSince := false } := by
    rw [windowEnds, h]
    simp only [hw, ht, decide_true, Bool.and_self, if_true]
    rfl
  rw [hu]
  refine ⟨rfl, ?_, ?_⟩
  · simp only [modPm_ports, modTw_tw]
    rfl
  · simp only [modPm_ports, modTw_tw]
    rfl

/-- R316: the wake sources that are set stay as they are. -/
theorem windowEnds_wakeCode (s : State) : wakeCode (windowEnds s) = wakeCode s := by
  have hr : rest [.pm, .pads, .ports] (windowEnds s) = rest [.pm, .pads, .ports] s := by
    unfold windowEnds
    split
    · split
      · simp [List.finRange_succ]
      · rfl
    · rfl
  have hf : (windowEnds s).pm.fret = s.pm.fret := by
    unfold windowEnds
    split
    · split <;> rfl
    · rfl
  have hl : wakeLevel (windowEnds s) = wakeLevel s := by
    funext k
    simp only [wakeLevel, cmpWakes, rest_sadc hr (by simp), rest_wake hr (by simp), rest_conv hr (by simp), rest_feeds hr (by simp),
      rest_time hr (by simp), hf]
  rw [wakeCode, hl]
  rfl

/-! The rows. -/

section
variable {s : State} (hs : s.resetHeld = false)
include hs

theorem handshakeReply_does (t : Nat) : Does (.handshakeReply t) s (handshakeReply s) := by
  simp only [Does, exec, execHandshakeReply, act_eq _ hs]

theorem handshakeDelayEnd_does : Does .handshakeDelayEnd s (delayEnd s) := by
  simp only [Does, exec, execHandshakeDelayEnd, act_eq _ hs]

theorem handshakeNoReply_does : Does .handshakeNoReply s (noReply s) := by
  simp only [Does, exec, execHandshakeNoReply, act_eq _ hs]

theorem entryWindowEnd_does : Does .entryWindowEnd s
    (if s.pm.st ≠ 2 && (windowEnds s).pm.st = 2 && (wakeCode (windowEnds s)).isSome then dawnStart (windowEnds s) else windowEnds s) := by
  simp only [Does, exec, execEntryWindowEnd, act_eq _ hs]

end

section
variable {s : State} {e : Entry2} (he : s.pm.entry = some e) (hw : e.waiting = false) (hi : e.window = false)
include he hw hi

theorem handshakeReply_answers : handshakeReply s =
    match blockReply s e.block e.target with
    | .agree => nextBlock e (blockStops e.block e.target s)
    | .refuse => abortEntry e.block 1 [] s
    | .delay =>
      if 8 ≤ e.delays && e.block ≠ 0 then abortEntry e.block 2 [] s
      else modEntry (fun e => { e with delays := e.delays + 1, waiting := true }) (blockDelays e.block s) := by
  rw [handshakeReply, he]
  simp only [hw, hi, Bool.or_self, Bool.false_eq_true, if_false] <;> rfl

theorem noReply_aborts : noReply s = abortEntry e.block 6 [] s := by
  rw [noReply, he]
  simp only [hw, hi, Bool.or_self, Bool.false_eq_true, if_false]

end

/-- Settles O50: a block's answer decides what becomes of the entry, and what stops or restarts a block leaves the entry alone. -/
theorem entryHandshake : Obligations.EntryHandshake := by
  intro s hs
  refine ⟨fun he => ⟨fun t => ?_, ?_, ?_⟩, fun e he hw hi => ⟨fun t => ⟨fun ha => ?_, fun hr => ?_, fun hd h8 h0 => ?_, fun hd h8 => ?_⟩, ?_⟩,
    ?unstopped, ?day, ?stopped, ?delayEnd, ?night⟩
  · exact does_congr (handshakeReply_does hs t) (by rw [handshakeReply, he])
  · exact does_congr (handshakeDelayEnd_does hs) (by rw [delayEnd, he])
  · exact does_congr (handshakeNoReply_does hs) (by rw [noReply, he])
  · refine ⟨_, _, does_congr (handshakeReply_does hs t) (by rw [handshakeReply_answers he hw hi, ha]), rfl, rfl, ?_⟩
    exact nextBlock_entry ((blockStops_entry _ _ s).trans he) hi
  · exact does_congr (handshakeReply_does hs t) (by rw [handshakeReply_answers he hw hi, hr])
  · refine does_congr (handshakeReply_does hs t) ?_
    rw [handshakeReply_answers he hw hi, hd]
    simp [h8, h0]
  · refine ⟨modEntry (fun e => { e with delays := e.delays + 1, waiting := true }) (blockDelays e.block s),
      does_congr (handshakeReply_does hs t) ?_, ?_⟩
    · rw [handshakeReply_answers he hw hi, hd]
      simp only
      rw [if_neg]
      simp only [Bool.and_eq_true, decide_eq_true_eq]
      omega
    · simp only [modEntry, modPm, blockDelays_pm, he, Option.map_some]
  · exact does_congr (handshakeNoReply_does hs) (noReply_aborts he hw hi)
  case unstopped => exact fun e r he hst hr hd => abortEntry_unstopped he hst hr hd
  case day =>
    intro e he hw hi hst h0 ht hr hd
    obtain ⟨u, hu, -, hp⟩ := abortEntry_unstopped (b := e.block) (r := 6) he hst hr hd
    refine ⟨_, does_congr (handshakeNoReply_does hs) (noReply_aborts he hw hi), ?_⟩
    rw [settle_pm, hu, raiseDusk_day (by rw [raiseEv_pm, hp]; exact h0), raiseEv_pm, hp,
      show (s.pm.tdmHalt && decide (e.block ≠ 2)) = s.pm.tdmHalt by rw [ht]; rfl]
    rfl
  case stopped =>
    intro e b r cs he hst hb hd hr d hall
    refine ⟨_, rfl, ?_⟩
    let rb : Rollback := { block := e.block, reason := r, from_ := e.from_, target := e.target, todo := b :: cs }
    have hp := rollsBack_pm e rb s
    have ha := rollsBack_arb e rb s
    have hab : abortEntry e.block r [] s = backRun rb (b :: cs) (rollsBack e rb s) := by
      rw [abortEntry_rollsBack he, hst]
      exact backNext_runs (by rw [hp]) (by rw [hp]; exact hr) (by rw [hp]; simp only [hd]; rfl)
    rw [hab]
    generalize rollsBack e rb s = u at hp ha ⊢
    have hdom : domOn u = domOn s := funext fun k => by rw [domOn, domOn, hp]
    obtain ⟨d', hk, hn, hbl, w, hq⟩ := backRun_step (r := rb) (cs := cs) (s := u) hb
      (by rw [ha, hdom, stepDoms_back (t := s) rfl]; exact hall)
    rw [hq, hp]
    exact ⟨rfl, rfl, rfl, rfl, d', rfl, hk, hn, hbl⟩
  case delayEnd =>
    intro e he hw
    refine ⟨_, handshakeDelayEnd_does hs, ?_⟩
    rw [delayEnd, he]
    simp only [hw, if_true, modEntry, modPm]
    split <;> simp [he]
  case night =>
    intro e he hw ht h2
    obtain ⟨hp, h0, h1⟩ := windowEnds_night he hw ht
    have hc := windowEnds_wakeCode s
    refine ⟨_, rfl, ?_, ?_, ?_, ?_, ?_, h0, h1, fun hn => ?_, fun c hw => ?_⟩
    · rw [hp]
    · rw [hp]
    · rw [hp]
    · rw [hp]
    · rw [hp]
    · refine does_congr (entryWindowEnd_does hs) ?_
      rw [hc, hn]
      simp
    · refine does_congr (entryWindowEnd_does hs) ?_
      rw [hc, hw, hp]
      exact if_pos (by simp only [h2, ne_eq, not_false_eq_true, decide_true, Option.isSome_some, Bool.and_self])

end Sys2Proof.Machine
end

section
/-!
PROOFS. O52: staged sets (R325, R326).
-/

namespace Sys2Proof.Machine

open Sys2Proof.Safety

/-- Settles O52: a unit reports, and at a boundary the set opens, commits, is withdrawn, or waits one boundary more. -/
theorem stagedSets : Obligations.StagedSets := by
  intro s x hs hx
  have hd (u : Fin 12) : Does (.unitReady u) s (unitReady u s) := by
    simp only [Does, exec, execUnitReady, act_eq _ hs]
  refine ⟨fun u ho hc hm => ?_, fun u h => ?_, fun ho => ?_, fun ho h0 => ?_, fun ho h0 hl => ?_, fun ho h0 hl => ?_⟩
  · refine does_congr (hd u) ?_
    rw [unitReady, hx]
    exact if_pos (by simp only [ho, hc, hm, Bool.and_self])
  · refine does_congr (hd u) ?_
    rw [unitReady, hx]
    refine if_neg ?_
    rcases h with h | h | h <;> simp [h]
  · rw [stageBoundary, hx]
    exact if_pos (by rw [ho]; rfl)
  · rw [stageBoundary, hx]
    simp only [ho, h0, Bool.not_true, Bool.false_eq_true, if_false, if_true]
  · refine ⟨_, ?_, rfl⟩
    rw [stageBoundary, hx]
    simp only [ho, h0, hl, Bool.not_true, Bool.false_eq_true, if_false, if_true, stageWithdraw,
      show ~~~x.ready ||| (0 : BitVec 12) = ~~~x.ready from BitVec.or_zero]
    rfl
  · rw [stageBoundary, hx]
    simp only [ho, h0, Nat.not_le.mpr hl, Bool.not_true, Bool.false_eq_true, if_false]
    rfl

end Sys2Proof.Machine
end

section
/-!
PROOFS. O51: the DAWN sequence (R316, R317, R319, R320, R321, R330).
-/

namespace Sys2Proof.Machine

open Sys2Proof.Safety

/-! The domain bits. -/

theorem bit_onSet (v : Bool) {k : Nat} (hk : k < 16) (ks : List Nat) (w : BitVec 16) :
    bit (onSet ks v w) k = if k ∈ ks then v else bit w k := by
  unfold onSet
  induction ks generalizing w with
  | nil => rfl
  | cons j ks ih =>
    rw [List.foldl_cons, ih, bit_setBit _ _ _ _ hk]
    by_cases hj : k = j
    · subst hj
      simp
    · simp [hj, Ne.symm hj]

theorem stepDoms_below (s : State) {d : Dawn} {n : Nat} (hk : n < 7 ∨ d.kind ≠ .back) {k : Nat} (h : k ∈ stepDoms s d n) : k < 16 := by
  have hc := coreDom_cases d.side
  unfold stepDoms at h
  split at h
  · simp at h; omega
  · simp at h; omega
  · simp at h; omega
  · simp at h; omega
  · have hb : (d.kind == .back) = false := by simpa using hk
    simp [hb] at h
    omega
  · have hb : (d.kind == .back) = false := by simpa using hk
    simp [hb] at h
    omega
  · nomatch h

theorem stepDoms_same {s t : State} (d : Dawn) (n : Nat) (hon : t.pm.on = s.pm.on) (hv : t.variant = s.variant) :
    stepDoms t d n = stepDoms s d n := by
  simp only [stepDoms, domOn, dieFitted, hon, hv]

theorem domsUp_pm (ks : List Nat) (s : State) :
    (ks.foldl (fun t k => domUp k t) s).pm = { s.pm with on := onSet ks true s.pm.on } := by
  unfold onSet
  induction ks generalizing s with
  | nil => rfl
  | cons k ks ih => rw [List.foldl_cons, ih, domUp_pm, List.foldl_cons]

theorem domsUp_variant (ks : List Nat) (s : State) : (ks.foldl (fun t k => domUp k t) s).variant = s.variant := by
  induction ks generalizing s with
  | nil => rfl
  | cons k ks ih =>
    rw [List.foldl_cons, ih]
    exact (congrArg State.variant (rest_domUp (ps := [.clk, .pm, .dies, .bridges, .conv, .sadc, .wake]) (by simp) k s) :)

/-- The domains of step 8 stay to be powered while those of step 7 come up. -/
theorem stepDoms_dies {s t : State} {d : Dawn} (ks : List Nat) (hk : d.kind ≠ .back) (hv : t.variant = s.variant)
    (ho : t.pm.on = onSet ks true s.pm.on) (hl : ∀ k ∈ ks, k < 12) : stepDoms t d 8 = stepDoms s d 8 := by
  have hb : (d.kind == .back) = false := by simpa using hk
  have hd (k : Nat) (h1 : 12 ≤ k) (h2 : k < 16) : domOn t k = domOn s k := by
    rw [domOn, ho, bit_onSet true h2, if_neg fun h => absurd (hl k h) (Nat.not_lt.mpr h1)]
    rfl
  simp only [stepDoms, hb, Bool.false_eq_true, if_false, dieFitted, hv, show (8 : Nat) ≠ 7 by decide]
  refine List.filter_congr fun k hm => ?_
  have h16 : 12 ≤ k ∧ k < 16 := by
    simp at hm
    omega
  rw [hd k h16.1 h16.2]

/-! A step begins. -/

theorem entered_side {n : Nat} {d : Dawn} {s : State} (h : n ≠ 2 ∨ d.other.isSome = true) : (entered n d s).side = d.side := by
  rcases h with h | h
  · simp [entered, h]
  · have hn : d.other.isNone = false := by
      cases ho : d.other with
      | none => rw [ho] at h; nomatch h
      | some i => rfl
    simp [entered, hn]

theorem enterStep_doms {n : Nat} {d : Dawn} {s : State} (h : s.pm.dawn = some d) (hn : n < 7) {k : Nat}
    (hk : k ∈ stepDoms s (entered n d s) n) : domOn (enterStep n s) k = true := by
  have h78 : ¬ (n = 7 || n = 8) = true := by
    simp only [Bool.or_eq_true, decide_eq_true_eq]
    omega
  rw [domOn, enterStep_pm h]
  simp only
  rw [if_neg h78, bit_onSet true (stepDoms_below s (.inl hn) hk), if_pos hk]

theorem enterStep_late {n : Nat} {d : Dawn} {s : State} (h : s.pm.dawn = some d) (hn : 7 ≤ n) :
    (enterStep n s).pm.on = s.pm.on := by
  rw [enterStep_pm h]
  simp only
  split
  · rfl
  next h78 =>
    have h9 : stepDoms s (entered n d s) n = [] := by
      simp only [Bool.or_eq_true, decide_eq_true_eq] at h78
      unfold stepDoms
      split
      case h_7 => rfl
      all_goals omega
    rw [h9]
    rfl

theorem enterStep_lastCause {n : Nat} {d : Dawn} {s : State} (h : s.pm.dawn = some d) (ho : d.other.isSome = true) :
    (enterStep n s).arb = s.arb := by
  have hx : (entered n d s).side = d.side := entered_side (.inr ho)
  unfold enterStep
  split
  · rfl
  next d' hd' =>
  obtain rfl : d = d' := Option.some.inj (h.symm.trans hd')
  extract_lets x e s0 s1
  have h0 : s0 = s := by
    refine if_neg ?_
    rw [show x = d.side from hx]
    simp
  have h1 : s1.arb = s.arb := (show s1.arb = s0.arb from rfl).trans (congrArg State.arb h0)
  split
  · exact h1
  · rw [setDoms_eq]
    exact h1

/-- The DAWN goes on with step n: what the statement says of it. -/
def Goes (s : State) (d : Dawn) (t : State) (n : Nat) : Prop :=
  ∃ e, t.pm.dawn = some e ∧ e.step = n ∧ e.kind = d.kind ∧ e.target = d.target ∧
    e.off = false ∧ e.retried = false ∧ (2 ≤ d.step → e.side = d.side) ∧ (d.step = 4 → e.wipe = decide (d.kind ≠ .side)) ∧
    (n < 7 → ∀ k ∈ stepDoms s e n, domOn t k = true)

theorem goes_enterStep {s u : State} {d e : Dawn} {n : Nat} (h : u.pm.dawn = some e) (hk : e.kind = d.kind) (ht : e.target = d.target)
    (hs : e.side = d.side) (hn : n = 2 → d.step < 2) (hw : d.step = 4 → e.wipe = decide (d.kind ≠ .side)) :
    Goes s d (enterStep n u) n := by
  refine ⟨entered n e u, by rw [enterStep_pm h], rfl, hk, ht, rfl, rfl, fun h2 => ?_, hw, fun h7 k hm => ?_⟩
  · rw [entered_side (.inl fun h2' => absurd (hn h2') (by omega)), hs]
  · exact enterStep_doms h h7 (by rw [stepDoms_congr (t := s) _ (by omega)]; exact hm)

theorem backNext_idle {s : State} (h : s.pm.back = none) : backNext s = s := by
  rw [backNext, h]

/-! A step is ready. -/

/-- The state in which a step's domains and clocks have come up. -/
def stepDone (d : Dawn) (s : State) : State :=
  match d.step with
  | 1 => modPm s fun p => { p with ksOff := false }
  | 3 => if d.kfRef then s else modClk s fun c => { c with xo := vset c.xo (sideIx d.side) true }
  | 4 => modDawn (fun d => { d with wipe := d.kind != .side }) (modClk s fun c => { c with fl := vset c.fl (sideIx d.side) true })
  | 5 => modPm s fun p => { p with ret := setBit p.ret (memDom d.side) false }
  | 6 => modClk s fun c => { c with el := vset c.el (sideIx d.side) true }
  | 7 | 8 => (stepDoms s d d.step).foldl (fun t k => domUp k t) s
  | _ => s

section
variable {s : State} {d : Dawn} (hd : s.pm.dawn = some d)
include hd

theorem stepReady_waits (h : stepClocked s d = false ∨ 9 ≤ d.step ∨ (2 ≤ d.step ∧ d.step < 7 ∧ s.feeds[sideIx d.side].ok = false)) :
    stepReady s = s := by
  rw [stepReady, hd]
  refine if_pos ?_
  rcases h with h | h | ⟨h2, h7, hf⟩
  · simp [h]
  · simp [h]
  · simp only [h2, h7, hf, decide_true, Bool.not_false, Bool.and_self, Bool.or_true, Bool.true_or]

theorem stepReady_goes (ho : d.off = false) (hb : d.kind ≠ .back) (hc : stepClocked s d = true) (h9 : d.step < 9)
    (hf : 2 ≤ d.step → d.step < 7 → s.feeds[sideIx d.side].ok = true) :
    stepReady s = if d.kind == .side && d.step = 6 then sideDone d.side (stepDone d s)
      else enterStep (stepAfter (stepDone d s) d d.step) (stepDone d s) := by
  have hk : (d.kind == .back) = false := by simpa using hb
  rw [stepReady, hd]
  refine (if_neg ?_).trans ?_
  · simp only [ho, hc, Bool.false_or, Bool.not_true, Bool.or_false, Bool.or_eq_true, Bool.and_eq_true, decide_eq_true_eq,
      Bool.not_eq_true', not_or, not_and]
    refine ⟨by omega, fun h => ?_⟩
    rw [hf h.1 h.2]
    decide
  · simp only [hk, Bool.false_and, Bool.false_eq_true, if_false]
    rfl

end

/-- What stays or changes as a step's domains and clocks come up. -/
theorem stepDone_facts {s : State} {d : Dawn} (hd : s.pm.dawn = some d) (h7 : d.step < 7) :
    (∃ e, (stepDone d s).pm.dawn = some e ∧ e.kind = d.kind ∧ e.target = d.target ∧ e.side = d.side ∧
      (d.step = 4 → e.wipe = decide (d.kind ≠ .side))) ∧
    (stepDone d s).pm.on = s.pm.on ∧ (stepDone d s).variant = s.variant ∧ (stepDone d s).pm.back = s.pm.back ∧
    (d.step = 1 → (stepDone d s).pm.ksOff = false) ∧
    (d.step = 3 → d.kfRef = false → (stepDone d s).clk.xo[sideIx d.side] = true) ∧
    (d.step = 4 → (stepDone d s).clk.fl[sideIx d.side] = true) ∧
    (d.step = 6 → (stepDone d s).clk.el[sideIx d.side] = true) := by
  have hkeep {u : State} (h : u.pm.dawn = s.pm.dawn) (h4 : d.step ≠ 4) : ∃ e, u.pm.dawn = some e ∧ e.kind = d.kind ∧
      e.target = d.target ∧ e.side = d.side ∧ (d.step = 4 → e.wipe = decide (d.kind ≠ .side)) :=
    ⟨d, h.trans hd, rfl, rfl, rfl, fun h => absurd h h4⟩
  have hw : (d.kind != .side) = decide (d.kind ≠ .side) := by
    cases d.kind <;> rfl
  unfold stepDone
  split
  next h => exact ⟨hkeep rfl (by omega), rfl, rfl, rfl, fun _ => rfl, by omega, by omega, by omega⟩
  next h =>
    split
    next hk => exact ⟨hkeep rfl (by omega), rfl, rfl, rfl, by omega, fun _ hf => absurd hk (by rw [hf]; decide), by omega, by omega⟩
    · exact ⟨hkeep rfl (by omega), rfl, rfl, rfl, by omega, fun _ _ => by simp [modClk], by omega, by omega⟩
  next h =>
    refine ⟨⟨{ d with wipe := d.kind != .side }, by simp [modDawn, modPm, modClk, hd], rfl, rfl, rfl, fun _ => hw⟩,
      rfl, rfl, rfl, by omega, by omega, fun _ => by simp [modDawn, modPm, modClk], by omega⟩
  next h => exact ⟨hkeep rfl (by omega), rfl, rfl, rfl, by omega, by omega, by omega, by omega⟩
  next h => exact ⟨hkeep rfl (by omega), rfl, rfl, rfl, by omega, by omega, by omega, fun _ => by simp [modClk]⟩
  next h => omega
  next h => omega
  next h1 h3 h4 h5 h6 _ _ =>
    exact ⟨hkeep rfl h4, rfl, rfl, rfl, fun h => absurd h h1, fun h => absurd h h3, fun h => absurd h h4, fun h => absurd h h6⟩

theorem stepDone_late {s : State} {d : Dawn} (h : d.step = 7 ∨ d.step = 8) :
    stepDone d s = (stepDoms s d d.step).foldl (fun t k => domUp k t) s := by
  rcases h with h | h <;> simp only [stepDone, h]

theorem stepAfter_early {s : State} {d : Dawn} {n : Nat} (h : n < 6) : stepAfter s d n = n + 1 := if_pos h

theorem isEmpty_iff_ne {l : List Nat} : (!l.isEmpty) = decide (l ≠ []) := by
  cases l <;> simp

theorem stepAfter_six (s : State) (d : Dawn) :
    stepAfter s d 6 = if stepDoms s d 7 ≠ [] then 7 else if stepDoms s d 8 ≠ [] then 8 else 9 := by
  simp [stepAfter, isEmpty_iff_ne]

theorem stepAfter_seven (s : State) (d : Dawn) : stepAfter s d 7 = if stepDoms s d 8 ≠ [] then 8 else 9 := by
  simp [stepAfter, isEmpty_iff_ne]

theorem stepAfter_eight (s : State) (d : Dawn) : stepAfter s d 8 = 9 := by
  simp [stepAfter]

/-- The domains of step 7 lie below those of the power dies. -/
theorem stepDoms_seven {s : State} {d : Dawn} (hb : d.kind ≠ .back) {k : Nat} (h : k ∈ stepDoms s d 7) : k < 12 := by
  have hb : (d.kind == .back) = false := by simpa using hb
  simp [stepDoms, hb] at h
  omega

/-! The rows. -/

section
variable {s : State} (hs : s.resetHeld = false)
include hs

theorem dawnStart_does : Does .dawnStart s (dawnStart s) := by
  simp only [Does, exec, execDawnStart, act_eq _ hs]

theorem dawnStepReady_does : Does .dawnStepReady s (stepReady s) := by
  simp only [Does, exec, execDawnStepReady, act_eq _ hs]

theorem dawnStepTimeout_does (w : BitVec 3) (k : BitVec 4) : Does (.dawnStepTimeout w k) s (stepTimeout w.toNat k.toNat s) := by
  simp only [Does, exec, execDawnStepTimeout, act_eq _ hs]

theorem dawnRetryOffEnd_does : Does .dawnRetryOffEnd s (retryOffEnd s) := by
  simp only [Does, exec, execDawnRetryOffEnd, act_eq _ hs]

theorem dawnRepeat_does : Does .dawnRepeat s (dawnRepeat s) := by
  simp only [Does, exec, execDawnRepeat, act_eq _ hs]

theorem delaySramWipeDone_does : Does .delaySramWipeDone s (sramWiped s) := by
  simp only [Does, exec, execDelaySramWipeDone, act_eq _ hs]

end

/-! A step is ready (R317): the clause of each step. -/

section
variable {s : State} {d : Dawn} (hs : s.resetHeld = false) (hd : s.pm.dawn = some d) (ho : d.off = false)
  (hb : d.kind ≠ .back) (hc : stepClocked s d = true) (hf : 2 ≤ d.step → d.step < 7 → s.feeds[sideIx d.side].ok = true)
include hs hd ho hb hc hf

theorem ready_early (h1 : 1 ≤ d.step) (h6 : d.step < 6) : ∃ t, Does .dawnStepReady s t ∧ Goes s d t (d.step + 1) ∧
    (d.step = 1 → t.pm.ksOff = false) ∧ (d.step = 3 → d.kfRef = false → t.clk.xo[sideIx d.side] = true) ∧
    (d.step = 4 → t.clk.fl[sideIx d.side] = true) := by
  obtain ⟨⟨e, he, hk, ht, hx, hw⟩, -, -, -, hks, hxo, hfl, -⟩ := stepDone_facts hd (by omega)
  have h6' : (d.kind == .side && decide (d.step = 6)) = false := by simp [Nat.ne_of_lt h6]
  have hgo := stepReady_goes hd ho hb hc (by omega) hf
  rw [h6', if_neg Bool.false_ne_true, stepAfter_early h6] at hgo
  have hclk : (enterStep (d.step + 1) (stepDone d s)).clk = (stepDone d s).clk := rest_clk (ps := [.arb, .pm]) (by simp) (by simp)
  refine ⟨_, does_congr (dawnStepReady_does hs) hgo, goes_enterStep he hk ht hx (by omega) hw, fun h => ?_, fun h hr => ?_, fun h => ?_⟩
  · rw [enterStep_pm he]
    exact hks h
  · rw [hclk]
    exact hxo h hr
  · rw [hclk]
    exact hfl h

theorem ready_side (h6 : d.step = 6) (hk : d.kind = .side) (hback : s.pm.back = none) : ∃ t, Does .dawnStepReady s t ∧
    t.pm.dawn = none ∧ t.arb.stbyUp = true ∧ t.mirror.fill = some .all ∧ t.clk.el[sideIx d.side] = true ∧
    t.pm.sideFails[sideIx d.side] = 0 := by
  obtain ⟨-, -, -, hbk, -, -, -, hel⟩ := stepDone_facts hd (by omega)
  have hgo := stepReady_goes hd ho hb hc (by omega) hf
  rw [if_pos (by simp [hk, h6]), sideDone, backNext_idle (by exact hbk.trans hback)] at hgo
  exact ⟨_, does_congr (dawnStepReady_does hs) hgo, rfl, rfl, rfl, hel h6, by simp [modMirror, modArb, modPm]⟩

theorem ready_core (h6 : d.step = 6) (hk : d.kind ≠ .side) : ∃ t, Does .dawnStepReady s t ∧ t.clk.el[sideIx d.side] = true ∧
    Goes s d t (if stepDoms s d 7 ≠ [] then 7 else if stepDoms s d 8 ≠ [] then 8 else 9) := by
  obtain ⟨⟨e, he, hke, ht, hx, hw⟩, hon, hv, -, -, -, -, hel⟩ := stepDone_facts hd (by omega)
  have hgo := stepReady_goes hd ho hb hc (by omega) hf
  rw [if_neg (by simp [hk]), h6, stepAfter_six, stepDoms_same d 7 hon hv, stepDoms_same d 8 hon hv] at hgo
  refine ⟨_, does_congr (dawnStepReady_does hs) hgo, ?_, goes_enterStep he hke ht hx ?_ hw⟩
  · rw [rest_clk (ps := [.arb, .pm]) (rest_enterStep (by simp) _ _) (by simp)]
    exact hel h6
  · split
    · omega
    · split <;> omega

theorem ready_seven (h7 : d.step = 7) : ∃ t, Does .dawnStepReady s t ∧ Goes s d t (if stepDoms s d 8 ≠ [] then 8 else 9) ∧
    ∀ k ∈ stepDoms s d 7, domOn t k = true := by
  have hpm := domsUp_pm (stepDoms s d d.step) s
  have hgo := stepReady_goes hd ho hb hc (by omega) hf
  rw [if_neg (by simp [h7]), stepDone_late (.inl h7)] at hgo
  have h8 := stepDoms_dies (t := (stepDoms s d d.step).foldl (fun t k => domUp k t) s) (stepDoms s d d.step) hb (domsUp_variant _ _)
    (by rw [hpm]) (fun k hm => stepDoms_seven hb (by rw [h7] at hm; exact hm))
  generalize (stepDoms s d d.step).foldl (fun t k => domUp k t) s = u at hpm hgo h8
  have hu : u.pm.dawn = some d := by rw [hpm]; exact hd
  rw [h7, stepAfter_seven, h8] at hgo
  refine ⟨_, does_congr (dawnStepReady_does hs) hgo, goes_enterStep hu rfl rfl rfl (by split <;> omega) (by omega), fun k hm => ?_⟩
  rw [domOn, enterStep_late hu (by split <;> omega), hpm]
  simp only
  rw [bit_onSet true (stepDoms_below s (.inr hb) hm), h7, if_pos hm]

theorem ready_eight (h8 : d.step = 8) : ∃ t, Does .dawnStepReady s t ∧ Goes s d t 9 ∧ ∀ k ∈ stepDoms s d 8, domOn t k = true := by
  have hpm := domsUp_pm (stepDoms s d d.step) s
  have hgo := stepReady_goes hd ho hb hc (by omega) hf
  rw [if_neg (by simp [h8]), stepDone_late (.inr h8)] at hgo
  generalize (stepDoms s d d.step).foldl (fun t k => domUp k t) s = u at hpm hgo
  have hu : u.pm.dawn = some d := by rw [hpm]; exact hd
  rw [h8, stepAfter_eight] at hgo
  refine ⟨_, does_congr (dawnStepReady_does hs) hgo, goes_enterStep hu rfl rfl rfl (by omega) (by omega), fun k hm => ?_⟩
  rw [domOn, enterStep_late hu (by omega), hpm]
  simp only
  rw [bit_onSet true (stepDoms_below s (.inr hb) hm), h8, if_pos hm]

end

/-! A step does not become ready in time (R319, R320). -/

theorem latchFail_pm (d : Dawn) (dom cause : Nat) (s : State) : (latchFail d dom cause s).pm =
    { s.pm with dwStep := BitVec.ofNat 4 d.step, dwDomain := BitVec.ofNat 4 dom, dwCause := BitVec.ofNat 3 cause
                dwSide := d.side, dwFail := true } := by
  rw [latchFail, raiseEv_pm, forceFault0]
  split <;> rfl

theorem latchFail_variant (d : Dawn) (dom cause : Nat) (s : State) : (latchFail d dom cause s).variant = s.variant :=
  (congrArg State.variant (rest_latchFail (ps := [.pm, .pads]) (by simp) d dom cause s) :)

theorem latchFail_feeds (d : Dawn) (dom cause : Nat) (s : State) : (latchFail d dom cause s).feeds = s.feeds :=
  rest_feeds (rest_latchFail (ps := [.pm, .pads]) (by simp) d dom cause s) (by simp)

theorem latchFail_arb (d : Dawn) (dom cause : Nat) (s : State) : (latchFail d dom cause s).arb = s.arb :=
  rest_arb (rest_latchFail (ps := [.pm, .pads]) (by simp) d dom cause s) (by simp)

/-- The failure is latched: what the statement says of it. -/
def Latched (d : Dawn) (n cause : Nat) (t : State) : Prop :=
  t.pm.dwFail = true ∧ t.pm.dwStep.toNat = d.step ∧ t.pm.dwDomain = BitVec.ofNat 4 n ∧
    t.pm.dwCause = BitVec.ofNat 3 cause ∧ t.pm.dwSide = d.side

theorem latched_latchFail {d : Dawn} (h : d.step < 16) (n cause : Nat) (s : State) : Latched d n cause (latchFail d n cause s) := by
  rw [Latched, latchFail_pm]
  exact ⟨rfl, by simp; omega, rfl, rfl, rfl⟩

theorem latched_of_pm {d : Dawn} {n cause : Nat} {s t : State} (h : Latched d n cause s) (h1 : t.pm.dwFail = s.pm.dwFail)
    (h2 : t.pm.dwStep = s.pm.dwStep) (h3 : t.pm.dwDomain = s.pm.dwDomain) (h4 : t.pm.dwCause = s.pm.dwCause)
    (h5 : t.pm.dwSide = s.pm.dwSide) : Latched d n cause t := by
  rw [Latched, h1, h2, h3, h4, h5]
  exact h

theorem latched_enterStep {d e : Dawn} {n cause m : Nat} {s : State} (h : Latched d n cause s) (he : s.pm.dawn = some e) :
    Latched d n cause (enterStep m s) := by
  have hp := enterStep_pm (n := m) he
  exact latched_of_pm h (by rw [hp]) (by rw [hp]) (by rw [hp]) (by rw [hp]) (by rw [hp])

/-- R319: the domain that failed is left off. -/
def domLeftOff (k : Nat) (s : State) : State := if h : 12 ≤ k ∧ k < 16 then dieFailed ⟨k - 12, by omega⟩ s else s

theorem domLeftOff_pm (k : Nat) (s : State) : (domLeftOff k s).pm = s.pm := by
  unfold domLeftOff
  split
  · exact rest_pm (ps := [.bridges]) (by simp) (by simp)
  · rfl

theorem domLeftOff_variant (k : Nat) (s : State) : (domLeftOff k s).variant = s.variant := by
  unfold domLeftOff
  split
  next h => exact (congrArg State.variant (rest_dieFailed (ps := [.bridges]) (by simp) ⟨k - 12, by omega⟩ s) :)
  · rfl

section
variable {s : State} {d : Dawn} (why dom : Nat) (hd : s.pm.dawn = some d) (ho : d.off = false)
include hd ho

theorem stepTimeout_first (h9 : d.step < 9) (hr : d.retried = false) : stepTimeout why dom s =
    modDawn (fun d => { d with retried := true, off := true })
      (modPm (if d.step < 7 then setDoms (stepDoms s d d.step) false s else s) fun p => { p with dwRetries := sat8 p.dwRetries }) := by
  rw [stepTimeout, hd]
  simp only [ho, hr, Nat.not_le.mpr h9, decide_false, Bool.or_self, Bool.false_eq_true, if_false, Bool.not_false, if_true]

variable (hr : d.retried = true)
include hr

/-- R319: KS is left off. -/
theorem stepTimeout_ks (hb : d.kind ≠ .back) (h1 : d.step = 1) : stepTimeout why dom s =
    enterStep 2 (modPm (setDom 2 false (latchFail d (failDomain s d dom) (failCause d.step why) s)) fun p => { p with ksOff := true }) := by
  have hk : (d.kind == .back) = false := by simpa using hb
  rw [stepTimeout, hd]
  simp only [ho, hr, h1, hk, Bool.not_true, Bool.false_eq_true, if_false, if_true]
  rfl

theorem stepTimeout_core (h9 : d.step < 9) (h2 : 2 ≤ d.step) (h7 : d.step < 7) : stepTimeout why dom s =
    if d.kind == .side then sideFailed d.side (latchFail d (failDomain s d dom) (failCause d.step why) s)
    else coreStepFailed d (latchFail d (failDomain s d dom) (failCause d.step why) s) := by
  rw [stepTimeout, hd]
  simp only [ho, hr, Nat.not_le.mpr h9, h7, show d.step ≠ 1 by omega, decide_false, Bool.or_self, Bool.not_true, Bool.false_eq_true,
    if_false, if_true]

theorem stepTimeout_late (h9 : d.step < 9) (hb : d.kind ≠ .back) (h78 : d.step = 7 ∨ d.step = 8) : stepTimeout why dom s =
    (let k := failDomain s d dom
     let s3 := domLeftOff k (((stepDoms s d d.step).filter (· ≠ k)).foldl (fun t j => domUp j t)
       (latchFail d k (failCause d.step why) s))
     enterStep (if d.step = 7 then (if (stepDoms s3 d 8).isEmpty then 9 else 8) else 9) s3) := by
  have hk : (d.kind == .back) = false := by simpa using hb
  rw [stepTimeout, hd]
  simp only [ho, hr, hk, Nat.not_le.mpr h9, show ¬ d.step < 7 by omega, show d.step ≠ 1 by omega, decide_false, Bool.or_self,
    Bool.not_true, Bool.false_eq_true, if_false]
  rfl

end

/-! A step does not become ready in time: the clause of each step. -/

theorem setDom_domOn (k : Nat) (v : Bool) {j : Nat} (hj : j < 16) (s : State) :
    domOn (setDom k v s) j = if k = j then v else domOn s j := bit_setBit s.pm.on k j v hj

theorem sideFailed_facts {x : Side} {s : State} (hb : s.pm.back = none) : (sideFailed x s).pm.dawn = none ∧
    (sideFailed x s).pm.sideFails[sideIx x] = s.pm.sideFails[sideIx x] + 1 ∧ domOn (sideFailed x s) (coreDom x) = false := by
  rw [sideFailed, backNext_idle (by exact hb)]
  exact ⟨rfl, by simp [trySide, modPm, sideOff, modClk], sideOff_core x s⟩

section
variable {s : State} {d : Dawn} (hs : s.resetHeld = false) (hd : s.pm.dawn = some d) (ho : d.off = false) (w : BitVec 3) (k : BitVec 4)
include hs hd ho

theorem timeout_first (h9 : d.step < 9) (hr : d.retried = false) : ∃ t, Does (.dawnStepTimeout w k) s t ∧
    t.pm.dawn = some { d with retried := true, off := true } ∧ t.pm.dwRetries = sat8 s.pm.dwRetries ∧
    (d.step < 7 → ∀ j ∈ stepDoms s d d.step, domOn t j = false) := by
  refine ⟨_, does_congr (dawnStepTimeout_does hs w k) (stepTimeout_first _ _ hd ho h9 hr), ?_, ?_, fun h7 j hm => ?_⟩
  · split
    · rw [setDoms_eq]
      simp [modDawn, modPm, hd]
    · simp [modDawn, modPm, hd]
  · split
    · rw [setDoms_eq]
      rfl
    · rfl
  · rw [if_pos h7, setDoms_eq]
    exact (bit_onSet false (stepDoms_below s (.inl h7) hm) _ _).trans (if_pos hm)

variable (hr : d.retried = true)
include hr

theorem timeout_ks (hb : d.kind ≠ .back) (h1 : d.step = 1) : ∃ t, Does (.dawnStepTimeout w k) s t ∧
    Latched d (failDomain s d k.toNat) (failCause d.step w.toNat) t ∧ Goes s d t 2 ∧ t.pm.ksOff = true ∧ domOn t 2 = false := by
  refine ⟨_, does_congr (dawnStepTimeout_does hs w k) (stepTimeout_ks _ _ hd ho hr hb h1), ?_⟩
  have hp := latchFail_pm d (failDomain s d k.toNat) (failCause d.step w.toNat) s
  have hl := latched_latchFail (d := d) (by omega) (failDomain s d k.toNat) (failCause d.step w.toNat) s
  generalize latchFail d (failDomain s d k.toNat) (failCause d.step w.toNat) s = u at hp hl ⊢
  have hu : (modPm (setDom 2 false u) fun p => { p with ksOff := true }).pm.dawn = some d := by
    show u.pm.dawn = some d
    rw [hp]
    exact hd
  refine ⟨latched_enterStep (latched_of_pm hl rfl rfl rfl rfl rfl) hu, goes_enterStep hu rfl rfl rfl (by omega) (by omega), ?_, ?_⟩
  · rw [enterStep_pm hu]
    rfl
  · rw [domOn, enterStep_pm hu]
    simp only [show ((2 : Nat) = 7 || (2 : Nat) = 8 : Bool) = false from rfl, Bool.false_eq_true, if_false]
    rw [bit_onSet true (by decide), if_neg]
    · exact (setDom_domOn 2 false (by decide) u).trans (if_pos rfl)
    · rcases coreDom_cases (entered 2 d (modPm (setDom 2 false u) fun p => { p with ksOff := true })).side with h | h <;>
        simp [stepDoms, h.1]

theorem timeout_side (h2 : 2 ≤ d.step) (h7 : d.step < 7) (hk : d.kind = .side) (hback : s.pm.back = none) :
    ∃ t, Does (.dawnStepTimeout w k) s t ∧
    Latched d (failDomain s d k.toNat) (failCause d.step w.toNat) t ∧ t.pm.dawn = none ∧
    t.pm.sideFails[sideIx d.side] = s.pm.sideFails[sideIx d.side] + 1 ∧ domOn t (coreDom d.side) = false := by
  have ht := stepTimeout_core w.toNat k.toNat hd ho hr (by omega) h2 h7
  rw [if_pos (by simp [hk])] at ht
  have hp := latchFail_pm d (failDomain s d k.toNat) (failCause d.step w.toNat) s
  have hl := latched_latchFail (d := d) (by omega) (failDomain s d k.toNat) (failCause d.step w.toNat) s
  generalize latchFail d (failDomain s d k.toNat) (failCause d.step w.toNat) s = u at hp hl ht
  have hub : u.pm.back = none := by rw [hp]; exact hback
  obtain ⟨h1, h3, h4⟩ := sideFailed_facts (x := d.side) hub
  refine ⟨_, does_congr (dawnStepTimeout_does hs w k) ht, ?_, h1, ?_, h4⟩
  · rw [sideFailed, backNext_idle (by exact hub)]
    exact latched_of_pm hl rfl rfl rfl rfl rfl
  · rw [h3, hp]

/-- R320: a core step that fails on the side of a full DAWN or a restart. -/
theorem timeout_core (h2 : 2 ≤ d.step) (h7 : d.step < 7) (hk : d.kind ≠ .side) : ∃ u,
    Does (.dawnStepTimeout w k) s (coreStepFailed d u) ∧ Latched d (failDomain s d k.toNat) (failCause d.step w.toNat) u ∧
    u.pm.dawn = some d ∧ u.feeds = s.feeds ∧ u.arb = s.arb := by
  have ht := stepTimeout_core w.toNat k.toNat hd ho hr (by omega) h2 h7
  rw [if_neg (by simp [hk])] at ht
  refine ⟨_, does_congr (dawnStepTimeout_does hs w k) ht, latched_latchFail (by omega) _ _ _, ?_, latchFail_feeds _ _ _ _,
    latchFail_arb _ _ _ _⟩
  rw [latchFail_pm]
  exact hd

theorem timeout_late (hb : d.kind ≠ .back) (h78 : d.step = 7 ∨ d.step = 8) : ∃ t, Does (.dawnStepTimeout w k) s t ∧
    Latched d (failDomain s d k.toNat) (failCause d.step w.toNat) t ∧
    (∀ j ∈ stepDoms s d d.step, j ≠ failDomain s d k.toNat → domOn t j = true) ∧
    Goes s d t (if d.step = 7 ∧ stepDoms s d 8 ≠ [] then 8 else 9) := by
  have ht := stepTimeout_late w.toNat k.toNat hd ho hr (by omega) hb h78
  simp only at ht
  have hv := latchFail_variant d (failDomain s d k.toNat) (failCause d.step w.toNat) s
  have hp := latchFail_pm d (failDomain s d k.toNat) (failCause d.step w.toNat) s
  have hl := latched_latchFail (d := d) (by omega) (failDomain s d k.toNat) (failCause d.step w.toNat) s
  generalize failDomain s d k.toNat = n at hv hp hl ht ⊢
  generalize latchFail d n (failCause d.step w.toNat) s = u at hv hp hl ht
  have hq := (domLeftOff_pm n _).trans (domsUp_pm ((stepDoms s d d.step).filter (· ≠ n)) u)
  have hvv := (domLeftOff_variant n _).trans (domsUp_variant ((stepDoms s d d.step).filter (· ≠ n)) u)
  generalize domLeftOff n _ = v at hq hvv ht
  have hvd : v.pm.dawn = some d := by
    rw [hq, hp]
    exact hd
  have hon : v.pm.on = onSet ((stepDoms s d d.step).filter (· ≠ n)) true s.pm.on := by rw [hq, hp]
  have hn : (if d.step = 7 then if (stepDoms v d 8).isEmpty = true then 9 else 8 else 9) =
      if d.step = 7 ∧ stepDoms s d 8 ≠ [] then 8 else 9 := by
    rcases h78 with h | h
    · have h8 : stepDoms v d 8 = stepDoms s d 8 :=
        stepDoms_dies _ hb (hvv.trans hv) hon fun j hm => stepDoms_seven hb (by rw [h] at hm; exact (List.mem_filter.mp hm).1)
      rw [h8]
      cases stepDoms s d 8 <;> simp [h]
    · simp [h]
  rw [hn] at ht
  refine ⟨_, does_congr (dawnStepTimeout_does hs w k) ht, ?_, fun j hm hj => ?_, goes_enterStep hvd rfl rfl rfl ?_ (by omega)⟩
  · exact latched_enterStep (latched_of_pm hl (by rw [hq]) (by rw [hq]) (by rw [hq]) (by rw [hq]) (by rw [hq])) hvd
  · have h7 : 7 ≤ if d.step = 7 ∧ stepDoms s d 8 ≠ [] then 8 else 9 := by split <;> omega
    rw [domOn, enterStep_late hvd h7, hon, bit_onSet true (stepDoms_below s (.inr hb) hm),
      if_pos (List.mem_filter.mpr ⟨hm, by simpa using hj⟩)]
  · split <;> omega

end

section
variable {u : State} {d : Dawn} {n cause : Nat} (hl : Latched d n cause u)
include hl

/-- R320: the other side is tried. -/
theorem coreStepFailed_other (ho : d.other = none) (hf : u.feeds[sideIx (other d.side)].ok = true) :
    ∃ e, Latched d n cause (coreStepFailed d u) ∧ (coreStepFailed d u).arb.lastCause = 5 ∧
      (coreStepFailed d u).pm.dawn = some e ∧ e.side = other d.side ∧ e.step = 2 ∧ e.other = some d.step ∧
      domOn (coreStepFailed d u) (coreDom (other d.side)) = true := by
  unfold coreStepFailed
  extract_lets y s1 s2 s3
  have hl3 : Latched d n cause s3 := latched_of_pm hl rfl rfl rfl rfl rfl
  have ha3 : s3.arb.lastCause = 5 := rfl
  rw [ho]
  simp only
  rw [if_pos hf]
  clear_value s3
  generalize he : ({ d with side := y, other := some d.step, wipe := false } : Dawn) = e
  have hu : (modPm s3 fun p => { p with dawn := some e }).pm.dawn = some e := rfl
  have hx : (entered 2 e (modPm s3 fun p => { p with dawn := some e })).side = e.side := entered_side (.inr (by rw [← he]; rfl))
  have hy : e.side = other d.side := by rw [← he]
  refine ⟨_, latched_enterStep (latched_of_pm hl3 rfl rfl rfl rfl rfl) hu, ?_, by rw [enterStep_pm hu], ?_, rfl, ?_, ?_⟩
  · rw [enterStep_lastCause hu (by rw [← he]; rfl)]
    exact ha3
  · exact hx.trans hy
  · show e.other = some d.step
    rw [← he]
  · refine enterStep_doms hu (by decide) ?_
    rw [← hy, ← hx]
    exact List.mem_singleton.mpr rfl

/-- R320: no side is left, and the whole DAWN is to be repeated. -/
theorem coreStepFailed_repeats
    (h : (d.other = none ∧ u.feeds[sideIx (other d.side)].ok = false) ∨
      ∃ i, d.other = some i ∧ (i ≠ 3 ∨ d.step ≠ 3 ∨ d.kfRef = true)) :
    Latched d n cause (coreStepFailed d u) ∧ (coreStepFailed d u).pm.dawn = none ∧ (coreStepFailed d u).pm.repeat_ = true := by
  unfold coreStepFailed
  extract_lets y s1 s2 s3
  have hl2 : Latched d n cause s2 := latched_of_pm hl rfl rfl rfl rfl rfl
  clear_value s2
  rcases h with ⟨ho, hf⟩ | ⟨i, ho, hi⟩
  · rw [ho]
    simp only
    rw [if_neg (by exact Bool.eq_false_iff.mp hf)]
    exact ⟨latched_of_pm hl2 rfl rfl rfl rfl rfl, rfl, rfl⟩
  · rw [ho]
    simp only
    rw [if_neg]
    · exact ⟨latched_of_pm hl2 rfl rfl rfl rfl rfl, rfl, rfl⟩
    · rcases hi with h | h | h <;> simp [h]

/-- R320: both sides have failed at the crystal: the preferred side runs with its PLLs on KF. -/
theorem coreStepFailed_keeper (ho : d.other = some 3) (h3 : d.step = 3) (hk : d.kfRef = false) :
    ∃ e, Latched d n cause (coreStepFailed d u) ∧ (coreStepFailed d u).pm.dawn = some e ∧ e.side = u.arb.selPref ∧ e.step = 2 ∧
      e.kfRef = true := by
  unfold coreStepFailed
  extract_lets y s1 s2 s3
  have hl2 : Latched d n cause s2 := latched_of_pm hl rfl rfl rfl rfl rfl
  clear_value s2
  split
  next hn => rw [ho] at hn; nomatch hn
  next i hi =>
  rw [if_pos (by simp [h3, hk, Option.some.inj (hi.symm.trans ho)])]
  generalize he : ({ d with side := u.arb.selPref, kfRef := true, wipe := false } : Dawn) = e
  have hu : (modPm s2 fun p => { p with dawn := some e }).pm.dawn = some e := rfl
  refine ⟨_, latched_enterStep (latched_of_pm hl2 rfl rfl rfl rfl rfl) hu, by rw [enterStep_pm hu], ?_, rfl, ?_⟩
  · rw [entered_side (.inr (by rw [← he]; exact congrArg Option.isSome ho))]
    rw [← he]
  · show e.kfRef = true
    rw [← he]

end

/-! The DAWN begins, and ends (R316, R317, R320). -/

theorem entered_first (d : Dawn) (s : State) : entered 1 d s = { d with step := 1, retried := false, off := false } := rfl

theorem beginDawn_pm (target : BitVec 2) (boot : Bool) (side : Side) (src : Nat) (s : State) :
    (beginDawn target boot side src s).pm =
      { s.pm with dawn := some { kind := .full, side := side, step := 1, target := target, boot := boot }, repeat_ := false
                  wakeSrc := BitVec.ofNat 4 src, on := setBit s.pm.on 2 true } :=
  (enterStep_pm rfl).trans rfl

theorem domOn_ks {t : State} {w : BitVec 16} (h : t.pm.on = setBit w 2 true) : domOn t 2 = true := by
  rw [domOn, h, bit_setBit _ _ _ _ (by decide), if_pos rfl]

theorem bootDawn_begins {s : State} (h3 : s.pm.st = 3) (hd : s.pm.dawn = none) (hr : s.pm.repeat_ = false) (hk : s.clk.kfLock = true)
    (hw : s.ret.wiping = false) (hf : (s.feeds[(0 : Fin 2)].ok || s.feeds[(1 : Fin 2)].ok) = true) :
    bootDawn s = beginDawn 0 true s.arb.selPref 0 s := by
  refine if_pos ?_
  rw [Bool.and_eq_true]
  exact ⟨by simp only [h3, hd, hr, hk, hw, Option.isNone_none, decide_true, Bool.not_false, Bool.and_self], hf⟩

theorem wakeCode_of_rest {s t : State} (hr : rest [.pm, .arb] t = rest [.pm, .arb] s) (hf : t.pm.fret = s.pm.fret) :
    wakeCode t = wakeCode s := by
  have hl : wakeLevel t = wakeLevel s := by
    funext k
    simp only [wakeLevel, cmpWakes, rest_sadc hr (by simp), rest_wake hr (by simp), rest_conv hr (by simp), rest_feeds hr (by simp),
      rest_time hr (by simp), hf]
  rw [wakeCode, hl]
  rfl

theorem dawnStart_night {s : State} {c : Nat} (h2 : s.pm.st = 2) (hc : wakeCode s = some c) (hd : s.pm.dawn = none)
    (hr : s.pm.repeat_ = false) (he : s.pm.entry = none) :
    dawnStart s = beginDawn (wakeTarget c) false s.arb.active c s := by
  have hb := beginDawn_pm (wakeTarget c) false s.arb.active c s
  have hcode : wakeCode (beginDawn (wakeTarget c) false s.arb.active c s) = some c := by
    rw [wakeCode_of_rest (s := s) (by simp) (by rw [hb]), hc]
  have hw : wakeDawn c s = beginDawn (wakeTarget c) false s.arb.active c s :=
    if_pos (by simp only [h2, hd, hr, Option.isNone_none, decide_true, Bool.not_false, Bool.and_self])
  rw [dawnStart, if_neg (by rw [h2]; decide), hc]
  simp only
  rw [hw, pmWatch, hcode, hb]
  simp only [he]
  refine if_neg ?_
  simp only [Bool.and_eq_true, decide_eq_true_eq, not_and]
  rintro ⟨-, h1⟩ h0
  rw [h0] at h1
  exact absurd h1 (by decide)

/-- The state of the power manager and the side that runs frames are kept. -/
def KeepsSide (s t : State) : Prop :=
  t.pm.st = s.pm.st ∧ t.pm.back = s.pm.back ∧ t.arb.coreRun = s.arb.coreRun ∧ t.arb.active = s.arb.active

theorem KeepsSide.trans {s t u : State} (h1 : KeepsSide s t) (h2 : KeepsSide t u) : KeepsSide s u := by
  obtain ⟨a, b, c, d⟩ := h1
  obtain ⟨a', b', c', d'⟩ := h2
  exact ⟨a'.trans a, b'.trans b, c'.trans c, d'.trans d⟩

theorem keepsSide_of_rest {s t : State} (ps : List Part) (h : rest ps t = rest ps s) (hp : .pm ∉ ps) (ha : .arb ∉ ps) : KeepsSide s t := by
  rw [KeepsSide, rest_pm h hp, rest_arb h ha]
  exact ⟨rfl, rfl, rfl, rfl⟩

theorem coldCore_side (auto : Option Nat) (s : State) : KeepsSide s (coldCore auto s) := by
  unfold coldCore
  extract_lets s1 e core s2 s3 s4
  have h1 : KeepsSide s s1 := by
    unfold s1
    split
    · exact keepsSide_of_rest [.sadc, .wake, .hosts] (by simp) (by simp) (by simp)
    · exact ⟨rfl, rfl, rfl, rfl⟩
  have h2 : KeepsSide s s2 := h1
  have h3 : KeepsSide s2 (residentTables (earthStop s3)) :=
    keepsSide_of_rest [.core, .dies, .bridges, .conv, .sadc, .wake, .lmu] (by simp [s3]) (by simp) (by simp)
  have hn : KeepsSide s (noCopies (residentTables (earthStop s3))) := h2.trans h3
  have h4 : KeepsSide s s4 := hn.trans (keepsSide_of_rest [.core] (by simp [s4]) (by simp) (by simp))
  split
  · exact h4.trans (keepsSide_of_rest [.core] (by simp) (by simp) (by simp))
  · exact h4

theorem dawnStep_side (target : BitVec 2) (s : State) : KeepsSide s (dawnStep target s) := by
  unfold dawnStep
  extract_lets day
  split <;> exact ⟨rfl, rfl, rfl, rfl⟩

theorem degrade_side (s : State) : KeepsSide s (degrade s) := ⟨rfl, rfl, rfl, rfl⟩

theorem tdmReturnAll_side (s : State) : KeepsSide s (tdmReturnAll s) := by
  unfold tdmReturnAll
  split <;> exact ⟨rfl, rfl, rfl, rfl⟩

theorem startSide_side (x : Side) (s : State) : KeepsSide s (startSide x s) := by
  unfold startSide
  split <;> exact ⟨rfl, rfl, rfl, rfl⟩

theorem raiseDusk_side (s : State) : KeepsSide s (raiseDusk s) := by
  unfold raiseDusk
  split
  · split
    · split <;> exact ⟨rfl, rfl, rfl, rfl⟩
    · exact ⟨rfl, rfl, rfl, rfl⟩
  · exact ⟨rfl, rfl, rfl, rfl⟩

theorem resume_side (c : CoreSt) (s : State) : KeepsSide s (lineResume { s with core := resumed c }) := by
  have h : KeepsSide { s with core := resumed c } (lineResume { s with core := resumed c }) :=
    keepsSide_of_rest [.lmu] (by simp) (by simp) (by simp)
  exact h

/-- R310, R317: after step 9 the side runs frames. -/
theorem finishDawn_runs {s : State} {d : Dawn} (hd : s.pm.dawn = some d) (hb : s.pm.back = none) (hk : d.kind ≠ .back)
    (h9 : d.step = 9) (hw : d.wipe = false) :
    (finishDawn s).pm.st = d.target ∧ (finishDawn s).arb.coreRun = true ∧ (finishDawn s).arb.active = d.side := by
  have hk' : (d.kind == .back) = false := by simpa using hk
  unfold finishDawn
  split
  next hn => rw [hd] at hn; nomatch hn
  next d' hd' =>
  obtain rfl : d = d' := Option.some.inj (hd.symm.trans hd')
  rw [if_pos (by simp [h9, hw])]
  extract_lets keep s1 s2 t s3 s4 s5 s6 s7
  rw [hk', if_neg Bool.false_ne_true]
  have h1 : s1.pm.st = d.target ∧ s1.pm.back = none ∧ s1.arb.coreRun = true ∧ s1.arb.active = d.side := ⟨rfl, hb, rfl, rfl⟩
  have h2 : KeepsSide s1 s2 := ⟨rfl, rfl, rfl, rfl⟩
  have h3 : KeepsSide s2 s3 := by
    unfold s3
    generalize keep = kp
    have ht : KeepsSide s2 (if d.boot = true then modCore t fun c => { c with auto := bootSet t } else
        modMirror t fun m => { m with resume := 3 }) := by
      have ht : KeepsSide s2 t := coldCore_side _ s2
      clear_value t s2
      split <;> exact ht
    generalize s.pm.retCore = rc at ht ⊢
    clear_value t s2
    cases kp with
    | false => exact ht
    | true =>
      cases rc with
      | none => exact ht
      | some c => exact resume_side c s2
  clear_value s2 s3
  have h4 : KeepsSide s3 s4 := by
    unfold s4
    split
    · exact degrade_side s3
    · exact ⟨rfl, rfl, rfl, rfl⟩
  have h5 : KeepsSide s4 s5 := dawnStep_side _ _
  have h6 : KeepsSide s5 s6 := by
    unfold s6
    split
    · exact (show KeepsSide s5 (tdmHalt false s5) from ⟨rfl, rfl, rfl, rfl⟩).trans (tdmReturnAll_side _)
    · exact ⟨rfl, rfl, rfl, rfl⟩
  have h7 : KeepsSide s6 s7 := by
    unfold s7
    split
    · exact keepsSide_of_rest [] (by simp) (by simp) (by simp)
    · exact ⟨rfl, rfl, rfl, rfl⟩
  have hall := ((((h2.trans h3).trans h4).trans h5).trans h6).trans h7
  clear_value s7
  generalize hu : (if (decide (d.target = 0) && s7.pm.back.isNone) = true then startSide (other d.side) s7 else s7) = u
  have h8 : KeepsSide s1 u := by
    rw [← hu]
    split
    · exact hall.trans (startSide_side _ _)
    · exact hall
  rw [backNext_idle (h8.2.1.trans h1.2.1)]
  obtain ⟨a, -, b, c⟩ := h8.trans (raiseDusk_side u)
  exact ⟨a.trans h1.1, b.trans h1.2.2.1, c.trans h1.2.2.2⟩

/-! The retry, and the repeat (R319, R320). -/

theorem retryOffEnd_runs {s : State} {d : Dawn} (hd : s.pm.dawn = some d) (ho : d.off = true) :
    (retryOffEnd s).pm.dawn = some { d with off := false } ∧
    (d.step < 7 → ∀ k ∈ stepDoms s d d.step, domOn (retryOffEnd s) k = true) ∧ (7 ≤ d.step → (retryOffEnd s).pm.on = s.pm.on) := by
  have hr : retryOffEnd s = if d.step < 7 then setDoms (stepDoms s d d.step) true (modDawn (fun d => { d with off := false }) s)
      else modDawn (fun d => { d with off := false }) s := by
    rw [retryOffEnd, hd]
    exact if_pos ho
  have hm : (modDawn (fun d => { d with off := false }) s).pm.dawn = some { d with off := false } := by simp [modDawn, modPm, hd]
  rw [hr]
  refine ⟨?_, fun h7 k hk => ?_, fun h7 => ?_⟩
  · split
    · rw [setDoms_eq]
      exact hm
    · exact hm
  · rw [if_pos h7, setDoms_eq]
    exact (bit_onSet true (stepDoms_below s (.inl h7) hk) _ _).trans (if_pos hk)
  · rw [if_neg (by omega)]
    rfl

theorem dawnRepeat_restarts {s : State} (hr : s.pm.repeat_ = true) (hd : s.pm.dawn = none) (hk : s.clk.kfLock = true)
    (hw : s.ret.wiping = false) (hf : (s.feeds[(0 : Fin 2)].ok || s.feeds[(1 : Fin 2)].ok) = true) :
    ∃ e, (dawnRepeat s).pm.repeat_ = false ∧ (dawnRepeat s).pm.dawn = some e ∧ e.step = 1 ∧ domOn (dawnRepeat s) 2 = true ∧
      (s.pm.st = 3 → e.kind = .full ∧ e.boot = true ∧ e.target = 0 ∧ e.side = s.arb.selPref) ∧
      (s.pm.st = 2 → e.kind = .full ∧ e.boot = false ∧ e.side = s.arb.active ∧ ∀ c, wakeCode s = some c → e.target = wakeTarget c) ∧
      (s.pm.st.toNat < 2 → e.kind = .restart ∧ e.side = s.arb.active ∧ e.target = s.pm.st) := by
  rw [dawnRepeat, if_pos hr]
  split
  next h3 =>
    rw [bootDawn_begins (s := modPm s fun p => { p with repeat_ := false }) h3 hd rfl hk hw hf]
    have hp := beginDawn_pm 0 true s.arb.selPref 0 (modPm s fun p => { p with repeat_ := false })
    have hq := congrArg Pm.dawn hp
    refine ⟨_, congrArg Pm.repeat_ hp, hq, rfl, domOn_ks (congrArg Pm.on hp), fun _ => ⟨rfl, rfl, rfl, rfl⟩, fun h2 => ?_, fun h => ?_⟩
    · rw [h3] at h2
      exact absurd h2 (by decide)
    · rw [h3] at h
      exact absurd h (by decide)
  next h3 =>
    split
    next h2 =>
      have hp := beginDawn_pm (match wakeCode s with | some c => wakeTarget c | none => 1) false s.arb.active s.pm.wakeSrc.toNat s
      have hq := congrArg Pm.dawn hp
      refine ⟨_, congrArg Pm.repeat_ hp, hq, rfl, domOn_ks (congrArg Pm.on hp), fun h => absurd h h3,
        fun _ => ⟨rfl, rfl, rfl, fun c hc => by simp only [hc]⟩, fun h => ?_⟩
      rw [h2] at h
      exact absurd h (by decide)
    next h2 =>
      have hs : (modPm s fun p => { p with repeat_ := false
                                           dawn := some { kind := .restart, side := s.arb.active, step := 1, target := p.st } }).pm.dawn =
        some { kind := .restart, side := s.arb.active, step := 1, target := s.pm.st } := rfl
      have hp := enterStep_pm (n := 1) hs
      have hq := congrArg Pm.dawn hp
      exact ⟨_, congrArg Pm.repeat_ hp, hq, rfl, domOn_ks ((congrArg Pm.on hp).trans rfl), fun h => absurd h h3, fun h => absurd h h2,
        fun _ => ⟨rfl, rfl, rfl⟩⟩

/-- Settles O51: each row of the DAWN is the step that it ends, begins, retries or gives up, and the step that follows powers its
domains. -/
theorem dawnSequence : Obligations.DawnSequence := by
  intro s hs ok
  refine ⟨fun h3 hd hr hk hw hf => ?boot, fun c h2 hc hd hr he => ?night, fun hd => ⟨?_, fun w k => ?_, ?_⟩,
    fun d hd ho hback hb => ?step, fun d hd ho => ?retry, fun d hd => ?wipe, fun hr => ?idle, fun hr hd hk hw hf => ?again⟩
  case boot =>
    have hp := beginDawn_pm 0 true s.arb.selPref 0 s
    refine ⟨_, does_congr (dawnStart_does hs) ((if_pos h3).trans (bootDawn_begins h3 hd hr hk hw hf)), domOn_ks (congrArg Pm.on hp),
      ?_, ?_, ?_⟩
    · rw [hp]
      exact h3
    · rw [hp]
      rfl
    · rw [hp]
  case night =>
    have hp := beginDawn_pm (wakeTarget c) false s.arb.active c s
    refine ⟨_, does_congr (dawnStart_does hs) (dawnStart_night h2 hc hd hr he), domOn_ks (congrArg Pm.on hp), ?_, ?_, ?_⟩
    · rw [hp]
      exact h2
    · rw [hp]
    · rw [hp]
      rfl
  · exact does_congr (dawnStepReady_does hs) (by rw [stepReady, hd])
  · exact does_congr (dawnStepTimeout_does hs w k) (by rw [stepTimeout, hd])
  · exact does_congr (dawnRetryOffEnd_does hs) (by rw [retryOffEnd, hd])
  case step =>
    intro x goes
    refine ⟨fun hc hf => ⟨fun h1 h6 => ready_early hs hd ho hb hc hf h1 h6, fun h6 hk => ready_side hs hd ho hb hc hf h6 hk hback,
        fun h6 hk => ready_core hs hd ho hb hc hf h6 hk, fun h7 => ready_seven hs hd ho hb hc hf h7,
        fun h8 => ready_eight hs hd ho hb hc hf h8⟩,
      fun h => does_congr (dawnStepReady_does hs) (stepReady_waits hd h), fun h9 hw => finishDawn_runs hd hback hb h9 hw,
      fun w k => ⟨fun h9 hr => timeout_first hs hd ho w k h9 hr, fun h9 hr => ?_⟩⟩
    intro n latched
    refine ⟨fun h1 => timeout_ks hs hd ho w k hr hb h1, fun h2 h7 hk => timeout_side hs hd ho w k hr h2 h7 hk hback,
      fun h2 h7 hk hn hf => ?_, fun h2 h7 hk hn hf => ?_, fun h3 hk h33 hkf => ?_, fun i h2 h7 hk hn hi => ?_,
      fun h78 => timeout_late hs hd ho w k hr hb h78⟩
    · obtain ⟨u, hu, hl, -, hfe, -⟩ := timeout_core hs hd ho w k hr h2 h7 hk
      obtain ⟨e, h⟩ := coreStepFailed_other hl hn (by rw [hfe]; exact hf)
      exact ⟨_, e, hu, h⟩
    · obtain ⟨u, hu, hl, -, hfe, -⟩ := timeout_core hs hd ho w k hr h2 h7 hk
      exact ⟨_, hu, coreStepFailed_repeats hl (.inl ⟨hn, by rw [hfe]; exact hf⟩)⟩
    · obtain ⟨u, hu, hl, -, -, ha⟩ := timeout_core hs hd ho w k hr (by omega) (by omega) hk
      obtain ⟨e, h⟩ := coreStepFailed_keeper hl h33 h3 hkf
      rw [ha] at h
      exact ⟨_, e, hu, h⟩
    · obtain ⟨u, hu, hl, -, -, -⟩ := timeout_core hs hd ho w k hr h2 h7 hk
      exact ⟨_, hu, coreStepFailed_repeats hl (.inr ⟨i, hn, hi⟩)⟩
  case retry => exact ⟨_, dawnRetryOffEnd_does hs, retryOffEnd_runs hd ho⟩
  case wipe =>
    refine does_congr (delaySramWipeDone_does hs) ?_
    rw [sramWiped, modDawn, modPm, hd]
    rfl
  case idle =>
    refine does_congr (dawnRepeat_does hs) ?_
    rw [dawnRepeat, if_neg (by rw [hr]; decide)]
  case again =>
    obtain ⟨e, h⟩ := dawnRepeat_restarts hr hd hk hw hf
    exact ⟨_, e, dawnRepeat_does hs, h⟩

end Sys2Proof.Machine
end

section
/-!
PROOFS. O53: the framing of the two-wire targets and of the fast port (R333, R335, R339, R342-R347, R352-R354).
-/

namespace Sys2Proof.Machine

open Sys2Proof.Safety

/-! The rows are the port operations, after which the power manager looks at its wake sources. -/

section
variable {s : State} (hs : s.resetHeld = false) (w : TwId)
include hs

theorem twStart_does : DoesWake (.twStart w) s (twStart w s) := by
  simp only [DoesWake, exec, execTwStart, actWake, act_eq _ hs]

theorem twStop_does : DoesWake (.twStop w) s (twStop w s) := by
  simp only [DoesWake, exec, execTwStop, actWake, act_eq _ hs]

theorem twAddress_does (b : Byte) (n : Nat) : DoesWake (.twAddressByte w b n) s (twAddress w b n s) := by
  simp only [DoesWake, exec, execTwAddressByte, actWake, act_eq _ hs]

theorem twPointer_does (b : Byte) : DoesWake (.twPointerByte w b) s (twPointer w b s) := by
  simp only [DoesWake, exec, execTwPointerByte, actWake, act_eq _ hs]

theorem twAbort_does (r : Bool) : DoesWake (.twAckSlotAbort w r) s (twAbort w r s) := by
  simp only [DoesWake, exec, execTwAckSlotAbort, actWake, act_eq _ hs]

theorem stretchOut_does : DoesWake (.stretchTimeout w) s (stretchOut w s) := by
  simp only [DoesWake, exec, execStretchTimeout, actWake, act_eq _ hs]

theorem requestBegins_does : Does (.inbandRequest w) s (requestBegins w s) := by
  simp only [Does, exec, execInbandRequest, act_eq _ hs]

theorem requestEnds_does : Does (.inbandRequestEnd w) s (requestEnds w s) := by
  simp only [Does, exec, execInbandRequestEnd, act_eq _ hs]

theorem requestAgain_does : Does (.inbandRequestRedue w) s (requestAgain w s) := by
  simp only [Does, exec, execInbandRequestRedue, act_eq _ hs]

theorem nightMatch_does (b : Byte) : DoesWake (.nightAddressMatch w b) s (nightMatch w b s) := by
  simp only [DoesWake, exec, execNightAddressMatch, actWake, act_eq _ hs]

theorem logicReady_does (n : Nat) : DoesWake (.portLogicReady n) s (logicReady n s) := by
  simp only [DoesWake, exec, execPortLogicReady, actWake, act_eq _ hs]

theorem fpWrite_does (m3 : Bool) (page ptr : Byte) (bs : List Byte) : DoesWake (.wrq m3 page ptr bs) s (fpWrite m3 page ptr bs s) := by
  simp only [DoesWake, exec, execWrq, actWake, act_eq _ hs]

theorem fpRead_does (m3 : Bool) (page ptr : Byte) (n : Nat) : DoesWake (.rdq m3 page ptr n) s (fpRead m3 page ptr n s) := by
  simp only [DoesWake, exec, execRdq, actWake, act_eq _ hs]

theorem fpReadStatus_does (m3 : Bool) : Does (.rdsr m3) s (fpReadStatus m3 s) := by
  simp only [Does, exec, execRdsr, act_eq _ hs]

theorem fpBadOp_does (m3 : Bool) (op : Byte) : Does (.fastBadOpcode m3 op) s (fpBadOp m3 op s) := by
  simp only [Does, exec, execFastBadOpcode, act_eq _ hs]

theorem fpEnds_does : DoesWake .fastCsRise s (fpEnds s) := by
  simp only [DoesWake, exec, execFastCsRise, actWake, act_eq _ hs]

end

/-! The two-wire targets: what each operation does in a phase. -/

section
variable {s : State} {w : TwId}

theorem twStart_opens (hl : twListens s w = true)
    (hp : s.ports.tw[twIx w].phase = .idle ∨ s.ports.tw[twIx w].phase = .deaf ∨ s.ports.tw[twIx w].phase = .addr ∨
      s.ports.tw[twIx w].phase = .pointer) :
    twStart w s = modTw (setPhase w .addr none (endTransfer (twPort w) s)) w fun t => { t with reqRun := false } := by
  unfold twStart
  rcases hp with h | h | h | h <;> rw [h] <;> exact if_pos hl

theorem twStop_closes (hl : twListens s w = true)
    (hp : s.ports.tw[twIx w].phase = .idle ∨ s.ports.tw[twIx w].phase = .deaf ∨ s.ports.tw[twIx w].phase = .addr ∨
      s.ports.tw[twIx w].phase = .pointer) :
    twStop w s = modTw (setPhase w .idle none (endTransfer (twPort w) s)) w fun t => { t with use := t.cfg } := by
  unfold twStop
  rcases hp with h | h | h | h <;> rw [h] <;> exact if_pos hl

theorem tw_held {r : Bool} (h : s.ports.tw[twIx w].phase = .held r) : twStart w s = s ∧ twStop w s = s := by
  unfold twStart twStop
  rw [h]
  exact ⟨rfl, rfl⟩

section
variable (b : Byte) (n : Nat) (hp : s.ports.tw[twIx w].phase = .addr) (hl : twListens s w = true)
include hp hl

theorem twAddress_view : twAddress w b n s =
    match (if nightWindow s then none else addressView s w (fld b 1 7)) with
    | none => setNack true (setPhase w .deaf none s)
    | some h =>
      let s1 := setNack false s
      if bit b 0 then deliverBytes (readBytes ⟨twPort w, h⟩ n (setPhase w (.data true) (some h) s1))
      else setPhase w .pointer (some h) s1 := by
  unfold twAddress
  exact if_pos (by rw [hp, hl]; rfl)

theorem twAddress_refused (h : nightWindow s = true ∨ addressView s w (fld b 1 7) = none) :
    twAddress w b n s = setNack true (setPhase w .deaf none s) := by
  have hv : (if nightWindow s = true then none else addressView s w (fld b 1 7)) = none := by
    rcases h with h | h
    · rw [if_pos h]
    · rw [h, ite_self]
  rw [twAddress_view b n hp hl, hv]

theorem twAddress_opens {h : HostId} (hn : nightWindow s = false) (hv : addressView s w (fld b 1 7) = some h) :
    twAddress w b n s =
      if bit b 0 then deliverBytes (readBytes ⟨twPort w, h⟩ n (setPhase w (.data true) (some h) (setNack false s)))
      else setPhase w .pointer (some h) (setNack false s) := by
  rw [twAddress_view b n hp hl, hn, hv]
  rfl

end

theorem twAbort_closed (hp : s.ports.tw[twIx w].phase = .idle) (r : Bool) : twAbort w r s = s ∧ stretchOut w s = s := by
  have ho : twOpen s.ports.tw[twIx w] = false := by rw [twOpen, hp]
  exact ⟨if_neg (by rw [ho]; decide), if_neg (by rw [ho]; decide)⟩

theorem twAbort_restart (hp : s.ports.tw[twIx w].phase = .addr ∨ s.ports.tw[twIx w].phase = .pointer) :
    twAbort w true s = raiseLimited 112 (twIx w).val (twIx w).val none
      (setPhase w .addr none (modTw (endTransfer (twPort w) s) w fun t => { t with rsack := sat8 t.rsack })) := by
  have ho : twOpen s.ports.tw[twIx w] = true := by
    rcases hp with h | h <;> rw [twOpen, h]
  have hf : fetched w s.ports.tw[twIx w] s = s := by
    rcases hp with h | h <;> rw [fetched, h]
  simp only [twAbort, ho, hf, if_true]

theorem stretchOut_open (hp : s.ports.tw[twIx w].phase = .addr ∨ s.ports.tw[twIx w].phase = .pointer) :
    stretchOut w s = raiseEv 113 (twIx w).val
      (modTw (setPhase w .deaf none (endTransfer (twPort w) s)) w fun t => { t with sto := true }) := by
  have ho : twOpen s.ports.tw[twIx w] = true := by
    rcases hp with h | h <;> rw [twOpen, h]
  exact if_pos ho

theorem requestEnds_runs (h : s.ports.tw[twIx w].reqRun = true) :
    requestEnds w s = modTw s w fun t => { t with reqRun := false, due := false } := by
  have hv : vmod s.ports.tw (twIx w) (fun t => if t.reqRun then { t with reqRun := false, due := false } else t) =
      vmod s.ports.tw (twIx w) (fun t => { t with reqRun := false, due := false }) := by
    simp only [vmod, h, if_true]
  exact congrArg (fun v => { s with ports := { s.ports with tw := v } }) hv

theorem nightMatch_eq (b : Byte) (hw : w ≠ .p) (hl : portLogicUp s = false) (hp : s.ports.tw[twIx w].phase = .idle) :
    nightMatch w b s =
      match addressView s w (fld b 1 7) with
      | some h => wakeDawn (10 + (twIx w).val) (setPhase w (.held (bit b 0)) (some h) (setNack false s))
      | none => setNack true s := by
  refine if_pos ?_
  rw [hl, hp]
  simpa using hw

theorem twPointer_sets (b : Byte) {h : HostId} (hp : s.ports.tw[twIx w].phase = .pointer) (hv : s.ports.tw[twIx w].view = some h) :
    twPointer w b s = setNack false (setPhase w (.data false) (some h)
      (modPv s ⟨twPort w, h⟩ fun v => { v with ptr := b, hold := none })) := by
  simp only [twPointer, hp, hv]

theorem logicReadyOn_write (n : Nat) {h : HostId} (hp : s.ports.tw[twIx w].phase = .held false)
    (hv : s.ports.tw[twIx w].view = some h) : logicReadyOn n w s = setPhase w .pointer (some h) s := by
  simp only [logicReadyOn, hp, hv]

/-- R345, R316: the address wakes the device from NIGHT, toward DUSK. -/
theorem nightMatch_wakes {h : HostId} {r : Bool} (h2 : s.pm.st = 2) (hd : s.pm.dawn = none) (hr : s.pm.repeat_ = false) :
    ∃ d, let t := wakeDawn (10 + (twIx w).val) (setPhase w (.held r) (some h) (setNack false s))
      (t.ports.tw[twIx w]).phase = .held r ∧ (t.ports.tw[twIx w]).view = some h ∧ t.ports.nack = false ∧
      t.pm.wakeSrc.toNat = 10 + (twIx w).val ∧ t.pm.dawn = some d ∧ d.step = 1 ∧ d.target = 1 ∧ d.side = s.arb.active := by
  have hu : wakeDawn (10 + (twIx w).val) (setPhase w (.held r) (some h) (setNack false s)) =
      beginDawn (wakeTarget (10 + (twIx w).val)) false s.arb.active (10 + (twIx w).val)
        (setPhase w (.held r) (some h) (setNack false s)) :=
    if_pos (by
      show (decide (s.pm.st = 2) && s.pm.dawn.isNone && !s.pm.repeat_) = true
      rw [h2, hd, hr]
      rfl)
  have hi : (twIx w).val < 3 := (twIx w).isLt
  rw [hu]
  have hp := beginDawn_pm (wakeTarget (10 + (twIx w).val)) false s.arb.active (10 + (twIx w).val)
    (setPhase w (.held r) (some h) (setNack false s))
  have hq : (beginDawn (wakeTarget (10 + (twIx w).val)) false s.arb.active (10 + (twIx w).val)
      (setPhase w (.held r) (some h) (setNack false s))).ports = (setPhase w (.held r) (some h) (setNack false s)).ports :=
    rest_ports (ps := [.arb, .pm]) (by simp) (by simp)
  have htw := modTw_tw w w (fun t => { t with phase := .held r, view := some h }) (setNack false s)
  rw [if_pos rfl] at htw
  refine ⟨_, ?_, ?_, ?_, ?_, congrArg Pm.dawn hp, rfl, if_neg (by omega), rfl⟩
  · rw [hq]
    exact congrArg TwPort.phase htw
  · rw [hq]
    exact congrArg TwPort.view htw
  · rw [hq]
    rfl
  · rw [congrArg Pm.wakeSrc hp]
    simp
    omega

end

/-! The fast port. -/

theorem dropStaging_fp (pv : PortView) (s : State) : (dropStaging pv s).ports.fp = s.ports.fp := by
  unfold dropStaging
  split
  · rfl
  · extract_lets s1
    split <;> rfl

theorem endTransfer_fp (q : PortId) (s : State) : (endTransfer q s).ports.fp = s.ports.fp := by
  have hv (pv : PortView) (t : State) : (endView pv t).ports.fp = t.ports.fp := dropStaging_fp pv t
  rw [endTransfer, hv, hv, hv]

/-- Settles O53: each row of a port's framing, by the phase in which it finds the port. -/
theorem twoWireAndFastPort : Obligations.TwoWireAndFastPort := by
  refine ⟨fun s w hs => ?tw, fun s m3 hs => ?fp⟩
  case tw =>
    intro x pt
    refine ⟨fun hl hp => ⟨?_, ?_⟩, fun r hp => ⟨?_, ?_⟩, fun b n hp hl => ⟨fun hn => ?_, fun hn hv => ?_, fun h hn hv => ⟨fun h0 => ?_, fun h0 => ?_⟩⟩,
      fun b h hp hv => ?_, fun hp => ⟨?_, ?_⟩, fun hp => ⟨fun r => ?_, ?_⟩, fun hr hd hp h2 => ?_, fun h2 => ?_, fun hr => ?_,
      fun hr ho hq ht => ?_, fun b hw hl hp => ⟨fun h hv => ?_, fun h hv h2 hd hr he => ?_, fun hv => ?_⟩, fun n hl => ?_,
      fun n h hp hv => ?_⟩
    · exact doesWake_congr (twStart_does hs w) (twStart_opens hl hp)
    · exact doesWake_congr (twStop_does hs w) (twStop_closes hl hp)
    · exact doesWake_congr (twStart_does hs w) (tw_held hp).1
    · exact doesWake_congr (twStop_does hs w) (tw_held hp).2
    · exact doesWake_congr (twAddress_does hs w b n) (twAddress_refused b n hp hl (.inl hn))
    · exact doesWake_congr (twAddress_does hs w b n) (twAddress_refused b n hp hl (.inr hv))
    · exact doesWake_congr (twAddress_does hs w b n) ((twAddress_opens b n hp hl hn hv).trans (if_neg (by rw [h0]; decide)))
    · exact doesWake_congr (twAddress_does hs w b n) ((twAddress_opens b n hp hl hn hv).trans (if_pos h0))
    · exact doesWake_congr (twPointer_does hs w b) (twPointer_sets b hp hv)
    · exact doesWake_congr (twAbort_does hs w true) (twAbort_restart hp)
    · exact doesWake_congr (stretchOut_does hs w) (stretchOut_open hp)
    · exact doesWake_congr (twAbort_does hs w r) (twAbort_closed hp r).1
    · exact doesWake_congr (stretchOut_does hs w) (twAbort_closed hp true).2
    · refine does_congr (requestBegins_does hs w) (if_pos ?_)
      rw [hr, hd, hp]
      simpa using h2
    · refine does_congr (requestBegins_does hs w) (if_neg ?_)
      simp [h2]
    · exact does_congr (requestEnds_does hs w) (requestEnds_runs hr)
    · refine does_congr (requestAgain_does hs w) (if_pos ?_)
      have hq' : (s.hosts.evq[hostIx .a]).isEmpty = false := by
        rw [Bool.eq_false_iff]
        exact fun h => hq (List.isEmpty_iff.mp h)
      have ht' : s.hosts.evTouched[hostIx .a] = false := ht
      simp only [hr, ho, hq', ht', Bool.not_false, Bool.and_self, Bool.true_or]
    · exact doesWake_congr (nightMatch_does hs w b) ((nightMatch_eq b hw hl hp).trans (by rw [hv]))
    · obtain ⟨d, hd⟩ := nightMatch_wakes (h := h) (r := bit b 0) h2 hd hr
      exact ⟨_, d, doesWake_congr (nightMatch_does hs w b) ((nightMatch_eq b hw hl hp).trans (by rw [hv])), hd⟩
    · exact doesWake_congr (nightMatch_does hs w b) ((nightMatch_eq b hw hl hp).trans (by rw [hv]))
    · exact doesWake_congr (logicReady_does hs n) (if_pos hl)
    · exact logicReadyOn_write n hp hv
  case fp =>
    refine ⟨fun hl => ?_, fun hl page ptr bs n op => ⟨?_, ?_, ?_, ?_⟩, fun h => ?_, fun h => ?_⟩
    · intro t
      refine ⟨fun page ptr h hv => ?_, fun op h1 h2 h3 => ?_, rfl, rfl⟩
      · intro u
        refine ⟨fun bs => ?_, fun n => ?_, ?_⟩
        · refine doesWake_congr (fpWrite_does hs m3 page ptr bs) ?_
          unfold fpWrite
          rw [hl]
          simp only [Bool.not_true, Bool.false_eq_true, if_false]
          rw [hv]
          rfl
        · refine doesWake_congr (fpRead_does hs m3 page ptr n) ?_
          unfold fpRead
          rw [hl]
          simp only [Bool.not_true, Bool.false_eq_true, if_false]
          rw [hv]
          rfl
        · refine does_congr (fpReadStatus_does hs m3) ?_
          unfold fpReadStatus
          rw [hl]
          simp only [Bool.not_true, Bool.false_eq_true, if_false]
          rw [hv]
          rfl
      · refine does_congr (fpBadOp_does hs m3 op) (if_neg ?_)
        simp only [hl, h1, h2, h3, Bool.not_true, decide_false, Bool.or_self, Bool.false_eq_true, not_false_eq_true]
    · exact doesWake_congr (fpWrite_does hs m3 page ptr bs) (if_pos (by rw [hl]; rfl))
    · exact doesWake_congr (fpRead_does hs m3 page ptr n) (if_pos (by rw [hl]; rfl))
    · exact does_congr (fpReadStatus_does hs m3) (if_pos (by rw [hl]; rfl))
    · exact does_congr (fpBadOp_does hs m3 op) (if_pos (by rw [hl]; rfl))
    · refine ⟨_, doesWake_congr (fpEnds_does hs) (if_pos h), ?_⟩
      exact congrArg (fun f : FpPort => { f with sel := false }) (endTransfer_fp .f s)
    · exact doesWake_congr (fpEnds_does hs) (if_neg (by rw [h]; decide))

end Sys2Proof.Machine
end

section
/-!
PROOFS. O54: port P as controller (R349-R351, R416).
-/

namespace Sys2Proof.Machine

open Sys2Proof.Safety

/-! A commit of PC_XFER (R349). -/

section
variable {s : State} {q : PortId} (v : Word)

theorem commit_pcXfer_refused (hb : s.ports.pc.busy = true) :
    commitReg ⟨q, .a⟩ 4 0x5F v s = ignoreReg ⟨q, .a⟩ 14 4 0x5F s :=
  commitReg_hostA_refused (r := .pcXfer) _ rfl rfl rfl rfl rfl (if_pos (by rw [hb]; rfl))

theorem commit_pcXfer (hb : s.ports.pc.busy = false) (hc : coreUp s = true)
    (hv : bit v 24 = true → fld (v &&& 0x1FFFF7F) 0 24 = 0) : commitReg ⟨q, .a⟩ 4 0x5F v s = pcStart (v &&& 0x1FFFF7F) s := by
  refine commitReg_hostA (r := .pcXfer) _ rfl rfl rfl rfl rfl ?_
  show pcBad s (v &&& 0x1FFFF7F) = none
  rw [pcBad, if_neg (by rw [hb, hc]; decide), if_neg]
  rw [bit_covered v (by decide)]
  cases h : bit v 24 with
  | false => exact Bool.false_ne_true
  | true =>
    rw [hv h]
    decide

theorem bit_setBit_same : bit (setBit v 24 false) 24 = false ∧ bit (setBit v 24 true) 24 = true :=
  ⟨bit_setBit v 24 24 false (by decide), bit_setBit v 24 24 true (by decide)⟩

/-- A transfer carries the fields of its word. -/
theorem pcTransfer_fields :
    (setBit v 24 false &&& 0x1FFFF7F).setWidth 7 = v.setWidth 7 ∧
    (setBit v 24 false &&& 0x1FFFF7F).extractLsb' 8 8 = v.extractLsb' 8 8 ∧
    (setBit v 24 false &&& 0x1FFFF7F).extractLsb' 16 8 = v.extractLsb' 16 8 ∧
    bit (setBit v 24 false &&& 0x1FFFF7F) 24 = false := by
  have hs : setBit v 24 false = v &&& 0xFEFFFFFF := rfl
  refine ⟨?_, ?_, ?_, ?_⟩
  · rw [setWidth_covered _ (by decide), hs, setWidth_covered v (by decide)]
  · rw [extract_covered _ (by decide), hs, extract_covered v (by decide)]
  · rw [extract_covered _ (by decide), hs, extract_covered v (by decide)]
  · rw [bit_covered _ (by decide)]
    exact (bit_setBit_same v).1

theorem pcBusClear_field (h : v &&& 0xFFFFFF = 0) : fld (setBit v 24 true &&& 0x1FFFF7F) 0 24 = 0 := by
  have hv : v.setWidth 24 = 0 := by
    rw [← setWidth_covered (m := 0xFFFFFF) v (by decide), h]
    rfl
  have hw : (setBit v 24 true &&& 0x1FFFF7F).setWidth 24 = 0 := by
    rw [BitVec.setWidth_and, show setBit v 24 true = v ||| 0x1000000 from rfl, BitVec.setWidth_or, hv]
    decide
  have hf : fld (setBit v 24 true &&& 0x1FFFF7F) 0 24 = ((setBit v 24 true &&& 0x1FFFF7F).setWidth 24).toNat := by
    rw [BitVec.toNat_setWidth, fld, Nat.shiftRight_zero]
  rw [hf, hw]
  rfl

/-! The two FIFOs of port P (R416). -/

theorem fifoPush_pc (b : Byte) : fifoPush ⟨q, .a⟩ 4 0xF0 b s =
    if !coreUp s || 256 ≤ s.ports.pc.tx.length then fifoFull q s
    else modPorts (modPc (fun c => { c with tx := c.tx ++ [b] }) s) fun p => { p with nack := false } := by
  have h : fifoTakes ⟨q, .a⟩ 4 0xF0 b s =
      if !coreUp s || 256 ≤ s.ports.pc.tx.length then (false, s) else (true, modPc (fun c => { c with tx := c.tx ++ [b] }) s) := rfl
  unfold fifoPush
  rw [h]
  split <;> rfl

theorem fifoGives_pc : fifoGives ⟨q, .a⟩ 4 0xF1 s = popRx s := rfl

end

/-! The ends of a transfer (R349-R351). -/

section
variable {s : State} (hs : s.resetHeld = false)
include hs

theorem pcTransferEnds_does (cl : Bool) (r : PcEnd) : Does (.pcTransferEnd cl r) s (pcTransferEnds cl r s) := by
  simp only [Does, exec, execPcTransferEnd, act_eq _ hs]

theorem pcLost_does : Does .arbitrationLost s (pcLost s) := by
  simp only [Does, exec, execArbitrationLost, act_eq _ hs]

theorem pcRetry_does : Does .arbitrationRetry s (pcRetry s) := by
  simp only [Does, exec, execArbitrationRetry, act_eq _ hs]

end

theorem pcTransferEnds_outcome {s : State} (r : PcEnd) (hb : s.ports.pc.busy = true) (hr : s.ports.pc.retry = false)
    (hc : s.ports.pc.clear = false) :
    pcTransferEnds false r s = pcOutcome r (if pcStuck r then pcCleared (pcStuck r) s else s) := by
  simp only [pcTransferEnds, hb, hr, hc, Bool.not_true, Bool.or_self, Bool.false_eq_true, if_false, Bool.false_or]

theorem pcLost_counts {s : State} (hb : s.ports.pc.busy = true) (hc : s.ports.pc.clear = false) (hr : s.ports.pc.retry = false) :
    pcLost s =
      let t := modPc (fun c => { c with arbLost := sat8 c.arbLost, losses := c.losses + 1, retry := true }) s
      if 16 ≤ s.ports.pc.losses + 1 then pcEnds 4 t else t := by
  refine if_neg ?_
  rw [hb, hc, hr]
  decide

/-- Settles O54: a commit starts, and each end gives its result; the FIFOs take and give bytes. -/
theorem portPController : Obligations.PortPController := by
  intro s hs
  refine ⟨fun q v => ?commits, fun cl r hb => ?_, fun r hb hr hc => ⟨fun rx h => ?_, fun h => ?_, fun h => ?_, fun h => ?_⟩,
    fun hb hc hr => ?lost, pcRetry_does hs, fun n => ⟨_, rfl, rfl⟩⟩
  case commits =>
    intro pv hv hc
    have row {c : Instr} {w : Word} {t : State} (he : exec c s = hostAct ⟨q, .a⟩ s (commitRow ⟨q, .a⟩ 4 0x5C w))
        (ht : commitReg ⟨q, .a⟩ 4 0x5F w s = t) : DoesWake c s t := by
      rw [DoesWake, he, hostAct_open _ hs hv, commitRow, ht]
    obtain ⟨ha, hw, hr, h24⟩ := pcTransfer_fields v
    have hset := bit_setBit_same v
    refine ⟨fun hb => ?_, fun hb => ⟨row rfl (commit_pcXfer_refused _ hb), row rfl (commit_pcXfer_refused _ hb)⟩, fun hb h0 => ?_,
      fun b hl => ?_, fun b hl => ?_, fun b bs hrx => ?_⟩
    · refine ⟨_, row rfl (commit_pcXfer _ hb hc fun h => ?_), ?_⟩
      · rw [hset.1] at h
        nomatch h
      · simp only [pcStart, modPc, modPorts, ha, hw, hr, h24]
    · refine ⟨_, row rfl (commit_pcXfer _ hb hc fun _ => pcBusClear_field v h0), rfl, ?_⟩
      show bit (setBit v 24 true &&& 0x1FFFF7F) 24 = true
      rw [bit_covered _ (by decide)]
      exact hset.2
    · refine ⟨modPorts (modPc (fun c => { c with tx := c.tx ++ [b] }) s) fun p => { p with nack := false }, ?_, rfl, rfl⟩
      simp only [DoesWake, exec, execPortpTxPush, hostAct_open _ hs hv]
      rw [fifoPush_pc, if_neg]
      simpa [hc] using hl
    · simp only [DoesWake, exec, execPortpTxPush, hostAct_open _ hs hv]
      rw [fifoPush_pc, if_pos]
      simpa using .inr hl
    · have hg : fifoGives pv 4 0xF1 s = (some b, modPc (fun c => { c with rx := bs }) s) := by
        rw [fifoGives_pc, popRx, hrx]
        simp [hc]
      refine ⟨{ s with ports := { s.ports with pc := { s.ports.pc with rx := bs }, rd := [b] } }, ?_, rfl, rfl⟩
      simp only [DoesWake, exec, execPortpRxPop, hostAct_open _ hs hv]
      rw [popRow_some hg]
      rfl
  · exact does_congr (pcTransferEnds_does hs cl r) (if_pos (by rw [hb]; rfl))
  · exact does_congr (pcTransferEnds_does hs false r) (by rw [pcTransferEnds_outcome r hb hr hc, h]; rfl)
  · exact does_congr (pcTransferEnds_does hs false r) (by rw [pcTransferEnds_outcome r hb hr hc, h]; rfl)
  · exact does_congr (pcTransferEnds_does hs false r) (by rw [pcTransferEnds_outcome r hb hr hc, h]; rfl)
  · exact does_congr (pcTransferEnds_does hs false r) (by rw [pcTransferEnds_outcome r hb hr hc, h]; rfl)
  case lost =>
    intro t
    refine ⟨fun hl => ?_, fun hl => ?_⟩
    · exact does_congr (pcLost_does hs) ((pcLost_counts hb hc hr).trans (if_neg (by omega)))
    · exact does_congr (pcLost_does hs) ((pcLost_counts hb hc hr).trans (if_pos (by omega)))

end Sys2Proof.Machine
end

section
/-!
PROOFS. O55: the life cycle and the site key (R390-R393).
-/

namespace Sys2Proof.Machine

open Sys2Proof.Safety

/-! The word that commits LC_REQ (R391, R392). -/

/-- The word as LC_REQ takes it: bit 31 requests, bit 3 tells a key write from a transition. -/
def lcWord (v : Word) (key : Bool) : Word := setBit (setBit v 31 true) 3 key &&& 0x8000000F

theorem fld_zero {n : Nat} (v : Word) : fld v 0 n = (v.setWidth n).toNat := by
  rw [BitVec.toNat_setWidth, fld, Nat.shiftRight_zero]

theorem lcWord_fields (v : Word) (key : Bool) : bit (lcWord v key) 31 = true ∧ bit (lcWord v key) 3 = key ∧
    (lcWord v key).setWidth 3 = v.setWidth 3 ∧ fld (lcWord v key) 0 3 = fld v 0 3 := by
  have h31 : bit (lcWord v key) 31 = true := by
    rw [lcWord, bit_covered _ (by decide), bit_setBit _ _ _ _ (by decide), if_neg (by decide), bit_setBit _ _ _ _ (by decide), if_pos rfl]
  have h3 : bit (lcWord v key) 3 = key := by
    rw [lcWord, bit_covered _ (by decide), bit_setBit _ _ _ _ (by decide), if_pos rfl]
  have hs : (setBit v 31 true).setWidth 3 = v.setWidth 3 := by
    rw [show setBit v 31 true = v ||| 0x80000000 from rfl, BitVec.setWidth_or]
    exact BitVec.or_zero
  have hw : (lcWord v key).setWidth 3 = v.setWidth 3 := by
    rw [lcWord, setWidth_covered _ (by decide), ← hs]
    cases key with
    | false => exact setWidth_covered (m := ~~~ BitVec.ofNat 32 (2 ^ 3)) _ (by decide)
    | true =>
      rw [show setBit (setBit v 31 true) 3 true = setBit v 31 true ||| 8 from rfl, BitVec.setWidth_or]
      exact BitVec.or_zero
  exact ⟨h31, h3, hw, by rw [fld_zero, fld_zero, hw]⟩

section
variable {s : State} {q : PortId} (v : Word)

theorem commit_lcReq (key : Bool) : commitReg ⟨q, .a⟩ 8 0x0B (setBit (setBit v 31 true) 3 key) s =
    orIgnore ⟨q, .a⟩ 8 0x0B (lcRequest (lcWord v key) s) s :=
  commitReg_hostA (r := .lcReq) _ rfl rfl rfl rfl rfl rfl

/-- The state with the fields of LC_REQ kept. -/
def lcKept (w : Word) (s : State) : State := modRet s fun r => { r with reqTarget := w.setWidth 3, reqKeyw := bit w 3 }

theorem lcRequest_transition : lcRequest (lcWord v false) s =
    match lcBad s (lcWord v false) with
    | some r => .inl r
    | none => .inr (lcAccept (lcWord v false) (lcKept (lcWord v false) s)) := by
  obtain ⟨h31, h3, -, -⟩ := lcWord_fields v false
  simp only [lcRequest, lcKept, h31, h3, Bool.not_true, Bool.false_eq_true, if_false] <;> rfl

theorem lcRequest_key : lcRequest (lcWord v true) s =
    match keyBad s (lcWord v true) with
    | some r => .inl r
    | none => .inr (keyAccept (lcKept (lcWord v true) s)) := by
  obtain ⟨h31, h3, -, -⟩ := lcWord_fields v true
  simp only [lcRequest, lcKept, h31, h3, Bool.not_true, Bool.false_eq_true, if_false, if_true] <;> rfl

theorem commit_transition_refused {r : Nat} (h : lcBad s (lcWord v false) = some r) :
    commitReg ⟨q, .a⟩ 8 0x0B (setBit (setBit v 31 true) 3 false) s = ignoreReg ⟨q, .a⟩ r 8 0x0B s := by
  rw [commit_lcReq, lcRequest_transition, h]
  rfl

theorem commit_transition (h : lcBad s (lcWord v false) = none) :
    commitReg ⟨q, .a⟩ 8 0x0B (setBit (setBit v 31 true) 3 false) s = lcAccept (lcWord v false) (lcKept (lcWord v false) s) := by
  rw [commit_lcReq, lcRequest_transition, h]
  rfl

theorem commit_key_refused {r : Nat} (h : keyBad s (lcWord v true) = some r) :
    commitReg ⟨q, .a⟩ 8 0x0B (setBit (setBit v 31 true) 3 true) s = ignoreReg ⟨q, .a⟩ r 8 0x0B s := by
  rw [commit_lcReq, lcRequest_key, h]
  rfl

theorem commit_key (h : keyBad s (lcWord v true) = none) :
    commitReg ⟨q, .a⟩ 8 0x0B (setBit (setBit v 31 true) 3 true) s = keyAccept (lcKept (lcWord v true) s) := by
  rw [commit_lcReq, lcRequest_key, h]
  rfl

/-! The checks in their order (R391, R392). -/

theorem lcBad_busy (w : Word) (h : lcBusy s = true) : lcBad s w = some 14 ∧ keyBad s w = some 14 := ⟨if_pos h, if_pos h⟩

section
variable (w : Word) (hb : lcBusy s = false)
include hb

theorem lcBad_unlisted (hl : lcListed s.ret.lc.toNat (fld w 0 3) = false) : lcBad s w = some 6 := by
  simp only [lcBad, hb, hl, Bool.false_eq_true, Bool.not_false, if_false, if_true]

theorem lcBad_tagged (hl : lcListed s.ret.lc.toNat (fld w 0 3) = true) (h1 : 1 ≤ s.ret.lc.toNat) (h4 : s.ret.lc.toNat < 4) :
    lcBad s w = if lcTagOk s w = false then some 7
      else if serialGt 32 s.ret.nonce.toNat s.ret.nonceLast.toNat = false then some 8 else none := by
  have ht : lcTagged s.ret.lc.toNat = true := by
    rw [lcTagged, Bool.and_eq_true]
    exact ⟨decide_eq_true h1, decide_eq_true h4⟩
  simp only [lcBad, hb, hl, ht, Bool.false_eq_true, Bool.not_true, if_false, Bool.true_and, Bool.not_eq_true']

theorem lcBad_open (hl : lcListed s.ret.lc.toNat (fld w 0 3) = true) (h : s.ret.lc.toNat = 0 ∨ s.ret.lc.toNat = 4) :
    lcBad s w = none := by
  have ht : lcTagged s.ret.lc.toNat = false := by
    rcases h with h | h <;> rw [h] <;> rfl
  simp only [lcBad, hb, hl, ht, Bool.false_eq_true, Bool.not_true, if_false, Bool.false_and]

theorem keyBad_written (h : s.ret.key ≠ none) : keyBad s w = some 3 := by
  have hk : s.ret.key.isSome = true := Option.isSome_iff_ne_none.mpr h
  simp only [keyBad, hb, hk, Bool.false_eq_true, if_false, if_true]

theorem keyBad_state (hk : s.ret.key = none) :
    keyBad s w = if s.ret.lc.toNat ≠ 1 ∨ fld w 0 3 ≠ 1 then some 6 else none := by
  have hl : s.ret.lc ≠ 1 ↔ s.ret.lc.toNat ≠ 1 := by
    rw [ne_eq, ← BitVec.toNat_inj]
    rfl
  simp only [keyBad, hb, hk, Option.isSome_none, Bool.false_eq_true, if_false, Bool.or_eq_true, decide_eq_true_eq, hl]
  by_cases h1 : s.ret.lc.toNat = 1
  · simp [h1]
  · simp [h1]

end
end

theorem wipeDone_does {s : State} (hs : s.resetHeld = false) : Does .wipeDone s (wipeDone s) := by
  simp only [Does, exec, execWipeDone, act_eq _ hs]

theorem lcTagged_iff {n : Nat} : lcTagged n = true ↔ 1 ≤ n ∧ n < 4 := by
  rw [lcTagged, Bool.and_eq_true, decide_eq_true_eq, decide_eq_true_eq]

/-- Settles O55: LC_REQ commits are the checks of their order, and an accepted one begins the wipe or writes the key. -/
theorem lifeCycle : Obligations.LifeCycle := by
  intro s hs
  refine ⟨fun q v => ?requests, fun t hw ht hn => ?_, fun hw => ?_, fun a b => ?_⟩
  case requests =>
    intro pv hv tgt w lc
    have htr {t : State} (ht : commitReg ⟨q, .a⟩ 8 0x0B (setBit (setBit v 31 true) 3 false) s = t) : DoesWake (.lcTransition pv v) s t := by
      rw [DoesWake, show exec (.lcTransition pv v) s = hostAct ⟨q, .a⟩ s (commitRow ⟨q, .a⟩ 8 0x08 (setBit (setBit v 31 true) 3 false))
        from rfl, hostAct_open _ hs hv, commitRow, ht]
    have hkw {t : State} (ht : commitReg ⟨q, .a⟩ 8 0x0B (setBit (setBit v 31 true) 3 true) s = t) : DoesWake (.keyWrite pv v) s t := by
      rw [DoesWake, show exec (.keyWrite pv v) s = hostAct ⟨q, .a⟩ s (commitRow ⟨q, .a⟩ 8 0x08 (setBit (setBit v 31 true) 3 true))
        from rfl, hostAct_open _ hs hv, commitRow, ht]
    obtain ⟨-, -, hw3, hft⟩ := lcWord_fields v false
    obtain ⟨-, -, -, hfk⟩ := lcWord_fields v true
    refine ⟨fun hb => ⟨htr (commit_transition_refused v (lcBad_busy _ hb).1), hkw (commit_key_refused v (lcBad_busy _ hb).2)⟩,
      fun hb hl => htr (commit_transition_refused v (lcBad_unlisted _ hb (by rw [hft]; exact hl))), fun hb hl h1 h4 => ?_,
      fun hb h04 hl => ?_, fun hb hk => hkw (commit_key_refused v (keyBad_written _ hb hk)), fun hb hk h => ?_, fun hb hk h1 ht => ?_⟩
    · have hbad := lcBad_tagged (lcWord v false) hb (by rw [hft]; exact hl) h1 h4
      refine ⟨fun ht => ?_, fun ht hn => ?_, fun ht hn => ?_⟩
      · exact htr (commit_transition_refused v (hbad.trans (if_pos ht)))
      · exact htr (commit_transition_refused v (hbad.trans ((if_neg (by rw [show lcTagOk s (lcWord v false) = true from ht]; decide)).trans
          (if_pos hn))))
      · have hnone := hbad.trans ((if_neg (by rw [show lcTagOk s (lcWord v false) = true from ht]; decide)).trans
          (if_neg (by rw [hn]; decide)))
        exact ⟨_, htr (commit_transition v hnone), rfl, congrArg some hw3, if_pos (lcTagged_iff.mpr ⟨h1, h4⟩), rfl⟩
    · have hnone := lcBad_open (lcWord v false) hb (by rw [hft]; exact hl) h04
      refine ⟨_, htr (commit_transition v hnone), rfl, congrArg some hw3, if_neg fun h => ?_, rfl⟩
      have := lcTagged_iff.mp h
      have hlc : (lcKept (lcWord v false) s).ret.lc.toNat = lc := rfl
      omega
    · exact hkw (commit_key_refused v ((keyBad_state _ hb hk).trans (if_pos (by rw [hfk]; exact h))))
    · refine ⟨_, hkw (commit_key v ((keyBad_state _ hb hk).trans (if_neg ?_))), rfl, rfl⟩
      rw [hfk]
      rintro (h | h)
      · exact h h1
      · exact h ht
  · refine does_congr (wipeDone_does hs) ?_
    simp only [wipeDone, hw, ht, hn, Option.isSome_none, Bool.false_eq_true, if_false]
  · refine does_congr (wipeDone_does hs) ?_
    simp only [wipeDone, hw]
  · simp [lcListed, or_assoc]

end Sys2Proof.Machine
end

section
/-!
PROOFS. O56: image sets, messages, packages and saves (R382, R389, R395, R396, R399).
-/

namespace Sys2Proof.Machine

open Sys2Proof.Safety

/-! The word of an IMG_CTRL row (R399). -/

/-- The word of a row with operation `op`, as IMG_CTRL takes it. -/
def imgWordOf (op : Fin 8) (v : Word) : Word := ((v &&& ~~~ 7#32) ||| BitVec.ofNat 32 op.val) &&& 0xFFFFFF1F

theorem fld_extract {lo n : Nat} (v : Word) : fld v lo n = (v.extractLsb' lo n).toNat := by
  rw [BitVec.extractLsb'_toNat, fld]

theorem imgWordOf_fields (op : Fin 8) (v : Word) : fld (imgWordOf op v) 0 3 = op.val ∧ fld (imgWordOf op v) 8 8 = fld v 8 8 ∧
    fld (imgWordOf op v) 16 16 = fld v 16 16 ∧ bit (imgWordOf op v) 3 = bit v 3 ∧ bit (imgWordOf op v) 4 = bit v 4 := by
  have hx (lo n : Nat) (h : (~~~ 7#32).extractLsb' lo n = BitVec.allOnes n) (ho : (BitVec.ofNat 32 op.val).extractLsb' lo n = 0) :
      fld ((v &&& ~~~ 7#32) ||| BitVec.ofNat 32 op.val) lo n = fld v lo n := by
    rw [fld_extract, fld_extract, BitVec.extractLsb'_or, extract_covered v h, ho]
    exact congrArg BitVec.toNat BitVec.or_zero
  have hb (k : Nat) (h : bit (~~~ 7#32) k = true) (ho : bit (BitVec.ofNat 32 op.val) k = false) :
      bit ((v &&& ~~~ 7#32) ||| BitVec.ofNat 32 op.val) k = bit v k := by
    have hv := bit_covered v h
    unfold bit at hv ho ⊢
    rw [BitVec.getLsbD_or, hv, ho, Bool.or_false]
  refine ⟨?_, ?_, ?_, ?_, ?_⟩
  · rw [imgWordOf, fld_covered _ (by decide), fld_zero, BitVec.setWidth_or, BitVec.setWidth_and,
      show (~~~ 7#32).setWidth 3 = 0#3 by decide, BitVec.and_zero, BitVec.zero_or]
    clear hx hb
    revert op
    decide
  · rw [imgWordOf, fld_covered _ (by decide), hx _ _ (by decide) (by clear hx hb; revert op; decide)]
  · rw [imgWordOf, fld_covered _ (by decide), hx _ _ (by decide) (by clear hx hb; revert op; decide)]
  · rw [imgWordOf, bit_covered _ (by decide), hb _ (by decide) (by clear hx hb; revert op; decide)]
  · rw [imgWordOf, bit_covered _ (by decide), hb _ (by decide) (by clear hx hb; revert op; decide)]

section
variable {s : State} {q : PortId}

theorem commit_imgCtrl (op : Fin 8) (v : Word) :
    commitReg ⟨q, .a⟩ 8 0x53 ((v &&& ~~~ 7#32) ||| BitVec.ofNat 32 op.val) s =
      match imgBad s .a op.val (fld v 8 8) with
      | some r => ignoreReg ⟨q, .a⟩ r 8 0x53 s
      | none => imgStart op.val (fld v 8 8) (fld v 16 16) (bit v 3) (bit v 4) s := by
  obtain ⟨h0, h8, h16, h3, h4⟩ := imgWordOf_fields op v
  have hc : commitReg ⟨q, .a⟩ 8 0x53 ((v &&& ~~~ 7#32) ||| BitVec.ofNat 32 op.val) s =
      orIgnore ⟨q, .a⟩ 8 0x53 (imgControl .a (imgWordOf op v) s) s := commitReg_hostA (r := .imgCtrl) _ rfl rfl rfl rfl rfl rfl
  rw [hc, imgControl, h0, h8, h16, h3, h4]
  cases imgBad s .a op.val (fld v 8 8) <;> rfl

end

/-! The word memory: a word that is absent reads its default. -/

theorem mget_absent {α : Type} (d : α) {m : Map α} {k : Nat} (h : ∀ x ∈ m, x.1 ≠ k) : mget d m k = d := by
  induction m with
  | nil => rfl
  | cons x m ih =>
    obtain ⟨a, w⟩ := x
    have ha : ¬ k = a := fun e => h (a, w) (List.mem_cons_self ..) e.symm
    simp only [mget, if_neg ha]
    split
    · rfl
    · exact ih fun y hy => h y (List.mem_cons_of_mem _ hy)

theorem mwipe_absent {α : Type} {m : Map α} {lo hi k : Nat} (h : (∀ x ∈ m, x.1 ≠ k) ∨ (lo ≤ k ∧ k < hi)) :
    ∀ x ∈ mwipe m lo hi, x.1 ≠ k := by
  intro x hx e
  obtain ⟨hm, hr⟩ := List.mem_filter.mp hx
  rcases h with h | h
  · exact h x hm e
  · simp at hr
    omega

/-! Messages (R389, R396). -/

theorem msgDefined_congr {s t : State} (h : t.ret.mram = s.ret.mram) (hb : t.ret.msgBad = s.ret.msgBad) (n : Nat) :
    msgDefined t n = msgDefined s n := by
  rw [msgDefined, msgDefined, h, hb]

/-- R389: a deleted message is undefined. -/
theorem deleteMsg_undefined {n : Nat} {s : State} (h : mwf 0 s.ret.mram = true) : msgDefined (deleteMsg n s) n = false := by
  have hz : mget 0 (msetAll 0 s.ret.mram (msgBase + 4 * n) [0, 0]) (0x200000 + 4 * n) = 0 := by
    have hm := mset_mwf 0 (msgBase + 4 * n) 0 h
    show mget 0 (mset 0 (mset 0 s.ret.mram (msgBase + 4 * n) 0) (msgBase + 4 * n + 1) 0) (0x200000 + 4 * n) = 0
    rw [mget_mset _ _ _ _ hm, if_neg (by rw [msgBase]; omega), mget_mset _ _ _ _ h, if_pos (by rw [msgBase])]
  have hr : (deleteMsg n s).ret.mram = msetAll 0 s.ret.mram (msgBase + 4 * n) [0, 0] := by
    unfold deleteMsg
    split
    · rw [msgGone_ret]
      rfl
    · rfl
  rw [msgDefined, hr, hz]
  exact Bool.and_false _

/-- R396: an import leaves no message and no empty bank. -/
theorem importWipe_ret (s : State) : (importWipe s).ret.bankEmpty = .replicate 2 false ∧
    ∀ n : Nat, n < 256 → msgDefined (importWipe s) n = false := by
  have hr : (importWipe s).ret.bankEmpty = .replicate 2 false ∧
      (importWipe s).ret.mram = mwipe (mwipe s.ret.mram 0x100000 0xA00000) 0x20000 0x20400 := by
    unfold importWipe
    extract_lets gone s1 s2
    have h2 : s2.ret = { s1.ret with msgBad := [], bankEmpty := .replicate 2 false } :=
      rest_ret (ps := [.lmu]) (rest_readFps (by simp) _) (by simp)
    split
    · rw [msgGone_ret, h2]
      exact ⟨rfl, rfl⟩
    · rw [h2]
      exact ⟨rfl, rfl⟩
  refine ⟨hr.1, fun n hn => ?_⟩
  have hz : mget 0 (importWipe s).ret.mram (0x200000 + 4 * n) = 0 := by
    rw [hr.2]
    exact mget_absent 0 (mwipe_absent (.inl (mwipe_absent (.inr (by omega)))))
  rw [msgDefined, hz]
  exact Bool.and_false _

/-! The rows. -/

section
variable {s : State} (hs : s.resetHeld = false)
include hs

theorem imageWriteCheckDone_does : Does .imageWriteCheckDone s (imgChecked s) := by
  simp only [Does, exec, execImageWriteCheckDone, act_eq _ hs]

theorem saveDone_does : Does .saveDone s (endSave s) := by
  simp only [Does, exec, execSaveDone, act_eq _ hs]

/-- A row of IMG_CTRL is ignored with the reason of its first check, or starts its operation. -/
theorem imgRow_does {c : Instr} {q : PortId} {v : Word} (op : Fin 8) (hv : viewOpen s ⟨q, .a⟩ = true)
    (hc : exec c s = imgRow op.val ⟨q, .a⟩ v s) :
    (∀ r : Nat, imgBad s .a op.val (fld v 8 8) = some r → DoesWake c s (ignoreReg ⟨q, .a⟩ r 8 0x53 s)) ∧
    (imgBad s .a op.val (fld v 8 8) = none →
      DoesWake c s (imgStart op.val (fld v 8 8) (fld v 16 16) (bit v 3) (bit v 4) s)) := by
  have hd {t : State} (ht : commitReg ⟨q, .a⟩ 8 0x53 ((v &&& ~~~ 7#32) ||| BitVec.ofNat 32 op.val) s = t) : DoesWake c s t := by
    rw [DoesWake, hc, imgRow, hostAct_open _ hs hv, commitRow, ht]
  refine ⟨fun r h => hd ?_, fun h => hd ?_⟩
  · rw [commit_imgCtrl, h]
  · rw [commit_imgCtrl, h]

end

/-! What each operation begins (R389, R395, R396, R399). -/

section
variable (s : State) (num ofs : Nat)

theorem imgStart_set (fp msg : Bool) :
    (bankBusy s num = false → (imgStart 1 num ofs fp msg s).ret.img = { op := 1, busy := true, num := BitVec.ofNat 8 num } ∧
      ∀ k : Fin 2, k.val = num → (imgStart 1 num ofs fp msg s).ret.bankEmpty[k] = true) ∧
    (bankBusy s num = true → (imgStart 1 num ofs fp msg s).ret.img = { op := 1, num := BitVec.ofNat 8 num, err := 9 }) := by
  refine ⟨fun h => ?_, fun h => ?_⟩
  · have hd : imgStart 1 num ofs fp msg s = imgBegins 1 num 0 (emptyBank num s) := if_neg (by rw [h]; decide)
    rw [hd]
    exact ⟨rfl, fun k hk => by simp [imgBegins, modImg, modRet, emptyBank, hk]⟩
  · have hd : imgStart 1 num ofs fp msg s = imgAtOnce 1 num 9 s := if_pos h
    rw [hd]
    rfl

theorem imgStart_message (fp msg : Bool) :
    (4 ≤ ofs → 256 * ofs < 0x800000 → msgOverlap s (256 * ofs) (256 * ofs + 1) = false →
      (imgStart 2 num ofs fp msg s).ret.img = { op := 2, busy := true, num := BitVec.ofNat 8 num, ofs := BitVec.ofNat 16 ofs }) ∧
    (ofs < 4 ∨ 0x800000 ≤ 256 * ofs ∨ msgOverlap s (256 * ofs) (256 * ofs + 1) = true →
      (imgStart 2 num ofs fp msg s).ret.img = { op := 2, num := BitVec.ofNat 8 num, err := 9 }) := by
  refine ⟨fun h4 h8 ho => ?_, fun h => ?_⟩
  · have hd : imgStart 2 num ofs fp msg s = imgBegins 2 num ofs s := by
      refine if_neg ?_
      rw [ho, msgStoreLen, Bool.or_false, Bool.or_eq_true, decide_eq_true_eq, decide_eq_true_eq]
      omega
    rw [hd]
    rfl
  · have hd : imgStart 2 num ofs fp msg s = imgAtOnce 2 num 9 s := by
      refine if_pos ?_
      rw [msgStoreLen, Bool.or_eq_true, Bool.or_eq_true, decide_eq_true_eq, decide_eq_true_eq, or_assoc]
      exact h
    rw [hd]
    rfl

end

/-! The checks (R382, R389, R395, R396). -/

theorem imgBad_states {s : State} (num : Nat) (hi : imgBusy s = false) (hw : s.ret.wiping = false) (hb : saveBusy s = false) :
    (s.ret.lc = 0 ∨ s.ret.lc = 2 → imgBad s .a 1 num = some 4 ∧ imgBad s .a 2 num = some 4 ∧ imgBad s .a 3 num = some 4) ∧
    (s.ret.lc ≠ 3 → imgBad s .a 4 num = some 4) ∧ (s.ret.lc ≠ 1 → imgBad s .a 5 num = some 4) ∧
    (s.ret.lc = 1 → 2 ≤ num → imgBad s .a 1 num = some 10) ∧
    (storeUp s = true → imgBad s .a 6 num = none ∧ (s.ret.lc = 3 → imgBad s .a 4 num = none) ∧
      (s.ret.lc = 1 → imgBad s .a 2 num = none ∧ imgBad s .a 3 num = none ∧ imgBad s .a 5 num = none)) := by
  have hne (op : Nat) : imgBad s .a op num =
      if op = 0 || op = 7 then none
      else if op < 4 && !(s.ret.lc = 1 || s.ret.lc = 3) then some 4
      else if op = 4 && s.ret.lc ≠ 3 then some 4
      else if op = 5 && s.ret.lc ≠ 1 then some 4
      else if op = 1 && 2 ≤ num then some 10
      else if !storeUp s then some 15
      else none := by
    simp [imgBad, hi, hw, hb]
  refine ⟨fun h => ?_, fun h => ?_, fun h => ?_, fun h hn => ?_, fun hk => ⟨?_, fun h => ?_, fun h => ?_⟩⟩
  · have hl : (s.ret.lc = 1 || s.ret.lc = 3 : Bool) = false := by
      rcases h with h | h <;> rw [h] <;> rfl
    rw [hne, hne, hne, hl]
    exact ⟨rfl, rfl, rfl⟩
  · rw [hne]
    simp only [h, ne_eq, not_false_eq_true, decide_true]
    rfl
  · rw [hne]
    simp only [h, ne_eq, not_false_eq_true, decide_true]
    rfl
  · rw [hne]
    simp only [h, hn, decide_true]
    rfl
  · rw [hne]
    simp [hk]
  · rw [hne]
    simp [hk, h]
  · simp [hne, hk, h]

/-! The image FIFO and the saves (R395, R399, R416, R384). -/

theorem fifoGives_image {s : State} {pv : PortView} (h : pv.host ≠ .b) : fifoGives pv 8 0xF0 s =
    match imgPop s with
    | some (b, t) => (some b, t)
    | none => (none, s) := by
  have hg : fifoGives pv 8 0xF0 s = if pv.host == .b then (some 0, s) else
    match imgPop s with
    | some (b, t) => (some b, t)
    | none => (none, s) := rfl
  exact hg.trans (if_neg (by simpa using h))

theorem imgPop_byte {s : State} {x : Byte} {xs : List Byte} (h : s.ret.img.out = x :: xs) :
    ∃ t, imgPop s = some (x, t) ∧ t.ret.img.out = xs := by
  rw [imgPop, h]
  refine ⟨_, rfl, ?_⟩
  split
  next hl => exact (List.eq_nil_of_length_eq_zero hl).symm
  · rfl

theorem endSave_runs {s : State} (h : s.ret.save.run = true) :
    (endSave s).ret.sel = some s.ret.save.slot ∧ (endSave s).ret.gen = s.ret.save.gen ∧ (endSave s).ret.save = {} ∧
    (mwf 0 s.ret.mram = true → rsGet (endSave s) (slotBase s.ret.save.slot) = 0xA55A1703) := by
  have he : endSave s = setValid s.ret.save.slot true (modRet (rsSet (slotBase s.ret.save.slot) 0xA55A1703 s) fun r =>
      { r with sel := some s.ret.save.slot, gen := r.save.gen, save := {} }) := if_pos h
  have hv (k : Nat) (u : State) : (setValid k true u).ret.sel = u.ret.sel ∧ (setValid k true u).ret.gen = u.ret.gen ∧
      (setValid k true u).ret.save = u.ret.save ∧ (setValid k true u).ret.mram = u.ret.mram := by
    simp only [setValid, modRet]
    split <;> exact ⟨rfl, rfl, rfl, rfl⟩
  obtain ⟨h1, h2, h3, h4⟩ := hv s.ret.save.slot (modRet (rsSet (slotBase s.ret.save.slot) 0xA55A1703 s) fun r =>
    { r with sel := some s.ret.save.slot, gen := r.save.gen, save := {} })
  rw [he]
  refine ⟨h1, h2, h3, fun hm => ?_⟩
  rw [rsGet, h4]
  exact (mget_mset 0 _ _ _ hm).trans (if_pos rfl)

/-- Settles O56: IMG_CTRL checks and starts, each operation begins as its case says, and the FIFO and the saves end. -/
theorem imageStore : Obligations.ImageStore := by
  intro s hs
  refine ⟨fun q v op c => ?rows, fun num ofs fp msg => ?starts, fun num hi hw hb => imgBad_states num hi hw hb, fun num => rfl,
    fun h op num hh h4 h7 => ?_, fun hb => ?_, fun n hb hf ho hn hc => ?_, fun pv b hv hb => ⟨?_, fun ho => ?_⟩,
    fun pv x xs hv hb ho => ?_, fun hr => ⟨_, saveDone_does hs, endSave_runs hr⟩,
    fun hr => does_congr (saveDone_does hs) (if_neg (by rw [hr]; decide))⟩
  case rows =>
    intro pv hv h num
    rcases h with ⟨rfl, rfl⟩ | ⟨rfl, rfl⟩ | ⟨rfl, rfl⟩ | ⟨rfl, rfl⟩ | ⟨rfl, rfl⟩ | ⟨rfl, rfl⟩ | ⟨rfl, rfl⟩
    · exact imgRow_does hs 1 hv rfl
    · exact imgRow_does hs 2 hv rfl
    · exact imgRow_does hs 3 hv rfl
    · exact imgRow_does hs 4 hv rfl
    · exact imgRow_does hs 5 hv rfl
    · exact imgRow_does hs 6 hv rfl
    · exact imgRow_does hs 7 hv rfl
  case starts =>
    intro did
    refine ⟨(imgStart_set s num ofs fp msg).1, (imgStart_set s num ofs fp msg).2, (imgStart_message s num ofs fp msg).1,
      (imgStart_message s num ofs fp msg).2, ⟨rfl, fun hm => ?_⟩, ⟨rfl, rfl, rfl⟩, ⟨rfl, ?_, fun _ n hn => ?_⟩, ⟨rfl, rfl⟩,
      fun hi => ?_, fun hi => if_neg (by rw [hi]; decide)⟩
    · exact (msgDefined_congr rfl rfl num).trans (deleteMsg_undefined hm)
    · exact (importWipe_ret s).1
    · exact (msgDefined_congr rfl rfl n).trans ((importWipe_ret s).2 n hn)
    · have hd : did 7 = imgEnds 11 s := if_pos hi
      rw [hd]
      exact ⟨rfl, rfl, rfl⟩
  · have h0 : (op = 0 || op = 7 : Bool) = false := by
      simp only [Bool.or_eq_false_iff, decide_eq_false_iff_not]
      omega
    simp [imgBad, h0, h4, hh]
  · exact does_congr (imageWriteCheckDone_does hs) (if_pos (by rw [hb]; rfl))
  · refine does_congr (imageWriteCheckDone_does hs) ?_
    simp only [imgChecked, hb, hf, ho, hn, hc, Bool.and_self, Bool.not_true, Bool.false_eq_true, if_false, if_true]
  · refine ⟨modPorts (imgPush b s) fun p => { p with nack := false }, ?_, rfl⟩
    simp only [DoesWake, exec, execImageFifoPush, hostAct_open _ hs hv]
    have hf : fifoTakes pv 8 0xF0 b s = if pv.host == .b then (true, ignoreReg pv 5 8 0xF0 s) else (true, imgPush b s) := by
      simp [fifoTakes]
    have hn : ¬ (pv.host == .b) = true := by simpa using hb
    rw [fifoPush, hf, if_neg hn]
    rfl
  · refine ⟨{ fifoEmpty pv.port s with ports := { (fifoEmpty pv.port s).ports with rd := [0] } }, ?_, rfl⟩
    simp only [DoesWake, exec, execImageFifoPop, hostAct_open _ hs hv]
    rw [popRow_none ((fifoGives_image hb).trans (by rw [imgPop, ho]))]
  · obtain ⟨t, ht, hx⟩ := imgPop_byte ho
    refine ⟨{ t with ports := { t.ports with rd := [x] } }, ?_, rfl, hx⟩
    simp only [DoesWake, exec, execImageFifoPop, hostAct_open _ hs hv]
    rw [popRow_some ((fifoGives_image hb).trans (by rw [ht]))]

end Sys2Proof.Machine
end

section
/-!
PROOFS. What an engine's instruction leaves of the other engines (R58-R83, R128): for every engine but SV, all but whether they
run.
-/

namespace Sys2Proof.Machine

open Sys2Proof.Safety

/-- Every engine but `e` is left as it was, but for whether it runs. -/
def Others (e : Eng) (s t : State) : Prop := ∀ j : Eng, j ≠ e → getEng t j = { getEng s j with run := (getEng t j).run }

section
variable {e : Eng} {s t u : State}

theorem others_refl (e : Eng) (s : State) : Others e s s := fun _ _ => rfl

theorem Others.trans (h1 : Others e s t) (h2 : Others e t u) : Others e s u := fun j hj => by
  rw [h2 j hj, h1 j hj]

theorem others_of_eq (h : ∀ j, j ≠ e → getEng t j = getEng s j) : Others e s t := fun j hj => by rw [h j hj]

theorem others_of_engines (hc : t.core.eng = s.core.eng) (hw : t.wake.we = s.wake.we) : Others e s t :=
  others_of_eq fun j _ => by rw [getEng, getEng, hc, hw]

theorem others_of_frame {ps : List Part} (h : Frame ps s t) (hc : .core ∉ ps) (hw : .wake ∉ ps) : Others e s t := by
  obtain ⟨-, -, -, -, hp⟩ := h
  have h1 : t.core = s.core := hp .core hc
  have h2 : t.wake = s.wake := hp .wake hw
  exact others_of_engines (congrArg CoreSt.eng h1) (congrArg Wake.we h2)

theorem others_of_rest {ps : List Part} (h : rest ps t = rest ps s) (hc : .core ∉ ps) (hw : .wake ∉ ps) : Others e s t :=
  others_of_frame (frame_of_rest h) hc hw

theorem others_settle (e : Eng) (s : State) : Others e s (settle s) := others_of_frame (settle_frame s) (by simp) (by simp)

theorem others_setEng (e : Eng) (x : Engine) (s : State) : Others e s (setEng s e x) :=
  others_of_eq fun _ hj => getEng_setEng_ne s x hj

theorem others_markStores (e e' : Eng) (st : List (Bool × BitVec 12)) (s : State) : Others e s (markStores e' st s) :=
  others_of_eq fun _ _ => getEng_markStores s _ _ st

theorem others_sramWrite (a : Nat) (w : Word) (s : State) : Others e s (sramWrite a w s) := by
  have h : (sramWrite a w s).core.eng = s.core.eng ∧ (sramWrite a w s).wake.we = s.wake.we := by
    unfold sramWrite
    extract_lets s1 k
    split
    · exact ⟨rfl, rfl⟩
    · split <;> exact ⟨rfl, rfl⟩
  exact others_of_engines h.1 h.2

/-! Requests and increments that arrive. -/

theorem others_times {f : State → State} (hf : ∀ s, Others e s (f s)) : ∀ (n : Nat) (s : State), Others e s (times f n s)
  | 0, s => others_refl e s
  | n + 1, s => (hf s).trans (others_times hf n (f s))

theorem others_deliverDly (e : Eng) (s : State) : Others e s (deliverDly e s) := by
  simp only [deliverDly]
  split
  · exact others_refl e s
  · split
    · exact (others_setEng e _ s).trans (others_markStores e e _ _)
    · exact (others_setEng e _ s).trans (others_markStores e e _ _)
    · exact (others_setEng e _ s).trans (others_sramWrite _ _ _)

theorem others_deliverFab (e : Eng) (s : State) : Others e s (deliverFab e s) := by
  simp only [deliverFab]
  split
  · exact others_refl e s
  · split
    · exact (others_setEng e _ s).trans (others_markStores e e _ _)
    · exact (others_setEng e _ s).trans (others_markStores e e _ _)
    · exact (others_setEng e _ s).trans (others_of_engines rfl rfl)

/-- Engines of the core that a semaphore releases run again; nothing else of them changes. -/
theorem serveWaiting_eng (n : Fin 32) : ∀ (es : List (Fin 25)) (c : CoreSt) (i : Nat) (hi : i < 25),
    (serveWaiting n es c).eng[i] = { c.eng[i] with run := ((serveWaiting n es c).eng[i]).run }
  | [], _, _, _ => rfl
  | e :: es, c, i, hi => by
    unfold serveWaiting
    split
    · rw [serveWaiting_eng n es _ i hi]
      simp only [vmod, vset, Vector.getElem_set]
      split
      next h => subst h; rfl
      · rfl
    · exact serveWaiting_eng n es c i hi

theorem others_of_served {c : CoreSt} (hc : t.core = c) (hw : t.wake = s.wake)
    (h : ∀ (i : Nat) (hi : i < 25), c.eng[i] = { s.core.eng[i] with run := c.eng[i].run }) : Others e s t := by
  intro j _
  unfold getEng
  split
  next hj => rw [hc, h j.val hj]
  next hj => rw [hw]

theorem others_semSignal (n : Fin 32) (s : State) : Others e s (semSignal n s) := by
  unfold semSignal
  split
  · have h1 : Others e s { s with core := serveWaiting n (List.finRange 25) s.core } :=
      others_of_served rfl rfl (serveWaiting_eng n _ s.core)
    generalize { s with core := serveWaiting n (List.finRange 25) s.core } = u at h1 ⊢
    exact h1.trans (others_of_rest (ps := []) (by simp) (by simp) (by simp))
  · exact others_of_served rfl rfl (serveWaiting_eng n _ { s.core with sems := vset s.core.sems n (s.core.sems[n] + 1) })

theorem others_applySigs (e : Eng) (s : State) : Others e s (applySigs e s) := by
  unfold applySigs
  extract_lets x go rest
  have hfold (gs : List SigReq) (t : State) : Others e t (gs.foldl (fun t g => semSignal g.sem t) t) := by
    induction gs generalizing t with
    | nil => exact others_refl e t
    | cons g gs ih => exact (others_semSignal g.sem t).trans (ih _)
  exact (others_setEng e _ s).trans (hfold go _)

theorem others_drain (he : e ≠ sv) (s : State) : Others e s (drain e s) := by
  unfold drain
  extract_lets x
  rw [if_neg he]
  split
  · exact others_refl e s
  · exact ((others_times (others_deliverDly e) 4 s).trans (others_times (others_deliverFab e) 4 _)).trans (others_applySigs e _)

theorem sysDone_eq (he : e ≠ sv) (s : State) : sysDone e s = s := by
  rw [sysDone, if_neg he]
  rfl

theorem others_roomDly (he : e ≠ sv) (s : State) : Others e s (roomDly e s) := by
  simp only [roomDly, sysDone_eq he]
  split
  · exact (others_times (others_deliverFab e) _ s).trans (others_deliverDly e _)
  · exact others_times (others_deliverFab e) _ s

theorem others_roomFab (he : e ≠ sv) (s : State) : Others e s (roomFab e s) := by
  simp only [roomFab, sysDone_eq he]
  split
  · exact (others_times (others_deliverDly e) _ s).trans (others_deliverFab e _)
  · exact others_times (others_deliverDly e) _ s

/-! Faults, and what an instruction places. -/

theorem others_engFault (he : e ≠ sv) (cause : Nat) (s : State) : Others e s (engFault e cause s) := by
  have h1 : Others e s (setEng s e { getEng s e with run := .halted }) := others_setEng e _ s
  simp only [engFault, if_neg he]
  generalize setEng s e { getEng s e with run := .halted } = s1 at h1 ⊢
  split
  next hw =>
    have h2 : (raiseEv 106 cause (endCandidate { s1 with wake := { s1.wake with wflt := true } })).core = s1.core :=
      rest_core (ps := [.wake, .conv]) (by simp) (by simp)
    refine h1.trans (others_of_eq fun j hj => ?_)
    have hj : j.val < 25 := by
      have := j.isLt
      have : j.val ≠ 25 := fun h => hj (by rw [hw]; exact Fin.ext h)
      omega
    rw [getEng, getEng, dif_pos hj, dif_pos hj, h2]
  · exact h1.trans (others_of_rest (ps := []) (by simp) (by simp) (by simp))

theorem others_freeTaken (e : Eng) (s : State) : Others e s (freeTaken s) := others_of_engines rfl rfl

theorem others_engPlace (e : Eng) (x0 x : Engine) (st : List (Bool × BitVec 12)) (s : State) : Others e s (engPlace e x0 x st s) :=
  (others_setEng e _ s).trans (others_markStores e e st _)

theorem others_engCommit (e : Eng) (x0 x : Engine) (st : List (Bool × BitVec 12)) (s : State) : Others e s (engCommit e x0 x st s) :=
  others_engPlace e x0 _ st s

end

end Sys2Proof.Machine
end

section
/-!
PROOFS. O6: what an engine's instruction leaves unchanged (R58-R83, R128).
-/

namespace Sys2Proof.Machine

open Sys2Proof.Safety

/-- What O6 says of an instruction of engine `e`, for the parts `ps`. -/
def InstrKeeps (ps : List Part) (e : Eng) (s t : State) : Prop := Frame ps s t ∧ (e ≠ sv → Others e s t)

section
variable {ps : List Part} {e : Eng} {s t u : State}

theorem instrKeeps_refl (ps : List Part) (e : Eng) (s : State) : InstrKeeps ps e s s := ⟨frame_refl ps s, fun _ => others_refl e s⟩

theorem InstrKeeps.trans (h1 : InstrKeeps ps e s t) (h2 : InstrKeeps ps e t u) : InstrKeeps ps e s u :=
  ⟨frame_trans h1.1 h2.1, fun he => (h1.2 he).trans (h2.2 he)⟩

theorem instrKeeps_of_rest (h : rest ps t = rest ps s) (ho : e ≠ sv → Others e s t) : InstrKeeps ps e s t := ⟨frame_of_rest h, ho⟩

theorem InstrKeeps.settle (h : InstrKeeps ps e s t) : InstrKeeps ps e s (settle t) :=
  h.trans ⟨frame_mono (settle_frame t) (by simp), fun _ => others_settle e t⟩

/-- An event or an ignored item besides. -/
theorem InstrKeeps.event (h : InstrKeeps ps e s t) (hu : rest [] u = rest [] t) : InstrKeeps ps e s (Machine.settle u) :=
  (h.trans ⟨frame_mono (frame_of_rest hu) (by simp), fun _ => others_of_rest hu (by simp) (by simp)⟩).settle

theorem taken_keeps (hf : .free ∈ ps) (b : Bool) (h : InstrKeeps ps e s t) : InstrKeeps ps e s (if b = true then freeTaken t else t) := by
  split
  · exact h.trans (instrKeeps_of_rest (by simp [hf]) fun _ => others_freeTaken e t)
  · exact h

section
variable (hp : .mirror ∈ ps ∧ .core ∈ ps ∧ .wake ∈ ps ∧ .conv ∈ ps)
include hp

theorem drain_keeps (e : Eng) (s : State) : InstrKeeps ps e s (drain e s) :=
  instrKeeps_of_rest (by simp [hp]) fun he => others_drain he s

theorem engFault_keeps (cause : Nat) (h : InstrKeeps ps e s t) : InstrKeeps ps e s (engFault e cause t) :=
  h.trans (instrKeeps_of_rest (by simp [hp]) fun he => others_engFault he cause t)

theorem engPlace_keeps (x0 x : Engine) (st : List (Bool × BitVec 12)) (h : InstrKeeps ps e s t) :
    InstrKeeps ps e s (engPlace e x0 x st t) :=
  h.trans (instrKeeps_of_rest (by simp [hp]) fun _ => others_engPlace e x0 x st t)

theorem engCommit_keeps (x0 x : Engine) (st : List (Bool × BitVec 12)) (h : InstrKeeps ps e s t) :
    InstrKeeps ps e s (engCommit e x0 x st t) := engPlace_keeps hp x0 _ st h

theorem engEnd_keeps (h : InstrKeeps ps e s u) (ht : engEnd e u = .next t) : InstrKeeps ps e s t := by
  unfold engEnd at ht
  split at ht
  · obtain rfl := Host.Outcome.next.inj ht
    exact (engFault_keeps hp 10 h).settle
  · obtain rfl := Host.Outcome.next.inj ht
    exact h

theorem waits_keeps {n : BitVec 5} (ht : execWaits e n s = .next t) : InstrKeeps ps e s t := by
  have hd := drain_keeps hp e s
  simp only [execWaits] at ht
  split at ht
  · generalize drain e s = u at hd ht
    split at ht
    · obtain rfl := Host.Outcome.next.inj ht
      exact (engFault_keeps hp 4 hd).settle
    · split at ht
      · obtain rfl := Host.Outcome.next.inj ht
        exact (engFault_keeps hp 5 hd).settle
      · split at ht
        · obtain rfl := Host.Outcome.next.inj ht
          exact engCommit_keeps hp _ _ _ hd
        · obtain rfl := Host.Outcome.next.inj ht
          exact engCommit_keeps hp _ _ _ (hd.trans (instrKeeps_of_rest (by simp [hp]) fun _ => others_of_engines rfl rfl))
  · obtain rfl := Host.Outcome.next.inj ht
    exact instrKeeps_refl ps e s

variable (hf : .free ∈ ps)
include hf

theorem engRun_keeps {f : Engine → Eff} (ht : engRun s e f = .next t) : InstrKeeps ps e s t := by
  have hd := drain_keeps hp e s
  simp only [engRun] at ht
  split at ht
  · generalize drain e s = u at hd ht
    split at ht
    · obtain rfl := Host.Outcome.next.inj ht
      exact (engFault_keeps hp _ hd).settle
    · exact engEnd_keeps hp (engCommit_keeps hp _ _ _ (taken_keeps hf _ hd)) ht
  · obtain rfl := Host.Outcome.next.inj ht
    exact instrKeeps_refl ps e s

theorem engFlow_keeps {f : BitVec 16 → Engine → Eff} (ht : engFlow s e f = .next t) : InstrKeeps ps e s t := by
  have hd := drain_keeps hp e s
  simp only [engFlow] at ht
  split at ht
  · generalize drain e s = u at hd ht
    split at ht
    · obtain rfl := Host.Outcome.next.inj ht
      exact (engFault_keeps hp _ hd).settle
    next y st _ =>
      refine engEnd_keeps hp (engCommit_keeps hp _ _ _ ?_) ht
      have h := taken_keeps hf (decide (y.loops.length < (getEng u e).loops.length)) hd
      simpa using h
  · obtain rfl := Host.Outcome.next.inj ht
    exact instrKeeps_refl ps e s

theorem engIssue_keeps {f : Engine → Eff} (h : InstrKeeps ps e s u) (ht : engIssue u e f = .next t) : InstrKeeps ps e s t := by
  simp only [engIssue] at ht
  split at ht
  · split at ht
    · obtain rfl := Host.Outcome.next.inj ht
      exact (engFault_keeps hp _ (h.trans (drain_keeps hp e u))).settle
    · exact engEnd_keeps hp (engPlace_keeps hp _ _ _ (taken_keeps hf _ h)) ht
  · obtain rfl := Host.Outcome.next.inj ht
    exact h

omit hp hf in
theorem issued_keeps {failed : Option Nat} {o : Out} (h : ∀ u, o = .next u → InstrKeeps ps e s u) (ht : issued failed e o = .next t) :
    InstrKeeps ps e s t := by
  unfold issued at ht
  split at ht
  · obtain rfl := Host.Outcome.next.inj ht
    exact (h _ rfl).event (by simp [engEvent])
  · exact h t ht

omit hp hf in
theorem fabFailed_keeps {deg failed : Bool} {o : Out} (h : ∀ u, o = .next u → InstrKeeps ps e s u)
    (ht : fabFailed deg failed e o = .next t) : InstrKeeps ps e s t := by
  unfold fabFailed at ht
  split at ht
  · split at ht
    · obtain rfl := Host.Outcome.next.inj ht
      exact (h _ rfl).event (by simp)
    · split at ht
      · obtain rfl := Host.Outcome.next.inj ht
        exact (h _ rfl).event (by simp [engEvent])
      · obtain rfl := Host.Outcome.next.inj ht
        exact h _ rfl
  · exact h t ht

theorem sig_keeps {n : BitVec 5} (ht : execSig e n s = .next t) : InstrKeeps ps e s t :=
  engIssue_keeps hp hf (instrKeeps_refl ps e s) ht

theorem dlr_keeps {loc : BitVec 3} {pq k dm : BitVec 2} {ofs : BitVec 16} (ht : execDlr e loc pq k dm ofs s = .next t) :
    InstrKeeps ps e s t := by
  simp only [execDlr] at ht
  split at ht
  · exact issued_keeps (fun u hu => engIssue_keeps hp hf (taken_keeps hf _
      (instrKeeps_of_rest (by simp [hp]) fun he => others_roomDly he s)) hu) ht
  · obtain rfl := Host.Outcome.next.inj ht
    exact instrKeeps_refl ps e s

theorem dlw_keeps {loc : BitVec 3} {pq k dm : BitVec 2} {ofs : BitVec 16} (ht : execDlw e loc pq k dm ofs s = .next t) :
    InstrKeeps ps e s t := by
  simp only [execDlw] at ht
  split at ht
  · exact issued_keeps (fun u hu => engIssue_keeps hp hf (taken_keeps hf _ (drain_keeps hp e s)) hu) ht
  · obtain rfl := Host.Outcome.next.inj ht
    exact instrKeeps_refl ps e s

theorem frd_keeps {loc : BitVec 3} {pq : BitVec 2} {ixa : Bool} {slot : BitVec 10} {idx : BitVec 8}
    (ht : execFrd e loc pq ixa slot idx s = .next t) : InstrKeeps ps e s t := by
  simp only [execFrd] at ht
  split at ht
  · exact fabFailed_keeps (fun u hu => engIssue_keeps hp hf (instrKeeps_of_rest (by simp [hp]) fun he => others_roomFab he s) hu) ht
  · obtain rfl := Host.Outcome.next.inj ht
    exact instrKeeps_refl ps e s

theorem fwr_keeps {loc : BitVec 3} {pq : BitVec 2} {ixa : Bool} {slot : BitVec 10} {idx : BitVec 8}
    (ht : execFwr e loc pq ixa slot idx s = .next t) : InstrKeeps ps e s t := by
  simp only [execFwr] at ht
  split at ht
  · exact fabFailed_keeps (fun u hu => engIssue_keeps hp hf (drain_keeps hp e s) hu) ht
  · obtain rfl := Host.Outcome.next.inj ht
    exact instrKeeps_refl ps e s

/-! SYS: on SV what the function does besides lies in `ps`; every other engine faults. -/

omit hp hf in
theorem eq_sv_of_sysFault_none {mask : BitVec 16} {k : RaKind} {ra : BitVec 3} {imm : BitVec 16} (h : sysFault e mask k ra imm = none) : e = sv := by
  unfold sysFault at h
  split at h
  · nomatch h
  · split at h
    · nomatch h
    · split at h
      · nomatch h
      next hn => exact not_not.mp hn

theorem sysCommit_frame (localFn : Bool) (x0 : Engine) (ra : BitVec 3) (val : Option Sys2Proof.Acc) (c : Bool) (h : Frame ps s t) :
    Frame ps s (sysCommit localFn x0 ra val c t) := by
  unfold sysCommit
  refine frame_trans h (frame_of_rest ?_)
  rw [rest_engCommit ⟨hp.1, hp.2.1, hp.2.2.1⟩]
  split
  · simp [hf]
  · rfl

theorem sysRun_keeps {fn : Nat} {localFn : Bool} {ra : BitVec 3} {imm : BitVec 16} {f : Engine → State → SysAns}
    (h : ∀ x u v w, f x u = .ok v w → rest ps w = rest ps u) (ht : sysRun fn localFn e ra imm s f = .next t) : InstrKeeps ps e s t := by
  have hd := drain_keeps hp e s
  simp only [sysRun] at ht
  split at ht
  · generalize drain e s = u at hd ht
    split at ht
    · obtain rfl := Host.Outcome.next.inj ht
      exact (engFault_keeps hp _ hd).settle
    next hnone =>
      have hsv := eq_sv_of_sysFault_none hnone
      split at ht
      next v w hv =>
        obtain rfl := Host.Outcome.next.inj ht
        refine ⟨?_, fun he => absurd hsv he⟩
        exact frame_trans (sysCommit_frame hp hf _ _ _ _ _ (frame_trans hd.1 (frame_of_rest (h _ _ _ _ hv))))
          (frame_mono (settle_frame _) (by simp))
      next r v hv =>
        obtain rfl := Host.Outcome.next.inj ht
        refine ⟨?_, fun he => absurd hsv he⟩
        exact frame_trans (sysCommit_frame hp hf _ _ _ _ _ (frame_trans hd.1 (frame_of_rest (by simp))))
          (frame_mono (settle_frame _) (by simp))
  · obtain rfl := Host.Outcome.next.inj ht
    exact instrKeeps_refl ps e s

end

end

/-- What a SYS function that may be refused leaves. -/
theorem loadAns_rest {ps : List Part} {r : Nat} {o : Option State} {u w : State} {v : Option Sys2Proof.Acc}
    (ho : rest ps (o.getD u) = rest ps u) (h : loadAns r o = .ok v w) : rest ps w = rest ps u := by
  cases o with
  | none => nomatch h
  | some x =>
    obtain ⟨-, rfl⟩ := SysAns.ok.inj h
    exact ho

/-- A row of an engine that acts where reset is released. -/
theorem act_keeps {ps : List Part} {e : Eng} {s t : State} {f : State → State} (h : InstrKeeps ps e s (f s))
    (ht : act s f = .next t) : InstrKeeps ps e s t := by
  unfold act at ht
  split at ht
  · obtain rfl := Host.Outcome.next.inj ht
    exact instrKeeps_refl ps e s
  · obtain rfl := Host.Outcome.next.inj ht
    exact h.settle

/-- Every instruction of an engine keeps what O6 says, for the parts that `touches` lists. -/
theorem instr_keeps {c : Instr} {e : Eng} {s t : State} {ps : List Part} (he : c.engine? = some e) (ht : touches c = some ps)
    (hx : exec c s = .next t) : InstrKeeps ps e s t := by
  cases c with
  | nop | pmov | mpy | mpyn | mac | macn | macr | macnr | add | sub | mova | neg | abs | cmp | clr | rnd | lim | and | or
  | xor | not | asl | asr | lsr | max | min | maxi | mini | maxai | mov | ldx | lda | ldi | mvx | mvy | ash | lsh | cls
  | addi =>
    obtain rfl := Option.some.inj he
    obtain rfl := Option.some.inj ht
    simp only [exec, execNop, execPmov, execMpy, execMpyn, execMac, execMacn, execMacr, execMacnr, execAdd, execSub, execMova,
      execNeg, execAbs, execCmp, execClr, execRnd, execLim, execAnd, execOr, execXor, execNot, execAsl, execAsr, execLsr,
      execMax, execMin, execMaxi, execMini, execMaxai, execMov, execLdx, execLda, execLdi, execMvx, execMvy, execAsh,
      execLsh, execCls, execAddi] at hx
    exact engRun_keeps (by simp) (by simp) hx
  | illegalInstruction e' w =>
    obtain rfl := Option.some.inj he
    obtain rfl := Option.some.inj ht
    simp only [exec, execIllegalInstruction] at hx
    split at hx
    · exact engRun_keeps (by simp) (by simp) hx
    · obtain rfl := Host.Outcome.next.inj hx
      exact instrKeeps_refl _ _ _
  | bra | call | ret | loop | loopr | exit | brx | waitf =>
    obtain rfl := Option.some.inj he
    obtain rfl := Option.some.inj ht
    simp only [exec, execBra, execCall, execRet, execLoop, execLoopr, execExit, execBrx, execWaitf] at hx
    exact engFlow_keeps (by simp) (by simp) hx
  | sig =>
    obtain rfl := Option.some.inj he
    obtain rfl := Option.some.inj ht
    simp only [exec, execSig] at hx
    exact sig_keeps (by simp) (by simp) hx
  | dlr =>
    obtain rfl := Option.some.inj he
    obtain rfl := Option.some.inj ht
    simp only [exec, execDlr] at hx
    exact dlr_keeps (by simp) (by simp) hx
  | dlw =>
    obtain rfl := Option.some.inj he
    obtain rfl := Option.some.inj ht
    simp only [exec, execDlw] at hx
    exact dlw_keeps (by simp) (by simp) hx
  | frd =>
    obtain rfl := Option.some.inj he
    obtain rfl := Option.some.inj ht
    simp only [exec, execFrd] at hx
    exact frd_keeps (by simp) (by simp) hx
  | fwr =>
    obtain rfl := Option.some.inj he
    obtain rfl := Option.some.inj ht
    simp only [exec, execFwr] at hx
    exact fwr_keeps (by simp) (by simp) hx
  | waits =>
    obtain rfl := Option.some.inj he
    obtain rfl := Option.some.inj ht
    simp only [exec, execWaits] at hx
    exact waits_keeps (by simp) hx
  | sigApply =>
    obtain rfl := Option.some.inj he
    obtain rfl := Option.some.inj ht
    simp only [exec, execSigApply] at hx
    refine act_keeps (instrKeeps_of_rest (by split <;> simp) fun _ => ?_) hx
    split
    · exact others_applySigs _ s
    · exact others_refl _ s
  | frdResult =>
    obtain rfl := Option.some.inj he
    obtain rfl := Option.some.inj ht
    simp only [exec, execFrdResult] at hx
    refine act_keeps (instrKeeps_of_rest (by split <;> simp) fun _ => ?_) hx
    split
    · exact others_refl _ s
    · exact others_deliverFab _ s
  | dlrResult =>
    obtain rfl := Option.some.inj he
    obtain rfl := Option.some.inj ht
    simp only [exec, execDlrResult] at hx
    exact act_keeps (instrKeeps_of_rest (by simp) fun _ => others_deliverDly _ s) hx
  | wdog | rdframe | rdtime | resopen | respub | rsaddr | pmstat | stgstat | pdmrate | wakeclr | pexit | plstat =>
    obtain rfl := Option.some.inj he
    obtain rfl := Option.some.inj ht
    simp only [exec, execWdog, execRdframe, execRdtime, execResopen, execRespub, execRsaddr, execPmstat, execStgstat, execPdmrate,
      execWakeclr, execPexit, execPlstat] at hx
    refine sysRun_keeps (by simp) (by simp) (fun x u v w h => ?_) hx
    obtain ⟨-, rfl⟩ := SysAns.ok.inj h
    simp
  | cmdhead | cmddone | evraise | reswr | rsrd | rswr | cfgsave =>
    obtain rfl := Option.some.inj he
    obtain rfl := Option.some.inj ht
    simp only [exec, execCmdhead, execCmddone, execEvraise, execReswr, execRsrd, execRswr, execCfgsave] at hx
    refine sysRun_keeps (by simp) (by simp) (fun x u v w h => ?_) hx
    split at h
    · obtain ⟨-, rfl⟩ := SysAns.ok.inj h
      simp
    · nomatch h
  | cmdword =>
    obtain rfl := Option.some.inj he
    obtain rfl := Option.some.inj ht
    simp only [exec, execCmdword] at hx
    refine sysRun_keeps (by simp) (by simp) (fun x u v w h => ?_) hx
    split at h
    · split at h
      · obtain ⟨-, rfl⟩ := SysAns.ok.inj h
        rfl
      · nomatch h
    · nomatch h
  | pwrreq =>
    obtain rfl := Option.some.inj he
    obtain rfl := Option.some.inj ht
    simp only [exec, execPwrreq] at hx
    refine sysRun_keeps (by simp) (by simp) (fun x u v w h => ?_) hx
    split at h
    · nomatch h
    · split at h
      · nomatch h
      · obtain ⟨-, rfl⟩ := SysAns.ok.inj h
        simp
  | stage =>
    obtain rfl := Option.some.inj he
    obtain rfl := Option.some.inj ht
    simp only [exec, execStage] at hx
    refine sysRun_keeps (by simp) (by simp) (fun x u v w h => ?_) hx
    split at h
    next y hy =>
      obtain ⟨-, rfl⟩ := SysAns.ok.inj h
      exact rest_of_stageAccept (by simp) _ _ _ hy
    · nomatch h
  | plbegin | pload | plend | pstart | pstop =>
    obtain rfl := Option.some.inj he
    obtain rfl := Option.some.inj ht
    simp only [exec, execPlbegin, execPload, execPlend, execPstart, execPstop] at hx
    refine sysRun_keeps (by simp) (by simp) (fun x u v w h => ?_) hx
    exact loadAns_rest (by simp) h
  | _ => nomatch he

/-- The parts that an instruction of an engine may change are listed. -/
theorem touches_engine (c : Instr) : (c.engine?.isNone || (touches c).isSome) = true := by
  cases c <;> rfl

/-- Settles O6: an instruction runs through one of the shared operations, each of which keeps the parts and the other engines. -/
theorem framesOfInstructions : Obligations.FramesOfInstructions := by
  intro c e s t he hx
  have ht := touches_engine c
  rw [he] at ht
  obtain ⟨ps, hps⟩ := Option.isSome_iff_exists.mp ht
  obtain ⟨-, ho⟩ := instr_keeps he hps hx
  exact ⟨fun qs hqs => (instr_keeps he hqs hx).1, ho⟩

end Sys2Proof.Machine
end

section
/-!
PROOFS. O5: the states that keep the invariant. `Sound s0 s` says that `s` satisfies `Safety.Inv` and has the serial number, the
variant and the queue of `s0`; it reads the state through `rest`, so what keeps the parts that the invariant speaks of keeps it.
-/

namespace Sys2Proof.Machine

open Sys2Proof.Safety

/-- The parts that the invariant does not speak of. -/
def outer : List Part :=
  [.feeds, .clk, .time, .arb, .mirror, .pm, .core, .dies, .bridges, .lmu, .conv, .sadc, .wake, .pads, .tap, .free]

section
@[simp] theorem feeds_mem_outer : Part.feeds ∈ outer := by decide
@[simp] theorem clk_mem_outer : Part.clk ∈ outer := by decide
@[simp] theorem time_mem_outer : Part.time ∈ outer := by decide
@[simp] theorem arb_mem_outer : Part.arb ∈ outer := by decide
@[simp] theorem mirror_mem_outer : Part.mirror ∈ outer := by decide
@[simp] theorem pm_mem_outer : Part.pm ∈ outer := by decide
@[simp] theorem core_mem_outer : Part.core ∈ outer := by decide
@[simp] theorem dies_mem_outer : Part.dies ∈ outer := by decide
@[simp] theorem bridges_mem_outer : Part.bridges ∈ outer := by decide
@[simp] theorem lmu_mem_outer : Part.lmu ∈ outer := by decide
@[simp] theorem conv_mem_outer : Part.conv ∈ outer := by decide
@[simp] theorem sadc_mem_outer : Part.sadc ∈ outer := by decide
@[simp] theorem wake_mem_outer : Part.wake ∈ outer := by decide
@[simp] theorem pads_mem_outer : Part.pads ∈ outer := by decide
@[simp] theorem tap_mem_outer : Part.tap ∈ outer := by decide
@[simp] theorem free_mem_outer : Part.free ∈ outer := by decide
@[simp] theorem ret_not_mem_outer : Part.ret ∉ outer := by decide
@[simp] theorem hosts_not_mem_outer : Part.hosts ∉ outer := by decide
@[simp] theorem flt_not_mem_outer : Part.flt ∉ outer := by decide
@[simp] theorem ports_not_mem_outer : Part.ports ∉ outer := by decide
end

/-- What the invariant says of the fault masks. -/
def FltOk (f : Flt) : Prop := bit f.mask[(0 : Fin 4)] 5 = true

/-- What the invariant says of the hosts' queues and of the claim table. -/
def HostsOk (x : Hosts) : Prop := (∀ i : Fin 3, x.evq[i].length ≤ 32 ∧ x.evPos[i] < 24) ∧ mwf 3 x.claims = true

/-- What the invariant says of the life cycle and of the MRAM. -/
def RetOk (r : Ret) : Prop :=
  r.lc.toNat ≤ 4 ∧ (∀ t, r.pendWipe = some t → t.toNat ≤ 4) ∧ (∀ t, r.lcNext = some t → t.toNat ≤ 4) ∧ mwf 0 r.mram = true

/-- What the invariant says of the port-views. -/
def PortsOk (p : Ports) : Prop := mwf {} p.views = true

theorem inv_iff (s : State) : Inv s ↔ FltOk s.flt ∧ HostsOk s.hosts ∧ RetOk s.ret ∧ PortsOk s.ports := by
  constructor
  · rintro ⟨hf, hq, hl, hp, hn, hc, hv, hm⟩
    exact ⟨hf, ⟨hq, hc⟩, ⟨hl, hp, hn, hm⟩, hv⟩
  · rintro ⟨hf, ⟨hq, hc⟩, ⟨hl, hp, hn, hm⟩, hv⟩
    exact ⟨hf, hq, hl, hp, hn, hc, hv, hm⟩

/-- The parts that the invariant speaks of are as it says, and the identity and the queue are those of `s0`. -/
def Safe (s0 u : State) : Prop :=
  (u.serial = s0.serial ∧ u.variant = s0.variant ∧ u.pending = s0.pending) ∧
  FltOk u.flt ∧ HostsOk u.hosts ∧ RetOk u.ret ∧ PortsOk u.ports

/-- The state `s`, reached from `s0`, satisfies the invariant. -/
abbrev Sound (s0 s : State) : Prop := Safe s0 (rest outer s)

theorem sound_iff {s0 s : State} : Sound s0 s ↔
    (s.serial = s0.serial ∧ s.variant = s0.variant ∧ s.pending = s0.pending) ∧ Inv s := by
  rw [inv_iff]
  exact Iff.rfl

@[simp] theorem safe_ite {s0 u v : State} (c : Prop) [Decidable c] :
    Safe s0 (if c then u else v) ↔ (c → Safe s0 u) ∧ (¬ c → Safe s0 v) := by
  split <;> simp_all

section
variable {s0 s : State}

theorem sound_of_rest {t : State} (h : Sound s0 s) (ht : rest outer t = rest outer s) : Sound s0 t := by
  unfold Sound
  rw [ht]
  exact h

theorem sound_set_flt (h : Sound s0 s) {x : Flt} (hx : FltOk s.flt → FltOk x) : Sound s0 { s with flt := x } :=
  ⟨h.1, hx h.2.1, h.2.2⟩
theorem sound_set_hosts (h : Sound s0 s) {x : Hosts} (hx : HostsOk s.hosts → HostsOk x) : Sound s0 { s with hosts := x } :=
  ⟨h.1, h.2.1, hx h.2.2.1, h.2.2.2⟩
theorem sound_set_ret (h : Sound s0 s) {x : Ret} (hx : RetOk s.ret → RetOk x) : Sound s0 { s with ret := x } :=
  ⟨h.1, h.2.1, h.2.2.1, hx h.2.2.2.1, h.2.2.2.2⟩
theorem sound_set_ports (h : Sound s0 s) {x : Ports} (hx : PortsOk s.ports → PortsOk x) : Sound s0 { s with ports := x } :=
  ⟨h.1, h.2.1, h.2.2.1, h.2.2.2.1, hx h.2.2.2.2⟩

/-! The changes that leave what the invariant speaks of. -/

theorem hostsOk_of_eq {x y : Hosts} (hq : y.evq = x.evq) (hp : y.evPos = x.evPos) (hc : y.claims = x.claims) (hx : HostsOk x) :
    HostsOk y := by
  unfold HostsOk
  rw [hq, hp, hc]
  exact hx

theorem retOk_of_eq {x y : Ret} (hl : y.lc = x.lc) (hw : y.pendWipe = x.pendWipe) (hn : y.lcNext = x.lcNext) (hm : y.mram = x.mram)
    (hx : RetOk x) : RetOk y := by
  unfold RetOk
  rw [hl, hw, hn, hm]
  exact hx

@[simp] theorem sound_with_hosts (h : Sound s0 s) {x : Hosts} (hq : x.evq = s.hosts.evq) (hp : x.evPos = s.hosts.evPos)
    (hc : x.claims = s.hosts.claims) : Sound s0 { s with hosts := x } := sound_set_hosts h (hostsOk_of_eq hq hp hc)
@[simp] theorem sound_modHosts (h : Sound s0 s) {f : Hosts → Hosts} (hq : (f s.hosts).evq = s.hosts.evq)
    (hp : (f s.hosts).evPos = s.hosts.evPos) (hc : (f s.hosts).claims = s.hosts.claims) : Sound s0 (modHosts s f) :=
  sound_with_hosts h hq hp hc
@[simp] theorem sound_with_ret (h : Sound s0 s) {x : Ret} (hl : x.lc = s.ret.lc) (hw : x.pendWipe = s.ret.pendWipe)
    (hn : x.lcNext = s.ret.lcNext) (hm : x.mram = s.ret.mram) : Sound s0 { s with ret := x } :=
  sound_set_ret h (retOk_of_eq hl hw hn hm)
@[simp] theorem sound_modRet (h : Sound s0 s) {f : Ret → Ret} (hl : (f s.ret).lc = s.ret.lc)
    (hw : (f s.ret).pendWipe = s.ret.pendWipe) (hn : (f s.ret).lcNext = s.ret.lcNext) (hm : (f s.ret).mram = s.ret.mram) :
    Sound s0 (modRet s f) := sound_with_ret h hl hw hn hm
@[simp] theorem sound_with_ports (h : Sound s0 s) {x : Ports} (hv : x.views = s.ports.views) : Sound s0 { s with ports := x } := by
  refine sound_set_ports h fun hp => ?_
  unfold PortsOk
  rw [hv]
  exact hp
@[simp] theorem sound_modPorts (h : Sound s0 s) {f : Ports → Ports} (hv : (f s.ports).views = s.ports.views) :
    Sound s0 (modPorts s f) := sound_with_ports h hv
@[simp] theorem sound_modTw (h : Sound s0 s) (tw : TwId) (f : TwPort → TwPort) : Sound s0 (modTw s tw f) :=
  sound_with_ports h rfl
@[simp] theorem sound_modPv (h : Sound s0 s) (pv : PortView) (f : PView → PView) : Sound s0 (modPv s pv f) :=
  sound_set_ports h fun (hp : mwf {} s.ports.views = true) => mset_mwf ({} : PView) (pvIx pv) (f (getPv s pv)) hp

@[simp] theorem sound_when {f : State → State} (h : Sound s0 s) (hf : ∀ {t}, Sound s0 t → Sound s0 (f t)) (c : Bool) :
    Sound s0 (iff c f s) := by
  cases c
  · exact h
  · exact hf h

theorem sound_foldl {α : Type} {f : State → α → State} (hf : ∀ t x, Sound s0 t → Sound s0 (f t x)) :
    ∀ (xs : List α) {s : State}, Sound s0 s → Sound s0 (xs.foldl f s)
  | [], _, h => h
  | x :: xs, _, h => sound_foldl hf xs (hf _ x h)

/-! What follows every command. -/

@[simp] theorem sound_requestDue (h : Sound s0 s) (i : HostId) : Sound s0 (requestDue i s) := sound_set_ports h id

/-- A queue with room takes one more entry. -/
theorem hostsOk_evq {x : Hosts} (hx : HostsOk x) (i : Fin 3) {q : List EvEntry} (hq : q.length ≤ 32) :
    HostsOk { x with evq := vset x.evq i q } := by
  obtain ⟨he, hc⟩ := hx
  refine ⟨fun j => ⟨?_, (he j).2⟩, hc⟩
  rw [vset_get_fin]
  split
  · exact hq
  · exact (he j).1

@[simp] theorem sound_enterFor (h : Sound s0 s) (r : Raised) (i : HostId) : Sound s0 (enterFor r i s) := by
  simp only [enterFor]
  split
  · exact sound_set_hosts h id
  next hq =>
    refine sound_requestDue (sound_set_hosts h fun hx => ?_) i
    have hl : s.hosts.evq[hostIx i].length < 32 := Nat.lt_of_not_le hq
    exact hostsOk_evq hx _ (by rw [List.length_append]; exact hl)

@[simp] theorem sound_enterOne (h : Sound s0 s) (r : Raised) : Sound s0 (enterOne r s) :=
  sound_when (sound_when (sound_when h (fun h => sound_enterFor h r .a) _) (fun h => sound_enterFor h r .b) _)
    (fun h => sound_enterFor h r .c) _

@[simp] theorem sound_enterAll (h : Sound s0 s) : Sound s0 (enterAll s) :=
  sound_foldl (fun _ r ht => sound_enterOne ht r) _ (sound_set_hosts h id)

@[simp] theorem sound_faultOutputs (h : Sound s0 s) : Sound s0 (faultOutputs s) := h

@[simp] theorem sound_settle (h : Sound s0 s) : Sound s0 (settle s) := by
  unfold settle
  split
  · exact h
  · exact sound_faultOutputs (sound_enterAll h)

end

end Sys2Proof.Machine

end

section
/-!
PROOFS. O5: the operations that change a part that the invariant speaks of, in the order of the model, one lemma each.
-/

namespace Sys2Proof.Machine

open Sys2Proof.Safety

section
variable {s0 s : State}

/-- A change of the MRAM that keeps its canonical form. -/
theorem sound_mram (h : Sound s0 s) {f : Map Word → Map Word} (hf : ∀ m, mwf 0 m → mwf 0 (f m)) (lo hi : Nat) :
    Sound s0 (modRet s fun r => errGone lo hi { r with mram := f r.mram }) :=
  sound_set_ret h fun ⟨hl, hp, hn, hm⟩ => ⟨hl, hp, hn, hf _ hm⟩

/-! Retained store. -/

@[simp] theorem sound_rsSet (h : Sound s0 s) (a : Nat) (w : Word) : Sound s0 (rsSet a w s) :=
  sound_mram h (fun _ hm => mset_mwf 0 a w hm) a (a + 1)

@[simp] theorem sound_rsSetN (h : Sound s0 s) (a : Nat) (ws : List Word) : Sound s0 (rsSetN a ws s) :=
  sound_mram h (fun _ hm => msetAll_mwf 0 a ws hm) a (a + ws.length)

@[simp] theorem sound_rsWipe (h : Sound s0 s) (lo hi : Nat) : Sound s0 (rsWipe lo hi s) :=
  sound_mram h (fun _ hm => mwipe_mwf 0 lo hi hm) lo hi

/-- A restored FLT_MASK0 has bit 5 (R411). -/
@[simp] theorem sound_restoreRegs (h : Sound s0 s) (g : Nat → Word) : Sound s0 (restoreRegs g s) := by
  obtain ⟨hid, -, hh, hr, hv⟩ := h
  refine ⟨hid, ?_, hh, hr, hv⟩
  simp [FltOk, rest, restoreRegs, bit]

@[simp] theorem sound_restoreSlots (hs : Sound s0 s) : Sound s0 (restoreSlots s) := by
  simp only [restoreSlots]
  split
  · exact sound_when (sound_restoreRegs (sound_modRet hs rfl rfl rfl rfl) _) (fun h => sound_of_rest h (rest_raiseEv _ _ _)) _
  · have h1 : Sound s0 { s with ports := { s.ports with fb := true } } := sound_with_ports hs rfl
    generalize { s with ports := { s.ports with fb := true } } = u at h1
    exact sound_of_rest (sound_restoreRegs (sound_modRet h1 rfl rfl rfl rfl) _) (rest_raiseEv _ _ _)

@[simp] theorem sound_requestSave (hs : Sound s0 s) : Sound s0 (requestSave s) := by
  simp [Sound, requestSave, hs]

@[simp] theorem sound_setValid (hs : Sound s0 s) (k : Nat) (v : Bool) : Sound s0 (setValid k v s) := by
  unfold setValid
  (repeat' split) <;> simp [Sound, hs]

@[simp] theorem sound_beginSave (hs : Sound s0 s) : Sound s0 (beginSave s) := by
  simp only [beginSave]
  split
  · exact sound_setValid (sound_modRet (sound_rsSet (sound_rsSetN hs _ _) _ _) rfl rfl rfl rfl) _ _
  · exact hs

@[simp] theorem sound_endSave (hs : Sound s0 s) : Sound s0 (endSave s) := by
  simp only [endSave]
  split
  · exact sound_setValid (sound_modRet (sound_rsSet hs _ _) rfl rfl rfl rfl) _ _
  · exact hs

@[simp] theorem sound_checkMessage (hs : Sound s0 s) (n : Nat) : Sound s0 (checkMessage n s) := by
  simp [Sound, checkMessage, hs]

@[simp] theorem sound_checkMessages (hs : Sound s0 s) : Sound s0 (checkMessages s) :=
  sound_foldl (fun _ n h => sound_checkMessage h n) _ hs

/-! Hosts. -/

@[simp] theorem sound_admitCmd (hs : Sound s0 s) (pv : PortView) (ws : List Word) : Sound s0 (admitCmd pv ws s) := by
  simp only [admitCmd]
  split
  · simp [Sound, hs]
  · split
    · exact sound_modRet (sound_modHosts hs rfl rfl rfl) rfl rfl rfl rfl
    · exact sound_modHosts hs rfl rfl rfl

@[simp] theorem sound_admitReady (pv : PortView) : ∀ (n : Nat) {s : State}, Sound s0 s → Sound s0 (admitReady pv n s)
  | 0, _, h => h
  | n + 1, s, h => by
    rw [admitReady]
    split
    · split
      · exact h
      · exact sound_admitReady pv n (by simp [Sound, h])
    · exact h

@[simp] theorem sound_assembled (hs : Sound s0 s) (pv : PortView) (ws : List Word) : Sound s0 (assembled pv ws s) := by
  simp [Sound, assembled, hs]

@[simp] theorem sound_tagCheckDone (hs : Sound s0 s) (pv : PortView) : Sound s0 (tagCheckDone pv s) := by
  unfold tagCheckDone
  split
  · exact sound_admitReady pv 64 (sound_admitCmd (sound_modPv hs pv _) pv _)
  · exact hs

@[simp] theorem sound_commandByte (hs : Sound s0 s) (pv : PortView) (b : Byte) : Sound s0 (commandByte pv b s) := by
  simp [Sound, commandByte, hs]

@[simp] theorem sound_assemblyTimeout (hs : Sound s0 s) (pv : PortView) : Sound s0 (assemblyTimeout pv s) := by
  unfold assemblyTimeout
  (repeat' split) <;> simp [Sound, hs]

@[simp] theorem sound_setClaim (h : Sound s0 s) (res lvl : Nat) (c : BitVec 2) : Sound s0 (setClaim res lvl c s) :=
  sound_set_hosts h fun ⟨hq, hc⟩ => ⟨hq, mset_mwf 3 (res * 8 + lvl) c hc⟩

@[simp] theorem sound_closeClaimsOf (h : Sound s0 s) (i : HostId) : Sound s0 (closeClaimsOf i s) :=
  sound_set_hosts h fun ⟨hq, hc⟩ => ⟨hq, filter_mwfFrom 3 _ hc⟩

@[simp] theorem sound_claim (hs : Sound s0 s) (h : HostId) (res lvl : Nat) : Sound s0 (claim h res lvl s) := by
  simp only [claim]
  (repeat' split) <;> simp [Sound, hs]

@[simp] theorem sound_release (hs : Sound s0 s) (h : HostId) (res lvl : Nat) : Sound s0 (release h res lvl s) := by
  simp [Sound, release, hs]

@[simp] theorem sound_keeperEffect (hs : Sound s0 s) (e : CmdEnt) : Sound s0 (keeperEffect e s) := by
  simp only [keeperEffect]
  (repeat' split) <;> simp [Sound, hs]

@[simp] theorem sound_retire (hs : Sound s0 s) (e : CmdEnt) (rc : Byte) (reply : Word) :
    Sound s0 (retire e rc reply s) := by
  simp [Sound, retire, hs]

@[simp] theorem sound_retireResources (hs : Sound s0 s) : Sound s0 (retireResources s) :=
  sound_foldl (fun _ e h => sound_retire h e 0xF2 0) _ hs

@[simp] theorem sound_modRes (hs : Sound s0 s) (b : Nat) (f : ResBlk → ResBlk) : Sound s0 (modRes b f s) := by
  simp [Sound, modRes, hs]

@[simp] theorem sound_setProgFlag (hs : Sound s0 s) (src : Nat) (p : BitVec 24) : Sound s0 (setProgFlag src p s) := by
  simp [Sound, setProgFlag, hs]

@[simp] theorem sound_putRecord (hs : Sound s0 s) (fp : Bool) (ws : List Word) (br verd stat : Nat) (seq : BitVec 16) :
    Sound s0 (putRecord fp ws br verd stat seq s) := by
  simp [Sound, putRecord, hs]

@[simp] theorem sound_putCalib (hs : Sound s0 s) (br : Nat) (cf : BitVec 16) : Sound s0 (putCalib br cf s) := by
  simp [Sound, putCalib, hs]

@[simp] theorem sound_applyDef (hs : Sound s0 s) (d : Deferred) : Sound s0 (applyDef d s) := by
  unfold applyDef
  (repeat' split) <;> simp [Sound, hs]

@[simp] theorem sound_applyDefs (hs : Sound s0 s) (ds : List Deferred) : Sound s0 (applyDefs ds s) :=
  sound_foldl (fun _ d h => sound_applyDef h d) ds hs

@[simp] theorem sound_defer (hs : Sound s0 s) (eff : DefEff) : Sound s0 (defer eff s) := by
  simp [Sound, defer, hs]

@[simp] theorem sound_deferDone (hs : Sound s0 s) (e : CmdEnt) (rc : Byte) (reply : Word) :
    Sound s0 (deferDone e rc reply s) := by
  simp [Sound, deferDone, hs]

@[simp] theorem sound_discardDefs (hs : Sound s0 s) (ds : List Deferred) : Sound s0 (discardDefs ds s) := by
  simp only [discardDefs]
  split
  · exact sound_modRet (sound_modHosts hs rfl rfl rfl) rfl rfl rfl rfl
  · exact sound_modHosts hs rfl rfl rfl

theorem mwf_foldl_mset {α : Type} [DecidableEq α] (d : α) (k : Nat → Nat) (v : Map α → Nat → α) :
    ∀ (xs : List Nat) {m : Map α}, mwf d m → mwf d (xs.foldl (fun m p => mset d m (k p) (v m p)) m)
  | [], _, hm => hm
  | x :: xs, m, hm => mwf_foldl_mset d k v xs (mset_mwf d (k x) (v m x) hm)

/-- A queue is emptied. -/
theorem hostsOk_cleared {x : Hosts} (hx : HostsOk x) (i : Fin 3) :
    HostsOk { x with evq := vset x.evq i [], evPos := vset x.evPos i 0 } := by
  obtain ⟨he, hc⟩ := hx
  refine ⟨fun j => ?_, hc⟩
  simp only [vset_get_fin]
  split
  · exact ⟨Nat.zero_le _, by decide⟩
  · exact he j

@[simp] theorem sound_endHostC (hs : Sound s0 s) : Sound s0 (endHostC s) := by
  have h1 := sound_closeClaimsOf hs .c
  simp only [endHostC]
  generalize closeClaimsOf .c s = t at h1
  obtain ⟨hid, hf, hh, hr, hv⟩ := h1
  exact ⟨hid, hf, hostsOk_cleared hh 2, hr, mwf_foldl_mset ({} : PView) _ _ _ hv⟩

/-! The resident program. -/

@[simp] theorem sound_residentRetire (hs : Sound s0 s) (e : CmdEnt) (rc : Byte) (reply : Word) :
    Sound s0 (residentRetire e rc reply s) := by
  simp [Sound, residentRetire, hs]

@[simp] theorem sound_loadsetEnds (hs : Sound s0 s) : Sound s0 (loadsetEnds s) := by
  simp only [loadsetEnds]
  (repeat' split) <;> simp [Sound, hs]

@[simp] theorem sound_residentNext (hs : Sound s0 s) : Sound s0 (residentNext s) := by
  simp only [residentNext]
  (repeat' split) <;> simp [Sound, hs]

@[simp] theorem sound_residentServe (hs : Sound s0 s) (e : CmdEnt) : Sound s0 (residentServe e s) := by
  simp only [residentServe]
  split
  · split
    · simp [hs]
    · split
      next t ht => exact sound_modHosts (sound_of_rest hs (rest_of_plBegin (by simp) _ ht)) rfl rfl rfl
      · exact sound_residentRetire (sound_of_rest hs (rest_ignoreCore _ _ _)) _ _ _
  · split
    · simp [hs]
    · split
      next t ht => exact sound_residentRetire (sound_of_rest hs (rest_of_pStart (by simp) _ ht)) _ _ _
      · exact sound_residentRetire (sound_of_rest hs (rest_ignoreCore _ _ _)) _ _ _
  all_goals simp [hs]

@[simp] theorem sound_residentServeAll : ∀ (n : Nat) {s : State}, Sound s0 s → Sound s0 (residentServeAll n s)
  | 0, _, h => h
  | n + 1, s, h => by
    rw [residentServeAll]
    split
    · split
      · exact sound_residentServeAll n (sound_residentServe h _)
      · exact h
    · exact h

@[simp] theorem sound_serveNew (hs : Sound s0 s) (op : Nat) (rc : Byte) (reply : Word) (id : Nat) :
    Sound s0 (serveNew op rc reply id s) := by
  unfold serveNew
  (repeat' split) <;> simp [Sound, hs]

/-! Line supervision. -/

@[simp] theorem sound_issueRecord (hs : Sound s0 s) (fp : Bool) (b : Fin 8) (verd stat : Nat) (ws : List Word) :
    Sound s0 (issueRecord fp b verd stat ws s) := by
  simp [Sound, issueRecord, hs]

@[simp] theorem sound_healthRecord (hs : Sound s0 s) (b : Fin 8) (abandoned : Bool) (cause : Nat) :
    Sound s0 (healthRecord b abandoned cause s) := by
  simp [Sound, healthRecord, hs]

@[simp] theorem sound_fingerprintRecord (hs : Sound s0 s) (b : Fin 8) : Sound s0 (fingerprintRecord b s) := by
  simp [Sound, fingerprintRecord, hs]

@[simp] theorem sound_lineStop (hs : Sound s0 s) (b : Fin 8) (cause : Nat) : Sound s0 (lineStop b cause s) := by
  simp [Sound, lineStop, hs]

@[simp] theorem sound_takeSup (hs : Sound s0 s) (b : Fin 8) (w : BitVec 24) : Sound s0 (takeSup b w s) := by
  simp [Sound, takeSup, hs]

@[simp] theorem sound_takeSupBlock (hs : Sound s0 s) (ws : List Sample) : Sound s0 (takeSupBlock ws s) := by
  simp only [takeSupBlock]
  have h1 := sound_foldl (f := fun t b => takeSup b (ws.getD b.val 0) t) (fun _ b h => sound_takeSup h b _) (List.finRange 8) hs
  refine sound_foldl (fun t w h => ?_) _ (sound_of_rest h1 (by simp))
  split
  · exact h
  · exact sound_of_rest h (rest_ignoreCore _ _ _)

@[simp] theorem sound_calibrationEnd (hs : Sound s0 s) (b : Fin 8) : Sound s0 (calibrationEnd b s) := by
  simp [Sound, calibrationEnd, hs]

@[simp] theorem sound_windowEnd (hs : Sound s0 s) (b : Fin 8) (m : PilotMeas) : Sound s0 (windowEnd b m s) := by
  simp [Sound, windowEnd, hs]

@[simp] theorem sound_sweepDone (hs : Sound s0 s) (b : Fin 8) : Sound s0 (sweepDone b s) := by
  simp [Sound, sweepDone, hs]

@[simp] theorem sound_handDone (hs : Sound s0 s) (b : Fin 8) : Sound s0 (handDone b s) := by
  simp [Sound, handDone, hs]

@[simp] theorem sound_sweepEnd (hs : Sound s0 s) (b : Fin 8) (m : SweepMeas) : Sound s0 (sweepEnd b m s) := by
  simp [Sound, sweepEnd, hs]

@[simp] theorem sound_lineNext (hs : Sound s0 s) (n : Nat) (b : Fin 8) : Sound s0 (lineNext n b s) := by
  simp [Sound, lineNext, hs]

@[simp] theorem sound_lineBoundary (hs : Sound s0 s) (n : Nat) : Sound s0 (lineBoundary n s) :=
  sound_foldl (fun _ b h => sound_lineNext h n b) _ hs

@[simp] theorem sound_lineEndAll (hs : Sound s0 s) (cause : Nat) : Sound s0 (lineEndAll cause s) := by
  simp only [lineEndAll]
  have h1 := sound_foldl (f := fun t b => lineStop b cause t) (fun _ b h => sound_lineStop h b cause) (List.finRange 8) hs
  exact sound_of_rest h1 (by simp)

@[simp] theorem sound_lineStaged (hs : Sound s0 s) (b : Fin 8) : Sound s0 (lineStaged b s) := by
  simp [Sound, lineStaged, hs]

@[simp] theorem sound_lineNight (hs : Sound s0 s) : Sound s0 (lineNight s) := by
  refine sound_foldl (fun t b h => ?_) _ hs
  split
  · exact sound_lineStop h b 4
  · exact h

/-! Wake detector. -/

@[simp] theorem sound_captureDone (hs : Sound s0 s) : Sound s0 (captureDone s) := by
  simp only [captureDone]
  split
  · have h1 : Sound s0 (modWake s fun w => { w with capBusy := false, capDone := true }) := sound_of_rest hs (by simp)
    generalize (modWake s fun w => { w with capBusy := false, capDone := true }) = u at h1
    refine sound_set_ports h1 fun hv => ?_
    generalize List.range 16 = ks
    exact mwf_foldl_mset ({} : PView) (fun k => k) (fun m k => { mget {} m k with cap := 0 }) ks hv
  · exact hs

/-! Programs. -/

@[simp] theorem sound_controlEnds (hs : Sound s0 s) : Sound s0 (controlEnds s) := by
  simp [Sound, controlEnds, hs]

@[simp] theorem sound_controlStarts (hs : Sound s0 s) : Sound s0 (controlStarts s) := by
  have h1 : Sound s0 (modHosts (retireResources s) fun h => { h with claims := [] }) :=
    sound_set_hosts (sound_retireResources hs) fun ⟨hq, _⟩ => ⟨hq, rfl⟩
  simp only [controlStarts]
  exact sound_of_rest h1 (by simp)

@[simp] theorem sound_coldCore (hs : Sound s0 s) (auto : Option Nat) : Sound s0 (coldCore auto s) := by
  unfold coldCore
  (repeat' split) <;> simp [Sound, hs]

/-! Power manager. -/

@[simp] theorem sound_pcEnds (hs : Sound s0 s) (result : Nat) : Sound s0 (pcEnds result s) :=
  sound_of_rest (sound_modPorts (sound_modTw hs .p _) rfl) (rest_raiseEv _ _ _)

@[simp] theorem sound_portPStops (hs : Sound s0 s) : Sound s0 (portPStops s) := by
  simp [Sound, portPStops, hs]

@[simp] theorem sound_blockDelays (hs : Sound s0 s) (b : Nat) : Sound s0 (blockDelays b s) := by
  simp [Sound, blockDelays, hs]

@[simp] theorem sound_coreRetains (hs : Sound s0 s) : Sound s0 (coreRetains s) := by
  simp [Sound, coreRetains, hs]

@[simp] theorem sound_blockStops (hs : Sound s0 s) (b : Nat) (target : BitVec 2) : Sound s0 (blockStops b target s) := by
  simp [Sound, blockStops, hs]

@[simp] theorem sound_handshakeReply (hs : Sound s0 s) : Sound s0 (handshakeReply s) := by
  unfold handshakeReply
  (repeat' split) <;> simp [Sound, hs]

@[simp] theorem sound_windowEnds (hs : Sound s0 s) : Sound s0 (windowEnds s) := by
  simp only [windowEnds]
  split
  · split
    · refine sound_of_rest (sound_foldl (fun t x h => sound_modTw h _ _) _ (sound_of_rest hs ?_)) (rest_modPm (by simp) _ _)
      simp
    · exact hs
  · exact hs

@[simp] theorem sound_finishDawn (hs : Sound s0 s) : Sound s0 (finishDawn s) := by
  unfold finishDawn
  split
  · exact hs
  next d _ =>
    split
    · extract_lets keep s1 s2 t s3 s4 s5 s6 s7
      have h2 : Sound s0 s2 := sound_of_rest hs (by simp [s2, s1])
      clear_value s2
      have ht : Sound s0 t := sound_coldCore h2 _
      clear_value t
      have h3 : Sound s0 s3 := by
        simp only [s3]
        split
        · exact sound_of_rest h2 (by simp)
        · exact sound_of_rest ht (by split <;> simp)
      clear_value s3
      have h5 : Sound s0 s5 := sound_of_rest h3 (by simp [s5, s4])
      clear_value s5
      split
      · exact sound_of_rest h5 (by simp)
      · exact sound_of_rest h5 (by simp [s7, s6])
    · exact hs

/-! Staged sets. -/

@[simp] theorem sound_commitLines (hs : Sound s0 s) (x : StagedSet) : Sound s0 (commitLines x s) := by
  refine sound_foldl (fun t b h => ?_) _ hs
  split
  · exact sound_lineStaged h b
  · exact h

@[simp] theorem sound_stageCommit (hs : Sound s0 s) (x : StagedSet) : Sound s0 (stageCommit x s) := by
  simp [Sound, stageCommit, hs]

@[simp] theorem sound_stageBoundary (hs : Sound s0 s) : Sound s0 (stageBoundary s) := by
  unfold stageBoundary
  (repeat' split) <;> simp [Sound, hs]

/-! Reset and wipes. -/

@[simp] theorem sound_wipeStores (hs : Sound s0 s) : Sound s0 (wipeStores s) := by
  have h1 : Sound s0 (modRet (rsWipe 0x100000 0xA00000 (rsWipe 0 0x40000 s)) fun r =>
      { r with key := none, nonceLast := 0, sel := none, gen := 0, v0 := false, v1 := false, msgBad := [],
               bankEmpty := .replicate 2 false }) :=
    sound_modRet (sound_rsWipe (sound_rsWipe hs _ _) _ _) rfl rfl rfl rfl
  simp only [wipeStores]
  exact sound_of_rest h1 (by split <;> simp)

@[simp] theorem sound_wipeFor (hs : Sound s0 s) (tgt : BitVec 3) : Sound s0 (wipeFor tgt s) := by
  simp [Sound, wipeFor, hs]

theorem none_target : ∀ t : BitVec 3, none = some t → t.toNat ≤ 4 := fun _ h => nomatch h

@[simp] theorem sound_resumeWipe (hs : Sound s0 s) : Sound s0 (resumeWipe s) := by
  unfold resumeWipe
  split
  next t ht =>
    have hl : t.toNat ≤ 4 := hs.2.2.2.1.2.1 t ht
    exact sound_set_ret (sound_wipeFor hs t) fun ⟨_, _, hn, hm⟩ => ⟨hl, none_target, hn, hm⟩
  · exact hs

@[simp] theorem sound_leaveReset (hs : Sound s0 s) : Sound s0 (leaveReset s) := by
  have h1 : Sound s0 { s with resetHeld := false, ports := { s.ports with fb := s.ports.fbSel, addr := s.ports.haddr } } := hs
  have h2 := sound_restoreSlots (sound_resumeWipe h1)
  simp only [leaveReset]
  generalize restoreSlots (resumeWipe _) = u at h2
  exact sound_modRet (sound_of_rest h2 (by simp)) rfl rfl rfl rfl

/-! Takeover. -/

@[simp] theorem sound_takeover (hs : Sound s0 s) (cause : Nat) : Sound s0 (takeover cause s) := by
  unfold takeover
  extract_lets old s1 s2 s3 blocks t
  have h1 : Sound s0 s1 := by simp [Sound, s1, hs]
  clear_value s1
  have h2 : Sound s0 s2 := sound_discardDefs (sound_modHosts h1 rfl rfl rfl) _
  clear_value s2
  have h3 : Sound s0 s3 := sound_modHosts h2 rfl rfl rfl
  have ht : Sound s0 t := sound_coldCore (sound_modHosts h3 rfl rfl rfl) _
  clear_value s3 t
  split
  extract_lets s4 s5 s6 s7 s8 s9
  have h4 : Sound s0 s4 := by
    simp only [s4]
    split
    · exact sound_of_rest h3 (by simp)
    · exact sound_of_rest ht (by simp)
  clear_value s4
  have h9 : Sound s0 s9 := sound_of_rest h4 (by simp [s9, s8, s7, s6, s5])
  clear_value s9
  split
  · split
    · exact sound_of_rest h9 (by simp)
    · exact h9
  · exact h9

@[simp] theorem sound_coreStops (hs : Sound s0 s) : Sound s0 (coreStops s) := by
  simp [Sound, coreStops, hs]

@[simp] theorem sound_restart (hs : Sound s0 s) (x : Side) (cause : Nat) : Sound s0 (restart x cause s) := by
  simp [Sound, restart, hs]

/-! Reset and wipes. -/

/-- A reset clears what the invariant speaks of, but for the life cycle and the MRAM, which are retained. -/
@[simp] theorem sound_resetState (hs : Sound s0 s) : Sound s0 (resetState s) := by
  obtain ⟨hid, -, -, ⟨hl, hp, -, hm⟩, -⟩ := hs
  obtain ⟨hf, hh, -, hv⟩ := (inv_iff _).mp reset_inv
  exact ⟨hid, hf, hh, ⟨hl, hp, none_target, hm⟩, hv⟩

@[simp] theorem sound_deviceStops (hs : Sound s0 s) : Sound s0 (deviceStops s) := sound_resetState hs

/-! Takeover. -/

@[simp] theorem sound_coreCause (hs : Sound s0 s) (cause : Nat) : Sound s0 (coreCause cause s) := by
  unfold coreCause
  split
  · exact sound_takeover hs _
  · split
    · split
      · exact sound_restart hs _ _
      · exact sound_deviceStops hs
    · exact sound_restart hs _ _

@[simp] theorem sound_takeNow (hs : Sound s0 s) : Sound s0 (takeNow s) := by
  simp [Sound, takeNow, hs]

@[simp] theorem sound_feedGone (hs : Sound s0 s) (x : Side) : Sound s0 (feedGone x s) := by
  unfold feedGone
  split
  · exact sound_deviceStops hs
  · split
    · exact sound_of_rest hs (by simp)
    · split
      · split
        · exact sound_coreCause hs 1
        · exact sound_of_rest hs (by simp)
      · split
        · exact sound_of_rest hs (by simp)
        · exact sound_of_rest hs (by split <;> simp)

/-! Life cycle. -/

theorem sound_lcAccept (hs : Sound s0 s) {v : Word} (hv : (v.setWidth 3).toNat ≤ 4) : Sound s0 (lcAccept v s) :=
  sound_set_ret hs fun ⟨hl, _, hn, hm⟩ => ⟨hl, fun _ h => Option.some.inj h ▸ hv, hn, hm⟩

@[simp] theorem sound_keyAccept (hs : Sound s0 s) : Sound s0 (keyAccept s) := by
  simp [Sound, keyAccept, hs]

/-- A transition of R390 goes to a state of R390. -/
theorem lcListed_target {n t : Nat} (h : lcListed n t = true) : t ≤ 4 := by
  simp only [lcListed, Bool.or_eq_true, Bool.and_eq_true, decide_eq_true_eq] at h
  omega

theorem lcListed_of_lcBad {v : Word} (h : lcBad s v = none) : lcListed s.ret.lc.toNat (fld v 0 3) = true := by
  unfold lcBad at h
  split at h
  · nomatch h
  · split at h
    · nomatch h
    next hl => simpa using hl

theorem sound_lcRequest (hs : Sound s0 s) {v : Word} {t : State} (ht : lcRequest v s = .inr t) : Sound s0 t := by
  have hk : Sound s0 (modRet s fun r => { r with reqTarget := v.setWidth 3, reqKeyw := bit v 3 }) :=
    sound_modRet hs rfl rfl rfl rfl
  simp only [lcRequest] at ht
  split at ht
  · exact Sum.inr.inj ht ▸ hk
  · split at ht
    · split at ht
      · nomatch ht
      · exact Sum.inr.inj ht ▸ sound_keyAccept hk
    · split at ht
      · nomatch ht
      next hb =>
        have hl : (v.setWidth 3).toNat ≤ 4 := by
          have h := lcListed_target (lcListed_of_lcBad hb)
          simpa [fld] using h
        exact Sum.inr.inj ht ▸ sound_lcAccept hk hl

@[simp] theorem sound_wipeDone (hs : Sound s0 s) : Sound s0 (wipeDone s) := by
  unfold wipeDone
  split
  next t _ ht =>
    have hl : t.toNat ≤ 4 := hs.2.2.2.1.2.1 t ht
    split
    · exact hs
    · exact sound_set_ret (sound_wipeFor hs t) fun ⟨hc, hp, _, hm⟩ => ⟨hc, hp, fun _ h => Option.some.inj h ▸ hl, hm⟩
  · exact hs

@[simp] theorem sound_lcBoundary (hs : Sound s0 s) : Sound s0 (lcBoundary s) := by
  simp only [lcBoundary]
  split
  · exact hs
  next t ht =>
    have hl : t.toNat ≤ 4 := hs.2.2.2.1.2.2.1 t ht
    have h1 : Sound s0 (modRet s fun r => { r with lc := t, lcNext := none, pendWipe := none, wiping := false }) :=
      sound_set_ret hs fun ⟨_, _, _, hm⟩ => ⟨hl, none_target, none_target, hm⟩
    generalize (modRet s fun r => { r with lc := t, lcNext := none, pendWipe := none, wiping := false }) = u at h1
    have h2 : Sound s0 (if u.conv.permit = 0 then u else permitEnds u) := by
      split
      · exact h1
      · exact sound_of_rest h1 (by simp)
    have h3 : Sound s0 (if s.ret.lc = 3 then endHostC (if u.conv.permit = 0 then u else permitEnds u) else u) := by
      split
      · exact sound_endHostC h2
      · exact h1
    exact sound_of_rest h3 (by simp)

/-! Images. -/

@[simp] theorem sound_modImg (hs : Sound s0 s) (f : Img → Img) : Sound s0 (modImg f s) := by
  simp [Sound, modImg, hs]

@[simp] theorem sound_imgEnds (hs : Sound s0 s) (err : Nat) : Sound s0 (imgEnds err s) := by
  simp [Sound, imgEnds, hs]

@[simp] theorem sound_imgBegins (hs : Sound s0 s) (op num ofs : Nat) : Sound s0 (imgBegins op num ofs s) := by
  simp [Sound, imgBegins, hs]

@[simp] theorem sound_imgAtOnce (hs : Sound s0 s) (op num err : Nat) : Sound s0 (imgAtOnce op num err s) := by
  simp [Sound, imgAtOnce, hs]

@[simp] theorem sound_exportBegins (hs : Sound s0 s) (fp msg : Bool) : Sound s0 (exportBegins fp msg s) := by
  simp [Sound, exportBegins, hs]

@[simp] theorem sound_importWipe (hs : Sound s0 s) : Sound s0 (importWipe s) := by
  have h1 : Sound s0 (modRet (rsWipe 0x20000 0x20400 (rsWipe 0x100000 0xA00000 s)) fun r =>
      { r with msgBad := [], bankEmpty := .replicate 2 false }) :=
    sound_modRet (sound_rsWipe (sound_rsWipe hs _ _) _ _) rfl rfl rfl rfl
  simp only [importWipe]
  exact sound_of_rest h1 (by split <;> simp)

@[simp] theorem sound_importItem (hs : Sound s0 s) (o : Nat) (x : Nat × List Word) : Sound s0 (importItem o x s).2 := by
  simp only [importItem]
  split
  · exact sound_setValid (sound_modRet (sound_rsSetN hs _ _) rfl rfl rfl rfl) _ _
  · exact sound_rsSetN hs _ _
  · exact sound_of_rest (sound_rsSetN hs 0x20000 x.2) (by simp)
  · split
    · exact hs
    · exact sound_checkMessage (sound_rsSetN (sound_rsSetN hs _ _) _ _) _

@[simp] theorem sound_importItems : ∀ (xs : List (Nat × List Word)) (o : Nat) {s : State}, Sound s0 s → Sound s0
    (importItems o xs s)
  | [], _, _, hs => hs
  | x :: xs, o, _, hs => sound_importItems xs _ (sound_importItem hs o x)

@[simp] theorem sound_importHolds (hs : Sound s0 s) (w : Word) (n : Nat) : Sound s0 (importHolds w n s) := by
  simp only [importHolds]
  (repeat' split) <;> simp [Sound, hs]

@[simp] theorem sound_imgWord (hs : Sound s0 s) (w : Word) : Sound s0 (imgWord w s) := by
  simp only [imgWord]
  have h1 :
      Sound s0 (if s.ret.img.op = 5 then importHolds w s.ret.img.words s else rsSet
      ((imgPlace s.ret.img).1 + s.ret.img.words) w s) := by
    split
    · exact sound_importHolds hs _ _
    · exact sound_rsSet hs _ _
  split
  · split
    · exact sound_imgEnds (sound_modImg h1 _) _
    · exact sound_modImg (sound_modImg h1 _) _
  · exact sound_modImg (sound_modImg h1 _) _

@[simp] theorem sound_imgPush (hs : Sound s0 s) (b : Byte) : Sound s0 (imgPush b s) := by
  simp [Sound, imgPush, hs]

@[simp] theorem sound_imgChecked (hs : Sound s0 s) : Sound s0 (imgChecked s) := by
  simp only [imgChecked]
  split
  · exact hs
  · split
    · refine sound_imgEnds ?_ _
      split
      · exact sound_modRet hs rfl rfl rfl rfl
      · exact hs
    · split
      · split
        · exact sound_imgEnds (sound_modRet (sound_rsSetN hs _ _) rfl rfl rfl rfl) _
        · exact sound_imgEnds hs _
      · split
        · split
          · exact sound_imgEnds (sound_importItems _ _ hs) _
          · exact sound_imgEnds hs _
        · exact sound_imgEnds hs _

theorem sound_imgPop (hs : Sound s0 s) {b : Byte} {t : State} (ht : imgPop s = some (b, t)) : Sound s0 t := by
  simp only [imgPop] at ht
  split at ht
  · nomatch ht
  · obtain ⟨-, rfl⟩ := Prod.mk.inj (Option.some.inj ht)
    split
    · exact sound_imgEnds (sound_modImg hs _) _
    · exact sound_modImg hs _

@[simp] theorem sound_deleteMsg (hs : Sound s0 s) (n : Nat) : Sound s0 (deleteMsg n s) := by
  simp [Sound, deleteMsg, hs]

@[simp] theorem sound_emptyBank (hs : Sound s0 s) (n : Nat) : Sound s0 (emptyBank n s) := by
  simp [Sound, emptyBank, hs]

@[simp] theorem sound_imgStart (hs : Sound s0 s) (op num ofs : Nat) (fp msg : Bool) :
    Sound s0 (imgStart op num ofs fp msg s) := by
  unfold imgStart
  (repeat' split) <;> simp [Sound, hs]

theorem sound_imgControl (hs : Sound s0 s) {h : HostId} {v : Word} {t : State} (ht : imgControl h v s = .inr t) : Sound s0 t := by
  unfold imgControl at ht
  split at ht
  · nomatch ht
  · exact Sum.inr.inj ht ▸ sound_imgStart hs _ _ _ _ _

/-! Port P. -/

@[simp] theorem sound_modPc (hs : Sound s0 s) (f : PcPort → PcPort) : Sound s0 (modPc f s) := by
  simp [Sound, modPc, hs]

@[simp] theorem sound_pcStart (hs : Sound s0 s) (v : Word) : Sound s0 (pcStart v s) := by
  simp [Sound, pcStart, hs]

@[simp] theorem sound_pcCleared (hs : Sound s0 s) (failed : Bool) : Sound s0 (pcCleared failed s) := by
  simp [Sound, pcCleared, hs]

@[simp] theorem sound_pcSent (hs : Sound s0 s) (n i : Nat) : Sound s0 (pcSent n i s) := by
  simp [Sound, pcSent, hs]

@[simp] theorem sound_pcDone (hs : Sound s0 s) (rx : List Byte) : Sound s0 (pcDone rx s) := by
  simp only [pcDone]
  split
  · exact sound_pcEnds (sound_pcSent hs _ _) _
  · exact sound_pcEnds (sound_modPc (sound_pcSent hs _ _) _) _

@[simp] theorem sound_pcOutcome (hs : Sound s0 s) (r : PcEnd) : Sound s0 (pcOutcome r s) := by
  unfold pcOutcome
  (repeat' split) <;> simp [Sound, hs]

@[simp] theorem sound_pcTransferEnds (hs : Sound s0 s) (cleared : Bool) (r : PcEnd) :
    Sound s0 (pcTransferEnds cleared r s) := by
  unfold pcTransferEnds
  (repeat' split) <;> simp [Sound, hs]

@[simp] theorem sound_pcLost (hs : Sound s0 s) : Sound s0 (pcLost s) := by
  simp [Sound, pcLost, hs]

@[simp] theorem sound_pcRetry (hs : Sound s0 s) : Sound s0 (pcRetry s) := by
  simp [Sound, pcRetry, hs]

/-! Register commits. -/

@[simp] theorem sound_setTw (hs : Sound s0 s) (x : Fin 3) (r : Reg) (v : Word) : Sound s0 (setTw x r v s) := by
  simp [Sound, setTw, hs]

@[simp] theorem sound_selectRecord (hs : Sound s0 s) (pv : PortView) (v : Word) : Sound s0 (selectRecord pv v s) := by
  simp [Sound, selectRecord, hs]

@[simp] theorem sound_ignCommit (hs : Sound s0 s) (h : Fin 4) (v : Word) : Sound s0 (ignCommit h v s) := by
  simp [Sound, ignCommit, hs]

@[simp] theorem sound_fltCtrlCommit (hs : Sound s0 s) (v : Word) : Sound s0 (fltCtrlCommit v s) := sound_set_flt hs id

@[simp] theorem sound_twStatusCommit (hs : Sound s0 s) (x : Fin 3) (v : Word) : Sound s0 (twStatusCommit x v s) := by
  simp [Sound, twStatusCommit, hs]

/-- The FLT_MASK registers: bit 5 of FLT_MASK0 stays 1 (R411). -/
theorem sound_fltMask (hs : Sound s0 s) (n : Fin 4) (v : Word) :
    Sound s0 { s with flt := { s.flt with mask := vset s.flt.mask n (if n = 0 then v ||| 0x20 else v) } } := by
  refine sound_set_flt hs fun hf => ?_
  simp only [FltOk, vset_get_fin]
  split
  · simp [bit]
  · exact hf

@[simp] theorem sound_orIgnore (hs : Sound s0 s) (pv : PortView) (page ptr : Nat) {r : Nat ⊕ State}
    (hr : ∀ t, r = .inr t → Sound s0 t) : Sound s0 (orIgnore pv page ptr r s) := by
  unfold orIgnore
  split
  · exact sound_of_rest hs (rest_ignoreReg _ _ _ _ _)
  next t => exact hr t rfl

@[simp] theorem sound_regEffect (hs : Sound s0 s) (pv : PortView) (page ptr : Nat) (r : Reg) (v : Word) :
    Sound s0 (regEffect pv page ptr r v s) := by
  cases r with
  | fltMask n => exact sound_fltMask hs n v
  | lcReq => exact sound_orIgnore hs _ _ _ fun _ ht => sound_lcRequest hs ht
  | imgCtrl => exact sound_orIgnore hs _ _ _ fun _ ht => sound_imgControl hs ht
  | _ => simp [Sound, regEffect, hs]

@[simp] theorem sound_commitReg (hs : Sound s0 s) (pv : PortView) (page ptr : Nat) (v : Word) :
    Sound s0 (commitReg pv page ptr v s) := by
  unfold commitReg
  (repeat' split) <;> simp [Sound, hs]

/-! Ports. -/

@[simp] theorem sound_fifoErr (hs : Sound s0 s) (x : Fin 3) : Sound s0 (fifoErr x s) := by
  simp [Sound, fifoErr, hs]

@[simp] theorem sound_fpCount (hs : Sound s0 s) (k : Nat) : Sound s0 (fpCount k s) := by
  simp [Sound, fpCount, hs]

@[simp] theorem sound_fifoFull (hs : Sound s0 s) (pt : PortId) : Sound s0 (fifoFull pt s) := by
  unfold fifoFull
  (repeat' split) <;> simp [Sound, hs]

@[simp] theorem sound_fifoEmpty (hs : Sound s0 s) (pt : PortId) : Sound s0 (fifoEmpty pt s) := by
  unfold fifoEmpty
  (repeat' split) <;> simp [Sound, hs]

@[simp] theorem sound_fifoTakes (hs : Sound s0 s) (pv : PortView) (page ptr : Nat) (b : Byte) :
    Sound s0 (fifoTakes pv page ptr b s).2 := by
  unfold fifoTakes
  (repeat' split) <;> simp [Sound, hs]

@[simp] theorem sound_fifoPush (hs : Sound s0 s) (pv : PortView) (page ptr : Nat) (b : Byte) :
    Sound s0 (fifoPush pv page ptr b s) := by
  have h1 := sound_fifoTakes hs pv page ptr b
  simp only [fifoPush]
  split
  · exact sound_modPorts h1 rfl
  · exact sound_fifoFull h1 _

/-- A byte of the oldest entry is read; with its last one the entry leaves. -/
theorem hostsOk_popped {x : Hosts} (hx : HostsOk x) {i : Fin 3} {e : EvEntry} {es : List EvEntry} (hq : x.evq[i] = e :: es) :
    HostsOk { x with evPos := vset x.evPos i (if 23 ≤ x.evPos[i] then 0 else x.evPos[i] + 1),
                     evq := if 23 ≤ x.evPos[i] then vset x.evq i es else x.evq } := by
  obtain ⟨he, hc⟩ := hx
  refine ⟨fun j => ?_, hc⟩
  have hlen := (he i).1
  rw [hq, List.length_cons] at hlen
  split
  · simp only [vset_get_fin]
    split
    · exact ⟨by omega, by omega⟩
    · exact he j
  · simp only [vset_get_fin]
    refine ⟨(he j).1, ?_⟩
    split
    · omega
    · exact (he j).2

@[simp] theorem sound_popEvent (hs : Sound s0 s) (h : HostId) : Sound s0 (popEvent h s).2 := by
  simp only [popEvent]
  split
  · exact hs
  next e es he => exact sound_set_hosts hs fun hx => hostsOk_popped hx he

@[simp] theorem sound_popRecord (hs : Sound s0 s) (pv : PortView) : Sound s0 (popRecord pv s).2 := by
  unfold popRecord
  split
  · exact hs
  · exact sound_modPv hs _ _

@[simp] theorem sound_popCapture (hs : Sound s0 s) (pv : PortView) : Sound s0 (popCapture pv s).2 := by
  simp only [popCapture]
  split
  · exact hs
  · split
    · exact hs
    · exact sound_modPv hs _ _

@[simp] theorem sound_popRx (hs : Sound s0 s) : Sound s0 (popRx s).2 := by
  unfold popRx
  split
  · exact hs
  · split
    · exact hs
    · exact sound_modPc hs _

@[simp] theorem sound_fifoGives (hs : Sound s0 s) (pv : PortView) (page ptr : Nat) : Sound s0 (fifoGives pv page ptr s).2 := by
  unfold fifoGives
  split
  · exact sound_popEvent hs _
  · split
    · split
      · exact hs
      · exact sound_popRx hs
    · split
      · exact sound_popRecord hs _
      · split
        · split
          · exact hs
          · split
            next ht => exact sound_imgPop hs ht
            · exact hs
        · split
          · exact sound_popCapture hs _
          · exact hs

@[simp] theorem sound_fifoPop (hs : Sound s0 s) (pv : PortView) (page ptr : Nat) : Sound s0 (fifoPop pv page ptr s).2 := by
  have h1 := sound_fifoGives hs pv page ptr
  unfold fifoPop
  split
  next h => rwa [h] at h1
  next h =>
    rw [h] at h1
    exact sound_fifoEmpty h1 _

@[simp] theorem sound_loadGroup (hs : Sound s0 s) (pv : PortView) (g : Bool) : Sound s0 (loadGroup pv g s) := by
  simp [Sound, loadGroup, hs]

@[simp] theorem sound_groupByte (hs : Sound s0 s) (pv : PortView) (r : Reg) (g : Bool) (k ptr : Nat) :
    Sound s0 (groupByte pv r g k ptr s).2 := by
  simp only [groupByte]
  split
  · exact sound_loadGroup hs _ _
  · exact hs

@[simp] theorem sound_plainByte (hs : Sound s0 s) (pv : PortView) (page ptr : Nat) : Sound s0 (plainByte pv page ptr s).2 := by
  simp only [plainByte]
  split
  · exact sound_modPv hs _ _
  · split <;> exact hs

@[simp] theorem sound_windowByte (hs : Sound s0 s) (pv : PortView) (page ptr : Nat) : Sound s0 (windowByte pv page ptr s).2 := by
  unfold windowByte
  split
  · exact hs
  · split
    · exact hs
    · split
      · split
        · exact sound_groupByte hs _ _ _ _ _
        · exact hs
      · exact sound_plainByte hs _ _ _

@[simp] theorem sound_advancePtr (hs : Sound s0 s) (pv : PortView) : Sound s0 (advancePtr pv s) := by
  simp [Sound, advancePtr, hs]

@[simp] theorem sound_readByteAt (hs : Sound s0 s) (pv : PortView) : Sound s0 (readByteAt pv s).2 := by
  simp only [readByteAt]
  split
  · exact sound_fifoPop (sound_modPv hs _ _) _ _ _
  · split
    · exact sound_advancePtr hs _
    · exact sound_advancePtr (sound_windowByte hs _ _ _) _

@[simp] theorem sound_readBytes (pv : PortView) : ∀ (n : Nat) {s : State}, Sound s0 s → Sound s0 (readBytes pv n s).2
  | 0, _, hs => hs
  | n + 1, _, hs => sound_readBytes pv n (sound_readByteAt hs pv)

@[simp] theorem sound_deliverBytes {r : List Byte × State} (hs : Sound s0 r.2) :
    Sound s0 (deliverBytes r) := sound_modPorts hs rfl

@[simp] theorem sound_dropStaging (hs : Sound s0 s) (pv : PortView) : Sound s0 (dropStaging pv s) := by
  simp only [dropStaging]
  split
  · exact hs
  · split
    · exact sound_modPorts (sound_modPv hs _ _) rfl
    · exact sound_modPv hs _ _

@[simp] theorem sound_stageByte (hs : Sound s0 s) (pv : PortView) (page ptr : Nat) (b : Byte) :
    Sound s0 (stageByte pv page ptr b s) := by
  unfold stageByte
  extract_lets place k same u
  have hu : Sound s0 u := by
    simp only [u]
    split
    · exact hs
    · exact sound_dropStaging hs _
  split
  split
  · exact sound_commitReg (sound_modPv hu _ _) _ _ _ _
  · exact sound_modPv hu _ _

@[simp] theorem sound_windowWrite (hs : Sound s0 s) (pv : PortView) (page ptr : Nat) (b : Byte) :
    Sound s0 (windowWrite pv page ptr b s) := by
  simp [Sound, windowWrite, hs]

@[simp] theorem sound_writeByteAt (hs : Sound s0 s) (pv : PortView) (b : Byte) : Sound s0 (writeByteAt pv b s) := by
  simp [Sound, writeByteAt, hs]

@[simp] theorem sound_writeBytes (hs : Sound s0 s) (pv : PortView) (bs : List Byte) : Sound s0 (writeBytes pv bs s) :=
  sound_foldl (fun _ b h => sound_writeByteAt h pv b) bs hs

@[simp] theorem sound_endView (hs : Sound s0 s) (pv : PortView) : Sound s0 (endView pv s) := by
  simp [Sound, endView, hs]

@[simp] theorem sound_endTransfer (hs : Sound s0 s) (pt : PortId) : Sound s0 (endTransfer pt s) :=
  sound_endView (sound_endView (sound_endView hs _) _) _

@[simp] theorem sound_setPhase (hs : Sound s0 s) (tw : TwId) (ph : TwPhase) (h : Option HostId) :
    Sound s0 (setPhase tw ph h s) := by
  simp [Sound, setPhase, hs]

@[simp] theorem sound_twStart (hs : Sound s0 s) (tw : TwId) : Sound s0 (twStart tw s) := by
  unfold twStart
  split
  · exact hs
  · split
    · exact sound_modTw (sound_setPhase (sound_endTransfer hs _) _ _ _) _ _
    · exact hs

@[simp] theorem sound_twStop (hs : Sound s0 s) (tw : TwId) : Sound s0 (twStop tw s) := by
  unfold twStop
  split
  · exact hs
  · split
    · exact sound_modTw (sound_setPhase (sound_endTransfer hs _) _ _ _) _ _
    · exact hs

@[simp] theorem sound_setNack (hs : Sound s0 s) (n : Bool) : Sound s0 (setNack n s) := by
  simp [Sound, setNack, hs]

@[simp] theorem sound_twAddress (hs : Sound s0 s) (tw : TwId) (b : Byte) (n : Nat) : Sound s0 (twAddress tw b n s) := by
  simp only [twAddress]
  split
  · split
    · exact sound_setNack (sound_setPhase hs _ _ _) _
    · split
      · exact sound_deliverBytes (sound_readBytes _ n (sound_setPhase (sound_setNack hs _) _ _ _))
      · exact sound_setPhase (sound_setNack hs _) _ _ _
  · exact hs

@[simp] theorem sound_twPointer (hs : Sound s0 s) (tw : TwId) (b : Byte) : Sound s0 (twPointer tw b s) := by
  simp only [twPointer]
  split
  · exact sound_setNack (sound_setPhase (sound_modPv hs _ _) _ _ _) _
  · exact hs

@[simp] theorem sound_fetched (hs : Sound s0 s) (tw : TwId) (t : TwPort) : Sound s0 (fetched tw t s) := by
  simp only [fetched]
  split
  · split
    · exact hs
    · exact sound_windowByte hs _ _ _
  · exact hs

@[simp] theorem sound_twAbort (hs : Sound s0 s) (tw : TwId) (restart : Bool) : Sound s0 (twAbort tw restart s) := by
  have h1 := sound_endTransfer (sound_fetched hs tw (s.ports.tw[twIx tw])) (twPort tw)
  simp only [twAbort]
  split
  · generalize endTransfer (twPort tw) (fetched tw (s.ports.tw[twIx tw]) s) = u at h1
    have h2 := sound_setPhase (sound_modTw h1 tw fun t => { t with rsack := sat8 t.rsack }) tw
        (if restart then .addr else .idle) none
    have h3 := sound_modTw h2 tw fun t => { t with use := t.cfg }
    refine sound_of_rest ?_ (rest_raiseLimited _ _ _ _ _)
    split
    · exact h2
    · exact h3
  · exact hs

@[simp] theorem sound_stretchOut (hs : Sound s0 s) (tw : TwId) : Sound s0 (stretchOut tw s) := by
  unfold stretchOut
  split
  · exact sound_of_rest (sound_modTw (sound_setPhase (sound_endTransfer hs _) _ _ _) _ _) (rest_raiseEv _ _ _)
  · exact hs

@[simp] theorem sound_requestBegins (hs : Sound s0 s) (tw : TwId) : Sound s0 (requestBegins tw s) := by
  simp [Sound, requestBegins, hs]

@[simp] theorem sound_requestEnds (hs : Sound s0 s) (tw : TwId) : Sound s0 (requestEnds tw s) := by
  simp [Sound, requestEnds, hs]

@[simp] theorem sound_requestAgain (hs : Sound s0 s) (tw : TwId) : Sound s0 (requestAgain tw s) := by
  simp [Sound, requestAgain, hs]

@[simp] theorem sound_nightMatch (hs : Sound s0 s) (tw : TwId) (b : Byte) : Sound s0 (nightMatch tw b s) := by
  unfold nightMatch
  (repeat' split) <;> simp [Sound, hs]

@[simp] theorem sound_logicReadyOn (hs : Sound s0 s) (n : Nat) (tw : TwId) : Sound s0 (logicReadyOn n tw s) := by
  simp only [logicReadyOn]
  split
  · exact sound_deliverBytes (sound_readBytes _ n (sound_setPhase hs _ _ _))
  · exact sound_setPhase hs _ _ _
  · exact hs

@[simp] theorem sound_logicReady (hs : Sound s0 s) (n : Nat) : Sound s0 (logicReady n s) := by
  simp [Sound, logicReady, hs]

@[simp] theorem sound_fpBegins (hs : Sound s0 s) (m3 : Bool) : Sound s0 (fpBegins m3 s) := by
  simp [Sound, fpBegins, hs]

@[simp] theorem sound_fpPlace (hs : Sound s0 s) (pv : PortView) (page ptr : Byte) : Sound s0 (fpPlace pv page ptr s) := by
  simp [Sound, fpPlace, hs]

@[simp] theorem sound_fpWrite (hs : Sound s0 s) (m3 : Bool) (page ptr : Byte) (bs : List Byte) :
    Sound s0 (fpWrite m3 page ptr bs s) := by
  simp only [fpWrite]
  split
  · exact hs
  · split
    · exact sound_writeBytes (sound_fpPlace (sound_fpBegins hs _) _ _ _) _ _
    · exact sound_fpBegins hs _

@[simp] theorem sound_fpRead (hs : Sound s0 s) (m3 : Bool) (page ptr : Byte) (n : Nat) : Sound s0 (fpRead m3 page ptr n s) := by
  simp only [fpRead]
  split
  · exact hs
  · split
    · exact sound_deliverBytes (sound_readBytes _ n (sound_fpPlace (sound_fpBegins hs _) _ _ _))
    · exact sound_fpBegins hs _

@[simp] theorem sound_fpReadStatus (hs : Sound s0 s) (m3 : Bool) : Sound s0 (fpReadStatus m3 s) := by
  simp only [fpReadStatus]
  split
  · exact hs
  · split
    · exact sound_deliverBytes (sound_fpBegins hs _)
    · exact sound_fpBegins hs _

@[simp] theorem sound_fpBadOp (hs : Sound s0 s) (m3 : Bool) (op : Byte) : Sound s0 (fpBadOp m3 op s) := by
  simp [Sound, fpBadOp, hs]

@[simp] theorem sound_fpEnds (hs : Sound s0 s) : Sound s0 (fpEnds s) := by
  simp [Sound, fpEnds, hs]

/-! Host rows. -/

@[simp] theorem sound_commitRow (hs : Sound s0 s) (pv : PortView) (page off : Nat) (v : Word) :
    Sound s0 (commitRow pv page off v s) := by
  simp [Sound, commitRow, hs]

@[simp] theorem sound_popRow (hs : Sound s0 s) (pv : PortView) (page ptr : Nat) : Sound s0 (popRow pv page ptr s) :=
  sound_deliverBytes (sound_fifoPop hs _ _ _)

/-! Redundancy. -/

@[simp] theorem sound_copyComplete (hs : Sound s0 s) (c : CopyRec) : Sound s0 (copyComplete c s) := by
  simp only [copyComplete]
  exact sound_applyDefs (sound_modHosts (sound_of_rest hs (by simp)) rfl rfl rfl) _

@[simp] theorem sound_takeAtAck (hs : Sound s0 s) : Sound s0 (takeAtAck s) := by
  unfold takeAtAck
  (repeat' split) <;> simp [Sound, hs]

@[simp] theorem sound_copyAck (hs : Sound s0 s) : Sound s0 (copyAck s) := by
  unfold copyAck
  (repeat' split) <;> simp [Sound, hs]

/-! Boundaries. -/

@[simp] theorem sound_coreSleeps (hs : Sound s0 s) : Sound s0 (coreSleeps s) := by
  unfold coreSleeps
  (repeat' split) <;> simp [Sound, hs]

@[simp] theorem sound_residentFrame (hs : Sound s0 s) : Sound s0 (residentFrame s) := by
  simp [Sound, residentFrame, hs]

@[simp] theorem sound_programBlocks (hs : Sound s0 s) : Sound s0 (programBlocks s) := by
  simp [Sound, programBlocks, hs]

@[simp] theorem sound_programEnds (hs : Sound s0 s) : Sound s0 (programEnds s) := by
  simp [Sound, programEnds, hs]

@[simp] theorem sound_deferBoundary (hs : Sound s0 s) (ran : Bool) : Sound s0 (deferBoundary ran s) := by
  have h1 := sound_applyDefs (sound_modHosts (f := fun h => { h with defHeld := [] }) hs rfl rfl rfl) s.hosts.defHeld
  simp only [deferBoundary]
  split
  · exact sound_modHosts h1 rfl rfl rfl
  · exact sound_applyDefs (sound_modHosts h1 rfl rfl rfl) _

@[simp] theorem sound_takeBoundary (hs : Sound s0 s) : Sound s0 (takeBoundary s) := by
  unfold takeBoundary
  (repeat' split) <;> simp [Sound, hs]

@[simp] theorem sound_programStarts (hs : Sound s0 s) (rows : List (Sample × Sample)) :
    Sound s0 (programStarts rows s) := by
  simp [Sound, programStarts, hs]

@[simp] theorem sound_boundary (hs : Sound s0 s) (missing : Nat) (inp : BoundaryIn) : Sound s0 (boundary missing inp s) := by
  unfold boundary
  extract_lets old ran rs s1 s2 s3 s4 s5 s6 s7 s8 n s9 s10 s11
  have hold : Sound s0 old := by simp [Sound, old, hs]
  have h3 : Sound s0 s3 := sound_of_rest hold (by simp [s3, s2, s1])
  clear_value s3
  have h4 : Sound s0 s4 := by simp [Sound, s4, h3]
  clear_value s4
  have h5 : Sound s0 s5 := sound_programStarts (sound_programEnds h4) _
  clear_value s5
  have h6 : Sound s0 s6 := by simp [Sound, s6, h5]
  clear_value s6
  have h9 : Sound s0 s9 := sound_of_rest h6 (by simp [s9, s8, s7])
  clear_value s9
  have h11 : Sound s0 s11 := by simp [Sound, s11, s10, h9]
  clear_value s11
  have h12 : Sound s0 (watchBoundary (beginSave (deferBoundary ran s11))) :=
    sound_of_rest (sound_beginSave (sound_deferBoundary h11 ran)) (by simp)
  generalize watchBoundary (beginSave (deferBoundary ran s11)) = u at h12
  exact sound_takeBoundary (sound_coreSleeps (sound_of_rest h12 (by simp)))

@[simp] theorem sound_coreBoundary (hs : Sound s0 s) (inp : BoundaryIn) : Sound s0 (coreBoundary inp s) := by
  simp [Sound, coreBoundary, hs]

@[simp] theorem sound_missedBoundary (hs : Sound s0 s) : Sound s0 (missedBoundary s) := by
  simp only [missedBoundary]
  split
  · exact sound_coreCause (sound_boundary hs _ _) _
  · exact sound_boundary hs _ _

@[simp] theorem sound_idleBoundary (hs : Sound s0 s) : Sound s0 (idleBoundary s) := by
  simp only [idleBoundary]
  have h1 := sound_finishDawn (sound_beginSave (sound_deferBoundary (sound_lcBoundary (s := scanBoundary (modClk (ageOn
      (frameOn (outputsPass (flen s.core.fab.f) s))) fun c => { c with sadcCore := false })) (sound_of_rest hs (by simp))) false))
  generalize finishDawn _ = u at h1
  exact sound_of_rest h1 (by split <;> simp)

/-! Host commands. -/

@[simp] theorem sound_hostCommand (hs : Sound s0 s) (pv : PortView) (ws : List Word) (rc : Byte) (reply : Word) :
    Sound s0 (hostCommand pv ws rc reply s) := by
  simp only [hostCommand]
  split
  · exact sound_foldl (fun _ b h => sound_fifoPush h _ _ _ b) _ hs
  · split
    · exact sound_admitCmd hs _ _
    · exact sound_serveNew (sound_admitCmd hs _ _) _ _ _ _

end

end Sys2Proof.Machine

end

section
/-!
PROOFS. O5: every row keeps the invariant, the serial number, the variant and the queue that it finds.
-/

namespace Sys2Proof.Machine

open Sys2Proof.Safety

section
variable {s0 s t : State}

/-! The forms of the rows. -/

@[simp] theorem sound_pmWatch (hs : Sound s0 s) : Sound s0 (pmWatch s) := sound_of_rest hs (by simp)

theorem sound_act {f : State → State} (hs : Sound s0 s) (hf : Sound s0 (f s)) (ht : act s f = .next t) : Sound s0 t := by
  unfold act at ht
  split at ht
  · exact Host.Outcome.next.inj ht ▸ hs
  · exact Host.Outcome.next.inj ht ▸ sound_settle hf

theorem sound_actWake {f : State → State} (hs : Sound s0 s) (hf : Sound s0 (f s)) (ht : actWake s f = .next t) : Sound s0 t :=
  sound_act (f := fun s => pmWatch (f s)) hs (sound_pmWatch hf) ht

theorem sound_hostAct {pv : PortView} {f : State → State} (hs : Sound s0 s) (hf : Sound s0 (f s)) (ht : hostAct pv s f = .next t) :
    Sound s0 t := by
  refine sound_actWake hs ?_ ht
  split
  · exact hf
  · exact hs

theorem sound_cmdRow {op : Nat → Bool} {pv : PortView} {ws : List Word} {rc : Byte} {reply : Word} (hs : Sound s0 s)
    (ht : cmdRow op pv ws rc reply s = .next t) : Sound s0 t := by
  unfold cmdRow at ht
  split at ht
  · exact sound_hostAct hs (sound_hostCommand hs pv ws rc reply) ht
  · nomatch ht

theorem sound_fabRow {op : Nat} {w v : BitVec 24} (hs : Sound s0 s) (ht : fabRow op w v s = .next t) : Sound s0 t := by
  unfold fabRow at ht
  split at ht
  · refine sound_act hs (sound_of_rest hs ?_) ht
    split <;> simp
  · nomatch ht

theorem sound_supRow {op : Nat} {b : Fin 8} {w : BitVec 24} (hs : Sound s0 s) (ht : supRow op b w s = .next t) : Sound s0 t := by
  unfold supRow at ht
  split at ht
  · refine sound_act hs ?_ ht
    split
    · exact sound_takeSup hs b w
    · exact hs
  · nomatch ht

theorem sound_earthRow {op : Nat} {w : BitVec 24} (hs : Sound s0 s) (ht : earthRow op w s = .next t) : Sound s0 t := by
  unfold earthRow at ht
  split at ht
  · refine sound_act hs (sound_of_rest hs ?_) ht
    split <;> simp
  · nomatch ht

/-! The forms of the engine instructions. -/

theorem sound_drain (hs : Sound s0 s) (e : Eng) : Sound s0 (drain e s) := sound_of_rest hs (by simp)

theorem sound_halted (hs : Sound s0 s) (e : Eng) (cause : Nat) : Sound s0 (settle (engFault e cause s)) :=
  sound_settle (sound_of_rest hs (by simp))

theorem sound_engEnd {e : Eng} (hs : Sound s0 s) (ht : engEnd e s = .next t) : Sound s0 t := by
  unfold engEnd at ht
  split at ht
  · exact Host.Outcome.next.inj ht ▸ sound_halted hs e 10
  · exact Host.Outcome.next.inj ht ▸ hs

theorem sound_engRun {e : Eng} {f : Engine → Eff} (hs : Sound s0 s) (ht : engRun s e f = .next t) : Sound s0 t := by
  have hd := sound_drain hs e
  simp only [engRun] at ht
  split at ht
  · generalize drain e s = u at hd ht
    split at ht
    · exact Host.Outcome.next.inj ht ▸ sound_halted hd e _
    · exact sound_engEnd (sound_of_rest hd (by simp)) ht
  · exact Host.Outcome.next.inj ht ▸ hs

theorem sound_engFlow {e : Eng} {f : BitVec 16 → Engine → Eff} (hs : Sound s0 s) (ht : engFlow s e f = .next t) : Sound s0 t := by
  have hd := sound_drain hs e
  simp only [engFlow] at ht
  split at ht
  · generalize drain e s = u at hd ht
    split at ht
    · exact Host.Outcome.next.inj ht ▸ sound_halted hd e _
    · exact sound_engEnd (sound_of_rest hd (by simp)) ht
  · exact Host.Outcome.next.inj ht ▸ hs

theorem sound_engIssue {e : Eng} {f : Engine → Eff} (hs : Sound s0 s) (ht : engIssue s e f = .next t) : Sound s0 t := by
  simp only [engIssue] at ht
  split at ht
  · split at ht
    · exact Host.Outcome.next.inj ht ▸ sound_halted (sound_drain hs e) e _
    · exact sound_engEnd (sound_of_rest hs (by simp)) ht
  · exact Host.Outcome.next.inj ht ▸ hs

theorem sound_issued {failed : Option Nat} {e : Eng} {o : Out} (h : ∀ u, o = .next u → Sound s0 u) (ht : issued failed e o = .next t) :
    Sound s0 t := by
  unfold issued at ht
  split at ht
  · exact Host.Outcome.next.inj ht ▸ sound_settle (sound_of_rest (h _ rfl) (by simp [engEvent]))
  · exact h t ht

theorem sound_fabFailed {deg failed : Bool} {e : Eng} {o : Out} (h : ∀ u, o = .next u → Sound s0 u)
    (ht : fabFailed deg failed e o = .next t) : Sound s0 t := by
  unfold fabFailed at ht
  split at ht
  next u =>
    have hu := h u rfl
    split at ht
    · exact Host.Outcome.next.inj ht ▸ sound_settle (sound_of_rest hu (by simp))
    · split at ht
      · exact Host.Outcome.next.inj ht ▸ sound_settle (sound_of_rest hu (by simp [engEvent]))
      · exact Host.Outcome.next.inj ht ▸ hu
  · exact h t ht

theorem sound_waits {e : Eng} {n : BitVec 5} (hs : Sound s0 s) (ht : execWaits e n s = .next t) : Sound s0 t := by
  have hd := sound_drain hs e
  simp only [execWaits] at ht
  split at ht
  · generalize drain e s = u at hd ht
    split at ht
    · exact Host.Outcome.next.inj ht ▸ sound_halted hd e 4
    · split at ht
      · exact Host.Outcome.next.inj ht ▸ sound_halted hd e 5
      · split at ht
        · exact Host.Outcome.next.inj ht ▸ sound_of_rest hd (by simp)
        · exact Host.Outcome.next.inj ht ▸ sound_of_rest hd (by simp)
  · exact Host.Outcome.next.inj ht ▸ hs

theorem sound_dlr {e : Eng} {loc : BitVec 3} {pq k dm : BitVec 2} {ofs : BitVec 16} (hs : Sound s0 s)
    (ht : execDlr e loc pq k dm ofs s = .next t) : Sound s0 t := by
  simp only [execDlr] at ht
  split at ht
  · exact sound_issued (fun u hu => sound_engIssue (sound_of_rest hs (by simp)) hu) ht
  · exact Host.Outcome.next.inj ht ▸ hs

theorem sound_dlw {e : Eng} {loc : BitVec 3} {pq k dm : BitVec 2} {ofs : BitVec 16} (hs : Sound s0 s)
    (ht : execDlw e loc pq k dm ofs s = .next t) : Sound s0 t := by
  simp only [execDlw] at ht
  split at ht
  · exact sound_issued (fun u hu => sound_engIssue (sound_of_rest hs (by simp)) hu) ht
  · exact Host.Outcome.next.inj ht ▸ hs

theorem sound_frd {e : Eng} {loc : BitVec 3} {pq : BitVec 2} {ixa : Bool} {slot : BitVec 10} {idx : BitVec 8} (hs : Sound s0 s)
    (ht : execFrd e loc pq ixa slot idx s = .next t) : Sound s0 t := by
  simp only [execFrd] at ht
  split at ht
  · exact sound_fabFailed (fun u hu => sound_engIssue (sound_of_rest hs (by simp)) hu) ht
  · exact Host.Outcome.next.inj ht ▸ hs

theorem sound_fwr {e : Eng} {loc : BitVec 3} {pq : BitVec 2} {ixa : Bool} {slot : BitVec 10} {idx : BitVec 8} (hs : Sound s0 s)
    (ht : execFwr e loc pq ixa slot idx s = .next t) : Sound s0 t := by
  simp only [execFwr] at ht
  split at ht
  · exact sound_fabFailed (fun u hu => sound_engIssue (sound_of_rest hs (by simp)) hu) ht
  · exact Host.Outcome.next.inj ht ▸ hs

theorem sound_sysRun {fn : Nat} {localFn : Bool} {e : Eng} {ra : BitVec 3} {imm : BitVec 16} {f : Engine → State → SysAns}
    (hs : Sound s0 s) (hf : ∀ x u v w, Sound s0 u → f x u = .ok v w → Sound s0 w) (ht : sysRun fn localFn e ra imm s f = .next t) :
    Sound s0 t := by
  have hd := sound_drain hs e
  simp only [sysRun] at ht
  split at ht
  · generalize drain e s = u at hd ht
    split at ht
    · exact Host.Outcome.next.inj ht ▸ sound_halted hd e _
    · split at ht
      next v w hv => exact Host.Outcome.next.inj ht ▸ sound_settle (sound_of_rest (hf _ _ _ _ hd hv) (by simp))
      · exact Host.Outcome.next.inj ht ▸ sound_settle (sound_of_rest hd (by simp))
  · exact Host.Outcome.next.inj ht ▸ hs

theorem sound_loadAns {r : Nat} {o : Option State} {w : State} {v : Option Sys2Proof.Acc} (hs : Sound s0 s)
    (ho : rest outer (o.getD s) = rest outer s) (h : loadAns r o = .ok v w) : Sound s0 w := sound_of_rest hs (loadAns_rest ho h)

/-- Every instruction of an engine keeps the invariant. -/
theorem instr_sound {c : Instr} {e : Eng} (he : c.engine? = some e) (hs : Sound s0 s) (hx : exec c s = .next t) : Sound s0 t := by
  cases c with
  | nop | pmov | mpy | mpyn | mac | macn | macr | macnr | add | sub | mova | neg | abs | cmp | clr | rnd | lim | and | or
  | xor | not | asl | asr | lsr | max | min | maxi | mini | maxai | mov | ldx | lda | ldi | mvx | mvy | ash | lsh | cls
  | addi =>
    simp only [exec, execNop, execPmov, execMpy, execMpyn, execMac, execMacn, execMacr, execMacnr, execAdd, execSub, execMova,
      execNeg, execAbs, execCmp, execClr, execRnd, execLim, execAnd, execOr, execXor, execNot, execAsl, execAsr, execLsr,
      execMax, execMin, execMaxi, execMini, execMaxai, execMov, execLdx, execLda, execLdi, execMvx, execMvy, execAsh,
      execLsh, execCls, execAddi] at hx
    exact sound_engRun hs hx
  | illegalInstruction e' w =>
    simp only [exec, execIllegalInstruction] at hx
    split at hx
    · exact sound_engRun hs hx
    · exact Host.Outcome.next.inj hx ▸ hs
  | bra | call | ret | loop | loopr | exit | brx | waitf =>
    simp only [exec, execBra, execCall, execRet, execLoop, execLoopr, execExit, execBrx, execWaitf] at hx
    exact sound_engFlow hs hx
  | sig =>
    simp only [exec, execSig] at hx
    exact sound_engIssue hs hx
  | dlr => exact sound_dlr hs hx
  | dlw => exact sound_dlw hs hx
  | frd => exact sound_frd hs hx
  | fwr => exact sound_fwr hs hx
  | waits => exact sound_waits hs hx
  | sigApply =>
    simp only [exec, execSigApply] at hx
    exact sound_act hs (sound_of_rest hs (by split <;> simp)) hx
  | frdResult =>
    simp only [exec, execFrdResult] at hx
    exact sound_act hs (sound_of_rest hs (by split <;> simp)) hx
  | dlrResult => exact sound_act hs (sound_of_rest hs (by simp)) hx
  | wdog | rdframe | rdtime | resopen | respub | rsaddr | pmstat | stgstat | pdmrate | wakeclr | pexit | plstat =>
    simp only [exec, execWdog, execRdframe, execRdtime, execResopen, execRespub, execRsaddr, execPmstat, execStgstat, execPdmrate,
      execWakeclr, execPexit, execPlstat] at hx
    refine sound_sysRun hs (fun x u v w hu h => ?_) hx
    obtain ⟨-, rfl⟩ := SysAns.ok.inj h
    simp [Sound, hu]
  | cmdhead =>
    simp only [exec, execCmdhead] at hx
    refine sound_sysRun hs (fun x u v w hu h => ?_) hx
    split at h
    · obtain ⟨-, rfl⟩ := SysAns.ok.inj h
      exact sound_modHosts (sound_of_rest hu (by simp)) rfl rfl rfl
    · nomatch h
  | cmddone | evraise | reswr | rsrd | rswr | cfgsave =>
    simp only [exec, execCmddone, execEvraise, execReswr, execRsrd, execRswr, execCfgsave] at hx
    refine sound_sysRun hs (fun x u v w hu h => ?_) hx
    split at h
    · obtain ⟨-, rfl⟩ := SysAns.ok.inj h
      simp [Sound, hu]
    · nomatch h
  | cmdword =>
    simp only [exec, execCmdword] at hx
    refine sound_sysRun hs (fun x u v w hu h => ?_) hx
    split at h
    · split at h
      · obtain ⟨-, rfl⟩ := SysAns.ok.inj h
        exact hu
      · nomatch h
    · nomatch h
  | pwrreq =>
    simp only [exec, execPwrreq] at hx
    refine sound_sysRun hs (fun x u v w hu h => ?_) hx
    split at h
    · nomatch h
    · split at h
      · nomatch h
      · obtain ⟨-, rfl⟩ := SysAns.ok.inj h
        exact sound_of_rest hu (by simp)
  | stage =>
    simp only [exec, execStage] at hx
    refine sound_sysRun hs (fun x u v w hu h => ?_) hx
    split at h
    next y hy =>
      obtain ⟨-, rfl⟩ := SysAns.ok.inj h
      exact sound_of_rest hu (rest_of_stageAccept (by simp) _ _ _ hy)
    · nomatch h
  | plbegin | pload | plend | pstart | pstop =>
    simp only [exec, execPlbegin, execPload, execPlend, execPstart, execPstop] at hx
    refine sound_sysRun hs (fun x u v w hu h => ?_) hx
    exact sound_loadAns hu (by simp) h
  | _ => nomatch he

/-- Every other row keeps the invariant. -/
theorem row_sound {c : Instr} (he : c.engine? = none) (hs : Sound s0 s) (hx : exec c s = .next t) : Sound s0 t := by
  cases c with
  | loadset | startset | ldstat | claim | release | wakeack | seenclr | programCommand => exact sound_cmdRow hs hx
  | bussrc | sink | ramp | busclr | indom | tdmcfg | direct | d16sem => exact sound_fabRow hs hx
  | supervisionStop | pilotContinuous | pilotCounted | sweep | fingerprintCapture | filterCalibration => exact sound_supRow hs hx
  | earthStop | earthContinuous | earthCounted => exact sound_earthRow hs hx
  | takeCommand | sideDawnRequest | utimeLoad | capture | detAck | periodWrite | permitWrite | rbSelWrite | recSelWrite
  | lcTransition | keyWrite | writeSet | writeMessage | deleteMessage | exportPkg | importPkg | save | abort | pcTransfer
  | pcBusClear => exact sound_hostAct hs (sound_commitReg hs _ _ _ _) hx
  | commandFifoPush | imageFifoPush | portpTxPush => exact sound_hostAct hs (sound_fifoPush hs _ _ _ _) hx
  | eventFifoPop | recordFifoPop | capturePortRead | imageFifoPop | portpRxPop => exact sound_hostAct hs (sound_popRow hs _ _ _) hx
  | registerWrite pv bs => exact sound_hostAct hs (sound_writeBytes hs pv bs) hx
  | pageWrite pv b =>
    simp only [exec, execPageWrite] at hx
    have h1 := sound_endTransfer hs pv.port
    refine sound_hostAct hs ?_ hx
    generalize endTransfer pv.port s = u at h1
    exact sound_writeByteAt (sound_modPv h1 pv _) pv b
  | powerOnReset | resetN =>
    simp only [exec, execPowerOnReset, execResetN] at hx
    obtain rfl := Host.Outcome.next.inj hx
    exact sound_resetState hs
  | resetRelease fbSel haddr =>
    simp only [exec, execResetRelease] at hx
    split at hx
    · exact Host.Outcome.next.inj hx ▸ sound_settle (sound_leaveReset (sound_modPorts hs rfl))
    · exact Host.Outcome.next.inj hx ▸ hs
  | mirrorLinkFault | fillComplete | takeLapse | sideDawnRetry | feedLow | feedLowClear | ck32Failure | ck32Return
  | ck32StartTimeout | kfLockLoss | crystalPllFailure | engineClockLoss | sadcLockLoss | converterLinkLoss | clockErrorMute
  | clockValid | permitMinute | sysResult | sweepStart | earthTestEnd | supervisionGap | gainCommand | gainApply
  | railNeedBlock | softstartDone | stopComplete | overcurrentTrip | tripBlankingEnd | cooldownEnd | probeToneEnd
  | thermalThreshold | thermalStepFall | thermalShutdownClear | boostFault | boostRestart | railGuardEnd | message0End
  | inputOverload | jackInsertion | jackRemoval | jackClassified | pdmClockRestart | micpwrOvercurrent | micpwrRetry
  | quietChargeDone | candidateTimeout | handshakeDelayEnd | handshakeNoReply | dawnStart | dawnStepReady | dawnStepTimeout
  | dawnRetryOffEnd | dawnRepeat | unitReady | limiterExpiry | bootLoad | tdmClockMissing | tdmWrongRate | tdmSlotSyncError
  | tdmReturn | extest | samplePreload | bypass | kfLock | sadcLock | twarnClear | delaySramWipeDone | pdmRateChangeEnd =>
    simp only [exec, execMirrorLinkFault, execFillComplete, execTakeLapse, execSideDawnRetry, execFeedLow, execFeedLowClear,
      execCk32Failure, execCk32Return, execCk32StartTimeout, execKfLockLoss, execCrystalPllFailure, execEngineClockLoss,
      execSadcLockLoss, execConverterLinkLoss, execClockErrorMute, execClockValid, execPermitMinute, execSysResult,
      execSweepStart, execEarthTestEnd, execSupervisionGap, execGainCommand, execGainApply, execRailNeedBlock,
      execSoftstartDone, execStopComplete, execOvercurrentTrip, execTripBlankingEnd, execCooldownEnd, execProbeToneEnd,
      execThermalThreshold, execThermalStepFall, execThermalShutdownClear, execBoostFault, execBoostRestart,
      execRailGuardEnd, execMessage0End, execInputOverload, execJackInsertion, execJackRemoval, execJackClassified,
      execPdmClockRestart, execMicpwrOvercurrent, execMicpwrRetry, execQuietChargeDone, execCandidateTimeout,
      execHandshakeDelayEnd, execHandshakeNoReply, execDawnStart, execDawnStepReady, execDawnStepTimeout,
      execDawnRetryOffEnd, execDawnRepeat, execUnitReady, execLimiterExpiry, execBootLoad, execTdmClockMissing,
      execTdmWrongRate, execTdmSlotSyncError, execTdmReturn, execExtest, execSamplePreload, execBypass, execKfLock,
      execSadcLock, execTwarnClear, execDelaySramWipeDone, execPdmRateChangeEnd] at hx
    exact sound_act hs (sound_of_rest hs (by (repeat' split) <;> simp)) hx
  | feedPresent | feedOvClear | alarmFire | periodicTimerFire | trimIntervalEnd | scanPublish | nightScan | sentinelTrip
  | privacyAssert | privacyRelease | wakeBlockStrobe | sentinelReturn =>
    simp only [exec, execFeedPresent, execFeedOvClear, execAlarmFire, execPeriodicTimerFire, execTrimIntervalEnd,
      execScanPublish, execNightScan, execSentinelTrip, execPrivacyAssert, execPrivacyRelease, execWakeBlockStrobe,
      execSentinelReturn] at hx
    exact sound_actWake hs (sound_of_rest hs (by (repeat' split) <;> simp)) hx
  | copyAck | watchdogExpiry | messageRecheck | headerCheckDone | engineLoadDone | pilotWindowEnd | sweepIntegrationEnd
  | captureDone | handshakeReply | tagCheckDone | assemblyTimeout | wipeDone | imageWriteCheckDone | saveDone
  | inbandRequest | inbandRequestEnd | rdsr | fastBadOpcode | pcTransferEnd | arbitrationLost | arbitrationRetry
  | inbandRequestRedue | messageCheckDone =>
    simp only [exec, execCopyAck, execWatchdogExpiry, execMessageRecheck, execHeaderCheckDone, execEngineLoadDone,
      execPilotWindowEnd, execSweepIntegrationEnd, execCaptureDone, execHandshakeReply, execTagCheckDone,
      execAssemblyTimeout, execWipeDone, execImageWriteCheckDone, execSaveDone, execInbandRequest, execInbandRequestEnd,
      execRdsr, execFastBadOpcode, execPcTransferEnd, execArbitrationLost, execArbitrationRetry, execInbandRequestRedue,
      execMessageCheckDone] at hx
    exact sound_act hs (by simp [Sound, hs]) hx
  | frameBoundary | keeperBoundary | twStart | twStop | twAddressByte | twPointerByte | twAckSlotAbort | stretchTimeout
  | nightAddressMatch | portLogicReady | wrq | rdq | fastCsRise =>
    simp only [exec, execFrameBoundary, execKeeperBoundary, execTwStart, execTwStop, execTwAddressByte, execTwPointerByte,
      execTwAckSlotAbort, execStretchTimeout, execNightAddressMatch, execPortLogicReady, execWrq, execRdq, execFastCsRise] at hx
    exact sound_actWake hs (by simp [Sound, hs]) hx
  | fabEnd | looka =>
    simp only [exec, execFabEnd, execLooka] at hx
    split at hx
    · exact sound_act hs (sound_of_rest hs (by split <;> simp)) hx
    · nomatch hx
  | faultMinPulseEnd =>
    simp only [exec, execFaultMinPulseEnd] at hx
    exact sound_act hs (sound_set_flt hs id) hx
  | feedLoss x =>
    simp only [exec, execFeedLoss] at hx
    refine sound_actWake hs ?_ hx
    have h1 : Sound s0 (raiseEv 0 (sideIx x).val (modFeed x (fun f => { f with ok := false, lost := true }) s)) :=
      sound_of_rest hs (by simp)
    split
    · exact sound_feedGone h1 x
    · exact h1
  | feedOvervoltage x =>
    simp only [exec, execFeedOvervoltage] at hx
    refine sound_actWake hs ?_ hx
    have h1 : Sound s0 (raiseEv 2 (sideIx x).val (modFeed x (fun f => { f with ok := false, ov := true }) s)) :=
      sound_of_rest hs (by simp)
    split
    · exact hs
    · split
      · exact sound_feedGone h1 x
      · exact h1
  | entryWindowEnd =>
    simp only [exec, execEntryWindowEnd] at hx
    refine sound_act hs ?_ hx
    split
    · exact sound_of_rest (sound_windowEnds hs) (by simp)
    · exact sound_windowEnds hs
  | _ => nomatch he

theorem exec_sound {c : Instr} (hs : Sound s0 s) (hx : exec c s = .next t) : Sound s0 t := by
  cases he : c.engine? with
  | some e => exact instr_sound he hs hx
  | none => exact row_sound he hs hx

/-- On an empty queue a CK32 cycle passes. -/
theorem ck32Tick_sound (hs : Sound s0 s) (ht : ck32Tick s = .next t) : Sound s0 t := by
  unfold ck32Tick at ht
  split at ht
  · exact sound_actWake hs (sound_of_rest hs (by simp)) ht
  · exact Host.Outcome.next.inj ht ▸ hs

end

/-- Settles O5: a step runs its command, or a cycle of CK32, on the state without the front of the queue. -/
theorem stepKeepsTheInvariant : Obligations.StepKeepsTheInvariant := by
  intro s t ht hi
  have hs : ∀ q, Sound { s with pending := q } { s with pending := q } := fun _ => sound_iff.mpr ⟨⟨rfl, rfl, rfl⟩, hi⟩
  cases hq : s.pending with
  | nil =>
    rw [step_nil hq] at ht
    obtain ⟨⟨h1, h2, h3⟩, h4⟩ := sound_iff.mp (ck32Tick_sound (hs s.pending) ht)
    exact ⟨h4, h1, h2, h3.trans hq⟩
  | cons c cs =>
    simp only [step, hq] at ht
    obtain ⟨⟨h1, h2, h3⟩, h4⟩ := sound_iff.mp (exec_sound (hs cs) ht)
    exact ⟨h4, h1, h2, h3⟩

end Sys2Proof.Machine

end

section
/-!
PROOFS. O4: the fields of a 32-bit instruction word (R87), and the words that are put together from fields.
-/

namespace Sys2Proof.Machine

/-! A word from its fields. -/

/-- The field of a word from bit `lo` on is `x`. -/
def IsField {n : Nat} (w : Word) (lo : Nat) (x : BitVec n) : Prop := x = w.extractLsb' lo n

section
variable {w : Word}

/-- Two fields that stand side by side are one field. -/
theorem IsField.append {m n hi lo : Nat} {x : BitVec m} {y : BitVec n} (hx : IsField w hi x) (hy : IsField w lo y)
    (h : hi = lo + n := by rfl) : IsField w lo (x ++ y) := by
  unfold IsField at *
  rw [hx, hy, BitVec.extractLsb'_append_extractLsb'_eq_extractLsb' h]

/-- The field of all 32 bits is the word. -/
theorem IsField.whole {x : Word} (h : IsField w 0 x) : x = w := h.trans BitVec.extractLsb'_eq_self

theorem isField_own {lo n : Nat} : IsField w lo (w.extractLsb' lo n) := rfl

theorem isField_fld {lo len k : Nat} (h : fld w lo len = k) : IsField w lo (BitVec.ofNat len k) := by
  rw [IsField, ← h, fld_extract, BitVec.ofNat_toNat, BitVec.setWidth_eq]

theorem isField_bit (w : Word) (k : Nat) : IsField w k (b1 (bit w k)) := by
  apply BitVec.eq_of_getLsbD_eq
  intro i hi
  obtain rfl : i = 0 := by omega
  cases h : w.getLsbD k <;> simp [b1, bit, h]

theorem isField_false {k : Nat} (h : bit w k = false) : IsField w k 0#1 := by
  have hb := isField_bit w k
  rwa [h] at hb

theorem isField_true {k : Nat} (h : bit w k = true) : IsField w k 1#1 := by
  have hb := isField_bit w k
  rwa [h] at hb

/-- R87: the four bits at the head of a word that is no parallel instruction: bit 31 and the group. -/
theorem isField_group {k : Nat} (h31 : bit w 31 = false) (h : fld w 28 3 = k) : IsField w 28 (BitVec.ofNat 4 k) := by
  have hk : k < 8 := h ▸ Nat.mod_lt _ (by decide)
  have hc : (0#1 ++ BitVec.ofNat 3 k : BitVec 4) = w.extractLsb' 28 4 := (isField_false h31).append (isField_fld h)
  rw [IsField, ← hc]
  interval_cases k <;> rfl

end

/-! The fields of a word put together. -/

theorem bit_field (w : Word) (k : Nat) : bit w k = (w.extractLsb' k 1 == 1#1) := by
  rw [← isField_bit w k]
  cases bit w k <;> rfl

@[simp] theorem b1_eq_one (b : Bool) : (b1 b == 1#1) = b := by
  cases b <;> rfl

theorem wordInstr_paWord (e : Eng) (op : BitVec 6) (d : BitVec 2) (sel : BitVec 4) (mv : Moves) :
    wordInstr e (paWord op d sel mv) = paInstr op.toNat e d sel mv := by
  simp only [wordInstr, movesOf, paWord, fld_extract, bit_field, BitVec.extractLsb'_append_eq_of_le,
    BitVec.extractLsb'_append_eq_of_add_le, Nat.le_refl, Nat.reduceLeDiff, Nat.reduceSub, BitVec.extractLsb'_eq_self,
    BEq.rfl, if_true]

theorem wordInstr_sysWord (e : Eng) (fn : BitVec 6) (ra : BitVec 3) (imm : BitVec 16) :
    wordInstr e (sysWord fn ra imm) = sysInstr fn.toNat e ra imm := by
  simp only [wordInstr, sysWord, fld_extract, bit_field, BitVec.extractLsb'_append_eq_of_le,
    BitVec.extractLsb'_append_eq_of_add_le, Nat.le_refl, Nat.reduceLeDiff, Nat.reduceSub, BitVec.extractLsb'_eq_self,
    BitVec.reduceExtractLsb', BitVec.reduceToNat, BitVec.reduceBEq, Bool.false_eq_true, if_false]

/-- R87: the word of an instruction is decoded to it. -/
theorem wordInstr_encode {i : Instr} {e : Eng} {w : Word} (he : i.engine? = some e) (hw : encodeEnlia i = some w) :
    wordInstr e w = some i := by
  cases i with
  | pmov | mpy | mpyn | mac | macn | macr | macnr | add | sub | mova | neg | abs | cmp | clr | rnd | lim | and | or | xor | not
  | asl | asr | lsr | max | min | maxi | mini | maxai =>
    obtain rfl := Option.some.inj he
    obtain rfl := Option.some.inj hw
    exact wordInstr_paWord _ _ _ _ _
  | wdog | rdframe | rdtime | cmdhead | cmdword | cmddone | evraise | resopen | reswr | respub | rsaddr | rsrd | rswr | cfgsave
  | pwrreq | pmstat | stage | stgstat | pdmrate | wakeclr | plbegin | pload | plend | pstart | pstop | pexit | plstat =>
    obtain rfl := Option.some.inj he
    obtain rfl := Option.some.inj hw
    exact wordInstr_sysWord _ _ _ _
  | nop | sig | waits | waitf | mov | ldx | lda | ldi | mvx | mvy | ash | lsh | cls | addi | bra | call | ret | loop | loopr
  | exit | brx | frd | fwr | dlr | dlw =>
    obtain rfl := Option.some.inj he
    obtain rfl := Option.some.inj hw
    simp only [wordInstr, flowWord, shiftInstr, fld_extract, bit_field, BitVec.extractLsb'_append_eq_of_le,
      BitVec.extractLsb'_append_eq_of_add_le, Nat.le_refl, Nat.reduceLeDiff, Nat.reduceSub, BitVec.extractLsb'_eq_self,
      BitVec.reduceExtractLsb', BitVec.reduceToNat, BitVec.reduceBEq, b1_eq_one, BEq.rfl, Bool.false_eq_true, if_false, if_true]
  | _ => nomatch hw

end Sys2Proof.Machine

end

section
/-!
PROOFS. O4: every legal word is the word of the instruction that it decodes to (R87, R128).
-/

namespace Sys2Proof.Machine

/-! The causes of an illegal word. -/

theorem lowest_none {a b c d : Bool} : lowest a b c d = none ↔ a = false ∧ b = false ∧ c = false ∧ d = false := by
  cases a <;> cases b <;> cases c <;> cases d <;> simp [lowest]

/-- A cause, where there is one, is from 1 to 4. -/
def CauseOk (c : Option Nat) : Prop := ∀ n, c = some n → 1 ≤ n ∧ n ≤ 4

@[simp] theorem causeOk_none : CauseOk none := fun _ h => nomatch h

@[simp] theorem causeOk_two : CauseOk (some 2) := fun _ h => Option.some.inj h ▸ by decide

@[simp] theorem causeOk_lowest (a b c d : Bool) : CauseOk (lowest a b c d) := by
  intro n h
  cases a <;> cases b <;> cases c <;> cases d <;> simp [lowest] at h <;> omega

/-- R128: an illegal word has a cause from 1 to 4. -/
theorem illegalCause_causeOk (e : Eng) (w : Word) : CauseOk (illegalCause e w) := by
  unfold illegalCause
  (repeat' split) <;> simp

/-- The word is the word of an instruction of engine `e`. -/
def HasInstr (e : Eng) (w : Word) : Prop := ∃ i, encodeEnlia i = some w ∧ i.engine? = some e

section
variable {e : Eng} {w : Word}

/-! The parallel instructions. -/

theorem paInstr_encode (e : Eng) {op : BitVec 6} (d : BitVec 2) (sel : BitVec 4) (mv : Moves) (h : paOpOk op.toNat = true) :
    ∃ i, paInstr op.toNat e d sel mv = some i ∧ encodeEnlia i = some (paWord op d sel mv) ∧ i.engine? = some e := by
  unfold paInstr
  split
  case h_29 =>
    have hlt := op.isLt
    simp only [paOpOk, Bool.or_eq_true, Bool.and_eq_true, decide_eq_true_eq, imp_false] at *
    omega
  all_goals
    next hop => exact ⟨_, rfl, congrArg (fun o => some (paWord o d sel mv)) (BitVec.eq_of_toNat_eq hop.symm), rfl⟩

theorem paWord_fields (h31 : bit w 31 = true) (h0 : bit w 0 = false) :
    paWord (w.extractLsb' 25 6) (w.extractLsb' 23 2) (w.extractLsb' 19 4) (movesOf w) = w :=
  (isField_true h31 |>.append isField_own |>.append isField_own |>.append isField_own |>.append isField_own
    |>.append isField_own |>.append isField_own |>.append isField_own |>.append isField_own |>.append isField_own
    |>.append isField_own |>.append isField_own |>.append (isField_false h0)).whole

theorem hasInstr_parallel (h31 : bit w 31 = true) (h : illegalCause e w = none) : HasInstr e w := by
  rw [illegalCause, if_pos h31] at h
  obtain ⟨h0, hop, -⟩ := lowest_none.mp h
  rw [fld_extract] at hop
  obtain ⟨i, -, hw, he⟩ := paInstr_encode e (w.extractLsb' 23 2) (w.extractLsb' 19 4) (movesOf w)
    (by rwa [Bool.not_eq_false'] at hop)
  rw [paWord_fields h31 h0] at hw
  exact ⟨i, hw, he⟩

/-! The SYS instructions. -/

theorem sysInstr_encode (e : Eng) {fn : BitVec 6} (ra : BitVec 3) (imm : BitVec 16) (h : sysInfo fn.toNat ≠ none) :
    ∃ i, sysInstr fn.toNat e ra imm = some i ∧ encodeEnlia i = some (sysWord fn ra imm) ∧ i.engine? = some e := by
  unfold sysInfo at h
  split at h
  case h_28 => exact absurd rfl h
  all_goals
    next hfn =>
      rw [hfn]
      exact ⟨_, rfl, congrArg (fun o => some (sysWord o ra imm)) (BitVec.eq_of_toNat_eq hfn.symm), rfl⟩

/-! The shifts. -/

theorem shiftInstr_encode (e : Eng) {sop : BitVec 2} (r : Bool) (d src : BitVec 2) (k : BitVec 6) (h : sop.toNat ≠ 3) :
    ∃ i, shiftInstr sop.toNat e r d src k = some i ∧
      encodeEnlia i = some (5#4 ++ 0#1 ++ sop ++ b1 r ++ d ++ src ++ 0#14 ++ k) ∧ i.engine? = some e := by
  unfold shiftInstr
  split
  case h_4 =>
    have hlt := sop.isLt
    simp only [imp_false] at *
    omega
  all_goals
    next hs =>
      exact ⟨_, rfl, congrArg (fun o : BitVec 2 => some (5#4 ++ 0#1 ++ o ++ b1 r ++ d ++ src ++ 0#14 ++ k))
        (BitVec.eq_of_toNat_eq hs.symm), rfl⟩

/-! The other groups: bit 31 is 0, and bits 30 to 28 name the group. -/

theorem isField_zero {lo len : Nat} (h : decide (fld w lo len ≠ 0) = false) : IsField w lo 0#len :=
  isField_fld (not_not.mp (of_decide_eq_false h))

theorem isField_zero_zero (h : decide (fld w 0 20 ≠ 0) = false) : IsField w 13 0#7 ∧ IsField w 0 0#13 := by
  have h0 := not_not.mp (of_decide_eq_false h)
  simp only [fld, Nat.shiftRight_eq_div_pow] at h0
  constructor <;> refine isField_fld ?_ <;> simp only [fld, Nat.shiftRight_eq_div_pow] <;> omega

section
variable (h31 : bit w 31 = false)
include h31

theorem hasInstr_group0 (hg : fld w 28 3 = 0) (h : illegalCause e w = none) : HasInstr e w := by
  simp only [illegalCause, h31, hg, Bool.false_eq_true, if_false] at h
  split at h
  next hop =>
    obtain ⟨h0, -⟩ := lowest_none.mp h
    have hw : (0#4 ++ 0#4 ++ 0#24 : Word) = w :=
      (isField_group h31 hg |>.append (isField_fld hop) |>.append (isField_zero h0)).whole
    exact ⟨.nop e, congrArg some hw, rfl⟩
  next hop =>
    obtain ⟨h0, -⟩ := lowest_none.mp h
    have hw : (0#4 ++ 1#4 ++ 0#19 ++ w.extractLsb' 0 5 : Word) = w :=
      (isField_group h31 hg |>.append (isField_fld hop) |>.append (isField_zero h0) |>.append isField_own).whole
    exact ⟨.sig e _, congrArg some hw, rfl⟩
  next hop =>
    obtain ⟨h0, -⟩ := lowest_none.mp h
    have hw : (0#4 ++ 2#4 ++ 0#19 ++ w.extractLsb' 0 5 : Word) = w :=
      (isField_group h31 hg |>.append (isField_fld hop) |>.append (isField_zero h0) |>.append isField_own).whole
    exact ⟨.waits e _, congrArg some hw, rfl⟩
  next hop =>
    obtain ⟨h0, -⟩ := lowest_none.mp h
    have hw : (0#4 ++ 3#4 ++ 0#24 : Word) = w :=
      (isField_group h31 hg |>.append (isField_fld hop) |>.append (isField_zero h0)).whole
    exact ⟨.waitf e, congrArg some hw, rfl⟩
  · nomatch h

theorem hasInstr_group1 (hg : fld w 28 3 = 1) (h : illegalCause e w = none) : HasInstr e w := by
  simp only [illegalCause, h31, hg, Bool.false_eq_true, if_false] at h
  obtain ⟨h0, -⟩ := lowest_none.mp h
  have hw : (1#4 ++ w.extractLsb' 22 6 ++ w.extractLsb' 16 6 ++ 0#16 : Word) = w :=
    (isField_group h31 hg |>.append isField_own |>.append isField_own |>.append (isField_zero h0)).whole
  exact ⟨.mov e _ _, congrArg some hw, rfl⟩

theorem hasInstr_group2 (hg : fld w 28 3 = 2) (h : illegalCause e w = none) : HasInstr e w := by
  simp only [illegalCause, h31, hg, Bool.false_eq_true, if_false] at h
  obtain ⟨h0, -⟩ := lowest_none.mp h
  cases h27 : bit w 27
  · have hw : (2#4 ++ 0#1 ++ w.extractLsb' 25 2 ++ 0#1 ++ w.extractLsb' 0 24 : Word) = w :=
      (isField_group h31 hg |>.append (isField_false h27) |>.append isField_own |>.append (isField_false h0)
        |>.append isField_own).whole
    exact ⟨.ldx e _ _, congrArg some hw, rfl⟩
  · have hw : (2#4 ++ 1#1 ++ w.extractLsb' 25 2 ++ 0#1 ++ w.extractLsb' 0 24 : Word) = w :=
      (isField_group h31 hg |>.append (isField_true h27) |>.append isField_own |>.append (isField_false h0)
        |>.append isField_own).whole
    exact ⟨.lda e _ _, congrArg some hw, rfl⟩

theorem hasInstr_group3 (hg : fld w 28 3 = 3) : HasInstr e w := by
  have hw : (3#4 ++ w.extractLsb' 22 6 ++ w.extractLsb' 0 22 : Word) = w :=
    (isField_group h31 hg |>.append isField_own |>.append isField_own).whole
  exact ⟨.ldi e _ _, congrArg some hw, rfl⟩

theorem hasInstr_group4 (hg : fld w 28 3 = 4) (h : illegalCause e w = none) : HasInstr e w := by
  simp only [illegalCause, h31, hg, Bool.false_eq_true, if_false] at h
  obtain ⟨h0, -⟩ := lowest_none.mp h
  cases h27 : bit w 27
  · have hw : (4#4 ++ 0#1 ++ b1 (bit w 26) ++ w.extractLsb' 23 3 ++ 0#11 ++ w.extractLsb' 0 12 : Word) = w :=
      (isField_group h31 hg |>.append (isField_false h27) |>.append (isField_bit w 26) |>.append isField_own
        |>.append (isField_zero h0) |>.append isField_own).whole
    exact ⟨.mvx e _ _ _, congrArg some hw, rfl⟩
  · have hw : (4#4 ++ 1#1 ++ b1 (bit w 26) ++ w.extractLsb' 23 3 ++ 0#11 ++ w.extractLsb' 0 12 : Word) = w :=
      (isField_group h31 hg |>.append (isField_true h27) |>.append (isField_bit w 26) |>.append isField_own
        |>.append (isField_zero h0) |>.append isField_own).whole
    exact ⟨.mvy e _ _ _, congrArg some hw, rfl⟩

theorem hasInstr_group5 (hg : fld w 28 3 = 5) (h : illegalCause e w = none) : HasInstr e w := by
  simp only [illegalCause, h31, hg, Bool.false_eq_true, if_false] at h
  cases h27 : bit w 27 <;> rw [h27] at h
  · obtain ⟨h0, -, hsop, -⟩ := lowest_none.mp h
    simp only [Bool.or_eq_false_iff, decide_eq_false_iff_not, fld_extract (lo := 25)] at hsop
    obtain ⟨i, -, hw, he⟩ := shiftInstr_encode e (bit w 24) (w.extractLsb' 22 2) (w.extractLsb' 20 2) (w.extractLsb' 0 6)
      hsop.1.1
    have hf : (5#4 ++ 0#1 ++ w.extractLsb' 25 2 ++ b1 (bit w 24) ++ w.extractLsb' 22 2 ++ w.extractLsb' 20 2 ++ 0#14 ++
        w.extractLsb' 0 6 : Word) = w :=
      (isField_group h31 hg |>.append (isField_false h27) |>.append isField_own |>.append (isField_bit w 24)
        |>.append isField_own |>.append isField_own |>.append (isField_zero h0) |>.append isField_own).whole
    exact ⟨i, hw.trans (congrArg some hf), he⟩
  · have hw : (5#4 ++ 1#1 ++ w.extractLsb' 21 6 ++ w.extractLsb' 0 21 : Word) = w :=
      (isField_group h31 hg |>.append (isField_true h27) |>.append isField_own |>.append isField_own).whole
    exact ⟨.addi e _ _, congrArg some hw, rfl⟩

theorem hasInstr_group6 (hg : fld w 28 3 = 6) (h : illegalCause e w = none) : HasInstr e w := by
  simp only [illegalCause, h31, hg, Bool.false_eq_true, if_false] at h
  split at h
  next hop =>
    obtain ⟨h0, -⟩ := lowest_none.mp h
    have hw : (flowWord 0 (w.extractLsb' 20 4) (w.extractLsb' 0 13) : Word) = w :=
      (isField_group h31 hg |>.append (isField_fld hop) |>.append isField_own |>.append (isField_zero h0)
        |>.append isField_own).whole
    exact ⟨.bra e _ _, congrArg some hw, rfl⟩
  next hop =>
    obtain ⟨h0, -⟩ := lowest_none.mp h
    have hw : (flowWord 1 (w.extractLsb' 20 4) (w.extractLsb' 0 13) : Word) = w :=
      (isField_group h31 hg |>.append (isField_fld hop) |>.append isField_own |>.append (isField_zero h0)
        |>.append isField_own).whole
    exact ⟨.call e _ _, congrArg some hw, rfl⟩
  next hop =>
    obtain ⟨h0, -⟩ := lowest_none.mp h
    obtain ⟨h13, h0⟩ := isField_zero_zero h0
    have hw : (flowWord 2 (w.extractLsb' 20 4) 0 : Word) = w :=
      (isField_group h31 hg |>.append (isField_fld hop) |>.append isField_own |>.append h13 |>.append h0).whole
    exact ⟨.ret e _, congrArg some hw, rfl⟩
  next hop =>
    have hw : (6#4 ++ 3#4 ++ w.extractLsb' 13 11 ++ w.extractLsb' 0 13 : Word) = w :=
      (isField_group h31 hg |>.append (isField_fld hop) |>.append isField_own |>.append isField_own).whole
    exact ⟨.loop e _ _, congrArg some hw, rfl⟩
  next hop =>
    obtain ⟨h0, -⟩ := lowest_none.mp h
    have hw : (6#4 ++ 4#4 ++ w.extractLsb' 18 6 ++ 0#5 ++ w.extractLsb' 0 13 : Word) = w :=
      (isField_group h31 hg |>.append (isField_fld hop) |>.append isField_own |>.append (isField_zero h0)
        |>.append isField_own).whole
    exact ⟨.loopr e _ _, congrArg some hw, rfl⟩
  next hop =>
    obtain ⟨h0, -⟩ := lowest_none.mp h
    obtain ⟨h13, h0⟩ := isField_zero_zero h0
    have hw : (flowWord 5 (w.extractLsb' 20 4) 0 : Word) = w :=
      (isField_group h31 hg |>.append (isField_fld hop) |>.append isField_own |>.append h13 |>.append h0).whole
    exact ⟨.exit e _, congrArg some hw, rfl⟩
  next hop =>
    obtain ⟨h0, -⟩ := lowest_none.mp h
    have hw : (flowWord 6 (w.extractLsb' 20 4) (w.extractLsb' 0 13) : Word) = w :=
      (isField_group h31 hg |>.append (isField_fld hop) |>.append isField_own |>.append (isField_zero h0)
        |>.append isField_own).whole
    exact ⟨.brx e _ _, congrArg some hw, rfl⟩
  · nomatch h

theorem hasInstr_group7 (hg : fld w 28 3 = 7) (h : illegalCause e w = none) : HasInstr e w := by
  simp only [illegalCause, h31, hg, Bool.false_eq_true, if_false] at h
  split at h
  next hop =>
    obtain ⟨h0, -⟩ := lowest_none.mp h
    have hw : (7#4 ++ 0#3 ++ w.extractLsb' 22 3 ++ w.extractLsb' 20 2 ++ b1 (bit w 19) ++ w.extractLsb' 9 10
        ++ w.extractLsb' 1 8 ++ 0#1 : Word) = w :=
      (isField_group h31 hg |>.append (isField_fld hop) |>.append isField_own |>.append isField_own
        |>.append (isField_bit w 19) |>.append isField_own |>.append isField_own |>.append (isField_false h0)).whole
    exact ⟨.frd e _ _ _ _ _, congrArg some hw, rfl⟩
  next hop =>
    obtain ⟨h0, -⟩ := lowest_none.mp h
    have hw : (7#4 ++ 1#3 ++ w.extractLsb' 22 3 ++ w.extractLsb' 20 2 ++ b1 (bit w 19) ++ w.extractLsb' 9 10
        ++ w.extractLsb' 1 8 ++ 0#1 : Word) = w :=
      (isField_group h31 hg |>.append (isField_fld hop) |>.append isField_own |>.append isField_own
        |>.append (isField_bit w 19) |>.append isField_own |>.append isField_own |>.append (isField_false h0)).whole
    exact ⟨.fwr e _ _ _ _ _, congrArg some hw, rfl⟩
  next hop =>
    have hw : (7#4 ++ 2#3 ++ w.extractLsb' 22 3 ++ w.extractLsb' 20 2 ++ w.extractLsb' 18 2
        ++ w.extractLsb' 16 2 ++ w.extractLsb' 0 16 : Word) = w :=
      (isField_group h31 hg |>.append (isField_fld hop) |>.append isField_own |>.append isField_own |>.append isField_own
        |>.append isField_own |>.append isField_own).whole
    exact ⟨.dlr e _ _ _ _ _, congrArg some hw, rfl⟩
  next hop =>
    have hw : (7#4 ++ 3#3 ++ w.extractLsb' 22 3 ++ w.extractLsb' 20 2 ++ w.extractLsb' 18 2
        ++ w.extractLsb' 16 2 ++ w.extractLsb' 0 16 : Word) = w :=
      (isField_group h31 hg |>.append (isField_fld hop) |>.append isField_own |>.append isField_own |>.append isField_own
        |>.append isField_own |>.append isField_own).whole
    exact ⟨.dlw e _ _ _ _ _, congrArg some hw, rfl⟩
  next hop =>
    split at h
    next hfn =>
      rw [fld_extract] at hfn
      obtain ⟨i, -, hw, he⟩ := sysInstr_encode e (w.extractLsb' 16 3) (w.extractLsb' 0 16) (hfn ▸ Option.some_ne_none _)
      have hf : sysWord (w.extractLsb' 19 6) (w.extractLsb' 16 3) (w.extractLsb' 0 16) = w :=
        (isField_group h31 hg |>.append (isField_fld hop) |>.append isField_own |>.append isField_own
          |>.append isField_own).whole
      exact ⟨i, hw.trans (congrArg some hf), he⟩
    · nomatch h
  · nomatch h

end

/-- R87, R128: a word without a cause is the word of an instruction. -/
theorem hasInstr_of_legal (h : illegalCause e w = none) : HasInstr e w := by
  cases h31 : bit w 31 with
  | true => exact hasInstr_parallel h31 h
  | false =>
    have hlt : fld w 28 3 < 8 := Nat.mod_lt _ (by decide)
    match hg : fld w 28 3 with
    | 0 => exact hasInstr_group0 h31 hg h
    | 1 => exact hasInstr_group1 h31 hg h
    | 2 => exact hasInstr_group2 h31 hg h
    | 3 => exact hasInstr_group3 h31 hg
    | 4 => exact hasInstr_group4 h31 hg h
    | 5 => exact hasInstr_group5 h31 hg h
    | 6 => exact hasInstr_group6 h31 hg h
    | 7 => exact hasInstr_group7 h31 hg h
    | n + 8 => omega

end

/-- Settles O4: the fields of a word are those of its instruction, and a legal word is put together from its fields. -/
theorem engineWordsRoundTrip : Obligations.EngineWordsRoundTrip := by
  refine ⟨fun i e w he hw => wordInstr_encode he hw, fun i e w hd => ?_,
    fun e w => ⟨fun hd => ?_, fun ⟨c, hc, _⟩ => ?_⟩⟩
  · unfold decodeEnlia at hd
    split at hd
    · nomatch hd
    next hc =>
      obtain ⟨j, hw, he⟩ := hasInstr_of_legal (Option.not_isSome_iff_eq_none.mp hc)
      obtain rfl := Option.some.inj (hd.symm.trans (wordInstr_encode he hw))
      exact ⟨hw, he⟩
  · unfold decodeEnlia at hd
    split at hd
    next hc =>
      obtain ⟨c, hc⟩ := Option.isSome_iff_exists.mp hc
      exact ⟨c, hc, illegalCause_causeOk e w c hc⟩
    next hc =>
      obtain ⟨j, hw, he⟩ := hasInstr_of_legal (Option.not_isSome_iff_eq_none.mp hc)
      exact absurd ((wordInstr_encode he hw).symm.trans hd) (Option.some_ne_none j)
  · rw [decodeEnlia, hc]
    rfl

end Sys2Proof.Machine

end
